-- ==== Sys2Proof/Word.lean ====
section
/-! DEFINITION. The word types of the part: bytes of frames, 16-bit table words, 32-bit timebase values. -/

namespace Sys2Proof

/-- One byte of a frame, a request or a response (R212). -/
abbrev Byte := BitVec 8

/-- One word of a table (R188, R211). -/
abbrev Word := BitVec 16

/-- One 32-bit field of a request: a point value, a twist, a seconds count (R213). -/
abbrev Long := BitVec 32

/-- A value of the 32-bit microsecond timebase, which wraps (R24). -/
abbrev Micros := BitVec 32

end Sys2Proof
end

