-- ==== Sys2Proof/Syntax.lean ====
section
/-! DEFINITION. The commands of the part: one constructor of `Instr` per row of spec/opcode_table.json. -/

namespace Sys2Proof

/-- The two lanes (R4). -/
inductive Lane where
  | out | ret
  deriving DecidableEq, Repr

/-- The two receiving ports (R1). -/
inductive RxId where
  | p0 | p2
  deriving DecidableEq, Repr

/-- Where the out-lane engine takes a frame from (R22): cut-through from P0, the hold buffer, or the island
generator. -/
inductive OutSource where
  | p0 | holdBuffer | island
  deriving DecidableEq, Repr

/-- A byte reaching a receiver or engine: it arrives at P0 or P2, or it is the next byte of the held frame or of
the island frame on its way to the out-lane engine (R4, R22, R181). -/
inductive ByteSource where
  | p0 (b : Byte) | holdBuffer | island | p2 (b : Byte)
  deriving DecidableEq, Repr

/-- The blocks that act in the event of a return-lane commit, and the raises of the commit's staged faults. The
data book lets each pair fall in either order (R52, R76, R98, R121, R136, R156, R165). -/
inductive Block where
  | stagedFaults | envelope | thermal | arbiter | decision | sequencer | tracker | faultOutputs | watches
  deriving DecidableEq, Repr

/-- The requests of the service slot with their arguments (R213). -/
inductive Request where
  | identify
  | run
  | pass
  | softReset
  | tableWrite (table : Byte) (start : Word) (words : List Word)
  | tableRead (table bank : Byte) (start : Word) (count : Byte)
  | copy (mask : Word)
  | exchange (mask generation : Word)
  | lock (mask : Word)
  | unlock (mask : Word)
  | pointRead (points : List Byte)
  | pointForce (point : Byte) (value : Long)
  | pointRelease (point : Byte)
  | slotStats (first count : Byte)
  | faultRead (code : Byte)
  | faultClear (code : Byte)
  | faultClearAll
  | logRead (sequence : Word) (count : Byte)
  | logDiscard (sequence : Word)
  | setTime (seconds : Long)
  | setHeading (count : Word)
  | setTwist (twist : Long)
  | yawMode (mode : Byte)
  | yawTarget (heading : Word) (choice : Byte)
  | yawSeek
  | armSupervision
  deriving DecidableEq, Repr

/-- The commands, one constructor per row of the opcode table, in the table's order. In the request rows `len` is
the length of the service slot that carries the request (R202, step 3). -/
inductive Instr where
  /-- RESET held low and released, with the levels of SERVICE and of the three sensor inputs at the release (R28). -/
  | pinReset (service toothA toothB index : Bool)
  | lineLockGained (port : RxId)
  | lineLockLost (port : RxId)
  | startDelimiterAtP0
  | frameDropped
  | p1BecomesIdle
  | outFrameStart
  | returnFrameStart
  | slotEntryApply (lane : Lane)
  | frameOverlengthCut (lane : Lane)
  /-- The end delimiter of the frame that the named source gives the out lane (R8, R22). -/
  | outFrameEnd (source : OutSource)
  /-- The end delimiter at P2; `order` is the order in which the blocks of a return-lane commit are taken, blocks
  it does not name following in the order of `Block` (log entry 5). -/
  | returnFrameEnd (order : List Block)
  | yawStepTimeout
  | reportContentsTaken
  | serviceResponseWrite
  | supervisionExpiry
  | islandFrameDue
  /-- The raw levels of the three inputs become those given and hold for `held` µs (R109). What falls due
  at the microsecond then reached is taken when that microsecond passes, and with `held` 0 nothing is taken yet (log entry
  30). `indexFirst`: of a tooth edge and an index edge falling together the index edge is taken first (R120). -/
  | filteredTransition (toothA toothB index : Bool) (held : Nat) (indexFirst : Bool)
  | forcedAdvance
  | absorptionWindowClose
  | lastEdgeForget
  /-- A second passes. The operands: whether the thermal unit, and the yaw decision, take the minute event of the
  same moment, if there is one, before the second event (R148, R172). -/
  | clockSecond (thermalMinuteFirst decisionMinuteFirst : Bool)
  | clockMinute
  | restBegin
  | restEnd
  | pumpExerciseStart
  | pumpExerciseEnd
  | identify (len : Nat)
  | run (len : Nat)
  | pass (len : Nat)
  | softReset (len : Nat)
  | tableWrite (len : Nat) (table : Byte) (start : Word) (words : List Word)
  | tableRead (len : Nat) (table bank : Byte) (start : Word) (count : Byte)
  | copy (len : Nat) (mask : Word)
  | exchange (len : Nat) (mask generation : Word)
  | lock (len : Nat) (mask : Word)
  | unlock (len : Nat) (mask : Word)
  | pointRead (len : Nat) (points : List Byte)
  | pointForce (len : Nat) (point : Byte) (value : Long)
  | pointRelease (len : Nat) (point : Byte)
  | slotStats (len : Nat) (first count : Byte)
  | faultRead (len : Nat) (code : Byte)
  | faultClear (len : Nat) (code : Byte)
  | faultClearAll (len : Nat)
  | logRead (len : Nat) (sequence : Word) (count : Byte)
  | logDiscard (len : Nat) (sequence : Word)
  | setTime (len : Nat) (seconds : Long)
  | setHeading (len : Nat) (count : Word)
  | setTwist (len : Nat) (twist : Long)
  | yawMode (len : Nat) (mode : Byte)
  | yawTarget (len : Nat) (heading : Word) (choice : Byte)
  | yawSeek (len : Nat)
  | armSupervision (len : Nat)
  | startDelimiterAtP2
  | frameByte (source : ByteSource)
  deriving DecidableEq, Repr

end Sys2Proof
end

