-- ==== Sys2Proof/Decode.lean ====
section
/-! DEFINITION. Decoding a command from the table's bits: spec/opcode_table.json gives no row any bits, so no word
spells a command. (A request is decoded from a frame's payload in Machine/Operands.lean, R202 and R213.) -/

namespace Sys2Proof

/-- The command that a word spells by the opcode table's bits. No row of the table has bits. -/
def decodeTableWord (_nbits _w : Nat) : Option Instr := none

end Sys2Proof
end

