-- ==== Sys2Proof/Config.lean ====
section
/-! DEFINITION. What the part is fixed to be, and the values its data book leaves open. -/

namespace Sys2Proof.Config

/-- The part number IDENTIFY answers (R206). -/
def partNumber : Nat := 7120

/-- The die revision IDENTIFY answers (R206). -/
def dieRevision : Nat := 1

/-- FREE VALUE (log entry 6): the heading count that arithmetic modulo PPR gives while PPR is 0, which only
the all-zero YCF left by pin reset has. R108 and R112 state no result there. -/
opaque countModZero : Int → BitVec 16

/-- FREE VALUE (log entry 6): the HEADING value floor(count × 3600 / PPR) while PPR is 0. R121 states no result
there. -/
opaque headingOverZero : Nat → BitVec 32

/-- FREE VALUE (log entry 20): the oldest sequence that LOG_READ and LOG_DISCARD answer while the log is empty, by the
next sequence number. R170 and R171 state no value there. -/
opaque oldestOfEmpty : BitVec 16 → BitVec 16

end Sys2Proof.Config
end

