-- ==== Sys2Proof/Machine/State.lean ====
section
/-! DEFINITION. The state of the part: every piece of state the data book names, block by block, with its value
after pin reset, and the queue of waiting commands. -/

namespace Sys2Proof.Machine

/-- Reasons the machine could stop with a fault. There is none: every command of the part has a next state, and what
the data book calls a fault is a fault record (R159), which is state. -/
inductive Fault where
  deriving DecidableEq, Repr

/-- Reasons a command could have no meaning. -/
inductive Refusal where
  /-- A row of the table without a meaning yet. Raised by no arm of `exec`; it would be safe, since the machine
  would stop where the part goes on. -/
  | notModelled (mnemonic : String)
  deriving DecidableEq, Repr

/-! ## Ports, engines and the frames in flight (chapter 1) -/

/-- The line state of a receiving port (R1). -/
inductive LineState where
  | up | down
  deriving DecidableEq, Repr

/-- What becomes of the frame now arriving at a receiving port: nothing arrives; it passes to the lane engine; it
goes into the hold buffer (R22); it is dropped (R23); its bytes after the cut at the 1025th are discarded (R7). -/
inductive RxMode where
  | none | passing | buffering | dropping | discarding
  deriving DecidableEq, Repr

/-- A receiving port. `seen` keeps the first two bytes of a frame being dropped (R23). -/
structure RxPort where
  line : LineState
  mode : RxMode
  seen : List Byte
  deriving DecidableEq, Repr

/-- A transmitting port (R2, R22): BUSY or IDLE, the bytes of the frame it sends or last sent, and whether that
frame's end delimiter has gone. -/
structure TxPort where
  busy : Bool
  bytes : List Byte
  ended : Bool
  deriving DecidableEq, Repr

/-- The hold buffer of P1 (R22). `occupied` false is EMPTY. `bytes` are those stored and not yet left, `stored` how
many were stored, `overrun` that a 1025th byte arrived, `ended` how the frame's end reached the buffer (`some true`: as
a truncation), `leaving` that the held frame has begun on P1. -/
structure HoldBuffer where
  occupied : Bool
  bytes : List Byte
  stored : Nat
  overrun : Bool
  ended : Option Bool
  leaving : Bool
  deriving DecidableEq, Repr

/-- The origin of a frame in flight (R16). -/
inductive Origin where
  | master | island
  deriving DecidableEq, Repr

/-- The out-lane outcome of a frame in flight (R16). -/
inductive FrameOutcome where
  | pending | good | bad
  deriving DecidableEq, Repr

/-- A record of the frames-in-flight list (R16). `id` is the model's own serial number of the record. -/
structure FlightRecord where
  id : Nat
  cycle : Nat
  generation : Word
  origin : Origin
  outcome : FrameOutcome
  response : Option (List Byte)
  deriving DecidableEq, Repr

/-- A fault staged in passage: a CHECK mismatch or a SLOT_SHORT, with its context (R10). -/
structure StagedFault where
  code : Nat
  context : Int
  deriving DecidableEq, Repr

/-- The staging set of a lane engine (R10). `values` holds at most one value per point. -/
structure Staging where
  values : List (Nat × Int)
  faults : List StagedFault
  misplaced : List Nat
  tags : List Byte
  request : Option (List Byte)
  deriving DecidableEq, Repr

/-- Where the walk of a frame's bytes stands (R4 to R6): in the header, before a slot's tag, before its length, in a
payload of `len` bytes with `left` still to come, in the check, or past a framing error. -/
inductive Parse where
  | header | tag | length (tag : Byte) | payload (tag : Byte) (len left : Nat) | check | lost
  deriving DecidableEq, Repr

/-- To what a return-lane frame is bound for its service slot (R17, R18, R19): a record standing in the list; one that
was removed while the frame was in passage, kept as it stood, since the frame keeps its binding (R28); the soft-reset
carrier's response; or nothing. -/
inductive Binding where
  | record (id : Nat) | removed (r : FlightRecord) | carrier (response : List Byte) | unbound
  deriving DecidableEq, Repr

/-- A lane engine and the frame in passage through it (R4 to R10, R17 to R20, R31). `recv` are the bytes received,
`held` those received and not yet forwarded, as rewritten, of which the last `buffered` stand in the slot buffer.
`entry` is the slot-map position found for the slot in the buffer, `capture` that the slot is a request being
captured, `overlay` the bytes that replace the coming payload bytes, `report` the report contents taken for this
frame. `voided` says that the frame was in passage at a SOFT_RESET and commits nothing at its end (R28, R75). `cycle`
and `record` name the frame last started and stay when it has ended. -/
structure Engine where
  isOpen : Bool
  source : OutSource
  recv : List Byte
  held : List Byte
  parse : Parse
  ordinal : Nat
  started : Bool
  active : Bool
  voided : Bool
  generation : Word
  binding : Binding
  cycle : Nat
  record : Option Nat
  entry : Option Nat
  buffered : Nat
  capture : Bool
  overlay : List Byte
  report : Option (List Byte)
  staging : Staging
  deriving DecidableEq, Repr

/-- The operating state (R25). -/
inductive OpState where
  | pass | run | island
  deriving DecidableEq, Repr

/-- The strap mode (R28). -/
inductive StrapMode where
  | normal | service
  deriving DecidableEq, Repr

/-- A raw input level and the timebase value since which it has stood (R109). -/
structure RawInput where
  level : Bool
  since : Micros
  deriving DecidableEq, Repr

/-- The three sensor inputs (R109). -/
structure Inputs where
  toothA : RawInput
  toothB : RawInput
  index : RawInput
  deriving DecidableEq, Repr

/-! ## Points and slot map (chapter 2) -/

/-- The quality of a point (R41). -/
inductive Quality where
  | empty | fresh | stale | forced
  deriving DecidableEq, Repr

/-- A point record (R41). -/
structure Point where
  value : Int
  quality : Quality
  age : Nat
  deriving DecidableEq, Repr

/-- The counters of one slot-map entry position (R39). -/
structure EntryHits where
  clamp : Nat
  short : Nat
  deriving DecidableEq, Repr

/-! ## Table banks (chapter 10) -/

/-- One copy of a table with its validity flag (R188). -/
structure TableCopy where
  words : List Word
  valid : Bool
  deriving DecidableEq, Repr

/-- The bank state (R190). -/
inductive BankStatus where
  | idle | scheduled (mask : Word) | draining
  deriving DecidableEq, Repr

/-- The last accepted exchange (R188, R194). -/
structure LastExchange where
  mask : Word
  fromGeneration : Word
  deriving DecidableEq, Repr

/-- The table banks (R188), each list in order of table id 0 to 8. -/
structure Banks where
  active : List TableCopy
  shadow : List TableCopy
  locks : List Bool
  generation : Word
  status : BankStatus
  lastExchange : Option LastExchange
  deriving DecidableEq, Repr

/-! ## Envelope, thermal unit, arbiter (chapters 3 to 5) -/

/-- The ride-through states (R51). -/
inductive RideThrough where
  | normal | sag | swell | recovery | tripped
  deriving DecidableEq, Repr

/-- The envelope unit (R51). `history` is empty while unfilled. -/
structure Envelope where
  limit : Nat
  tripSeen : Bool
  rideThrough : RideThrough
  exposure : Nat
  swellCount : Nat
  recoveryCount : Nat
  lastSagFactor : Nat
  exitFactor : Nat
  history : List Int
  vAvg : Option Int
  deriving DecidableEq, Repr

/-- The thermal and coolant unit (R77), but for the pump claim, which the arbiter holds (R96), and the conditions,
which the fault records hold (R154). -/
structure Thermal where
  rises : List Int
  seeded : Bool
  pumpCommand : Nat
  fanRequest : Nat
  idleCountdown : Option Nat
  exercise : Option Nat
  deriving DecidableEq, Repr

/-- The auxiliary budget arbiter (R96). -/
structure Arbiter where
  pumpClaim : Nat
  fanClaim : Nat
  yawClaim : Option Nat
  pumpGrant : Nat
  fanGrant : Nat
  yawGrant : Option Nat
  grantPumpMax : Nat
  deriving DecidableEq, Repr

/-! ## Yaw: tracker, sequencer, decision (chapters 6 and 7) -/

/-- The heading quality (R108). -/
inductive HeadingQuality where
  | unreferenced | referenced | deadReckoned
  deriving DecidableEq, Repr

/-- The expected-edge timer when RUNNING (R115). -/
structure EdgeTimer where
  start : Micros
  limit : Nat
  deriving DecidableEq, Repr

/-- The absorption window when OPEN (R116, R117). -/
structure Window where
  direction : Int
  start : Micros
  length : Nat
  deriving DecidableEq, Repr

/-- The heading tracker (R108). -/
structure Tracker where
  filtA : Bool
  filtB : Bool
  filtIndex : Bool
  quadA : Bool
  quadB : Bool
  heading : Nat
  quality : HeadingQuality
  twist : Int
  twistSet : Bool
  lastEdge : Option Micros
  history : List Nat
  baseTime : Nat
  timer : Option EdgeTimer
  window : Option Window
  deadReckon : Nat
  forcedRun : Nat
  bounces : Nat
  slips : Nat
  slipRaised : Bool
  deriving DecidableEq, Repr

/-- The yaw modes (R138). -/
inductive YawMode where
  | hold | auto | unwind | storm | manual | seek
  deriving DecidableEq, Repr

/-- What a move aims at (R127). -/
inductive TargetKind where
  | heading | twist
  deriving DecidableEq, Repr

/-- The move record (R127). -/
structure MoveRecord where
  direction : Int
  remaining : Int
  target : TargetKind
  mode : YawMode
  driveMask : Nat
  deriving DecidableEq, Repr

/-- The move phases (R127). -/
inductive Phase where
  | none | waiting | running | parked
  deriving DecidableEq, Repr

/-- The causes with which a move ends (R132). -/
inductive EndCause where
  | completed | stopped | lost | aborted | refused
  deriving DecidableEq, Repr

/-- The yaw sequencer (R127). -/
structure Sequencer where
  step : Nat
  phase : Phase
  record : Option MoveRecord
  commits : Nat
  counts : Nat
  deriving DecidableEq, Repr

/-- The way chosen by YAW_TARGET (R144). -/
inductive TurnChoice where
  | cw | ccw | short
  deriving DecidableEq, Repr

/-- The target of the last accepted YAW_TARGET (R138). -/
structure ManualTarget where
  heading : Nat
  choice : TurnChoice
  deriving DecidableEq, Repr

/-- The yaw decision (R138). -/
structure Decision where
  mode : YawMode
  misalignment : Int
  startDwell : Nat
  wind : Option Int
  stormEnter : Nat
  stormExit : Nat
  blocked : Bool
  lastTarget : Option ManualTarget
  duty : Nat
  driveSeen : Bool
  rest : Option Nat
  deriving DecidableEq, Repr

/-! ## Faults, clock, supervision (chapters 8 and 9) -/

/-- A fault record (R159). -/
structure FaultRecord where
  condition : Bool
  latch : Bool
  pending : Bool
  reasserted : Bool
  count : Nat
  context : Int
  raiseTime : Long
  deriving DecidableEq, Repr

/-- The spotlight in flight with its raised-again mark (R166). -/
structure Spotlight where
  code : Nat
  raisedAgain : Bool
  deriving DecidableEq, Repr

/-- The action summary (R164). -/
structure Summary where
  derate : Nat
  yawHold : Bool
  pumpBoost : Bool
  trip : Bool
  severity : Nat
  deriving DecidableEq, Repr

/-- The kinds of a log record (R168). -/
inductive LogKind where
  | raised | reasserted | cleared | ended
  deriving DecidableEq, Repr

/-- A record of the fault log (R168). -/
structure LogRecord where
  sequence : Word
  code : Nat
  kind : LogKind
  seconds : Long
  timeSet : Bool
  cycle : Nat
  context : Int
  deriving DecidableEq, Repr

/-- The fault log, oldest record first, and the next sequence number (R168). -/
structure FaultLog where
  records : List LogRecord
  next : Word
  deriving DecidableEq, Repr

/-- The real-time clock (R172). -/
structure Clock where
  seconds : Long
  phaseStart : Micros
  timeSet : Bool
  deriving DecidableEq, Repr

/-- The island timer when RUNNING (R175). -/
structure IslandTimer where
  start : Micros
  period : Nat
  deriving DecidableEq, Repr

/-- The supervision and island generator (R175). -/
structure Supervision where
  armed : Bool
  limit : Nat
  timer : Option Micros
  islandTimer : Option IslandTimer
  waiting : Bool
  deriving DecidableEq, Repr

/-! ## Consequences at the same moment -/

/-- What a command has brought about, at the same moment, that the opcode table lists as a row of its own and that
has not been taken yet (log entry 4). `minute` says whether the thermal unit and the yaw decision have still to take
the minute event; the tracker always has. -/
inductive Due where
  | frameStart (lane : Lane)
  | slotApply (lane : Lane)
  | overlengthCut (lane : Lane)
  | reportTaken
  | serviceWrite
  | stepTimeout
  | minute (thermal decision : Bool)
  | restBegin
  | restEnd
  | exerciseStart
  | exerciseEnd
  deriving DecidableEq, Repr

/-! ## The whole state -/

/-- The state of the part. `pending` is the queue of waiting commands, first in first out; `due` the consequences not
yet taken; `nextFlight` the serial number of the next frames-in-flight record; `response` the response last formed
by the service interpreter, kept as an observation (R203). -/
structure State where
  pending : List Instr
  due : List Due
  rx0 : RxPort
  rx2 : RxPort
  p1 : TxPort
  p3 : TxPort
  hold : HoldBuffer
  islandBytes : List Byte
  outLane : Engine
  retLane : Engine
  outBad : Nat
  retBad : Nat
  prevCycle : Option Nat
  flight : List FlightRecord
  nextFlight : Nat
  carrier : Option (Nat × List Byte)
  opState : OpState
  strap : StrapMode
  timebase : Micros
  inputs : Inputs
  entryHits : List EntryHits
  points : List Point
  banks : Banks
  envelope : Envelope
  thermal : Thermal
  arbiter : Arbiter
  tracker : Tracker
  sequencer : Sequencer
  decision : Decision
  faults : List FaultRecord
  spotlight : Option Spotlight
  summary : Summary
  log : FaultLog
  clock : Clock
  supervision : Supervision
  response : Option (List Byte)
  deriving DecidableEq, Repr

/-! ## Reset values -/

/-- A receiving port after pin reset (R28): DOWN, no frame. -/
def RxPort.reset : RxPort := { line := .down, mode := .none, seen := [] }

/-- A transmitting port after pin reset (R28): IDLE. -/
def TxPort.reset : TxPort := { busy := false, bytes := [], ended := false }

/-- The hold buffer EMPTY (R28). -/
def HoldBuffer.empty : HoldBuffer :=
  { occupied := false, bytes := [], stored := 0, overrun := false, ended := none, leaving := false }

/-- The empty staging set (R10, R28). -/
def Staging.empty : Staging := { values := [], faults := [], misplaced := [], tags := [], request := none }

/-- A lane engine with no frame in passage (R28). -/
def Engine.reset : Engine :=
  { isOpen := false, source := .p0, recv := [], held := [], parse := .header, ordinal := 0, started := false,
    active := false, voided := false, generation := 0, binding := .unbound, cycle := 0, record := none, entry := none, buffered := 0,
    capture := false, overlay := [], report := none, staging := .empty }

/-- A point after reset (R41). -/
def Point.reset : Point := { value := 0, quality := .empty, age := 0 }

/-- The counters of an entry position after reset (R39). -/
def EntryHits.reset : EntryHits := { clamp := 0, short := 0 }

/-- The number of words of each table, in order of id (R188). -/
def tableSizes : List Nat := [1328, 16, 16, 31, 31, 28, 37, 128, 29]

/-- A table copy after pin reset: all words 0, invalid (R188). -/
def TableCopy.reset (size : Nat) : TableCopy := { words := List.replicate size 0, valid := false }

/-- The table banks after pin reset (R188). -/
def Banks.reset : Banks :=
  { active := tableSizes.map TableCopy.reset, shadow := tableSizes.map TableCopy.reset,
    locks := List.replicate 9 false, generation := 0, status := .idle, lastExchange := none }

/-- The envelope unit after either reset (R51). -/
def Envelope.reset : Envelope :=
  { limit := 0, tripSeen := false, rideThrough := .normal, exposure := 0, swellCount := 0, recoveryCount := 0,
    lastSagFactor := 32768, exitFactor := 32768, history := [], vAvg := none }

/-- The thermal and coolant unit after either reset (R77). -/
def Thermal.reset : Thermal :=
  { rises := List.replicate 12 0, seeded := false, pumpCommand := 0, fanRequest := 0, idleCountdown := none,
    exercise := none }

/-- The arbiter after either reset (R96). -/
def Arbiter.reset : Arbiter :=
  { pumpClaim := 0, fanClaim := 0, yawClaim := none, pumpGrant := 0, fanGrant := 0, yawGrant := none,
    grantPumpMax := 0 }

/-- The heading tracker after pin reset, with the raw levels at the release of RESET (R108, R109). -/
def Tracker.reset (a b index : Bool) : Tracker :=
  { filtA := a, filtB := b, filtIndex := index, quadA := a, quadB := b, heading := 0, quality := .unreferenced,
    twist := 0, twistSet := false, lastEdge := none, history := [], baseTime := 0, timer := none, window := none,
    deadReckon := 0, forcedRun := 0, bounces := 0, slips := 0, slipRaised := false }

/-- The yaw sequencer after either reset (R127). -/
def Sequencer.reset : Sequencer := { step := 0, phase := .none, record := none, commits := 0, counts := 0 }

/-- The yaw decision after either reset (R138). -/
def Decision.reset : Decision :=
  { mode := .hold, misalignment := 0, startDwell := 0, wind := none, stormEnter := 0, stormExit := 0,
    blocked := false, lastTarget := none, duty := 0, driveSeen := false, rest := none }

/-- A fault record after either reset (R159). -/
def FaultRecord.reset : FaultRecord :=
  { condition := false, latch := false, pending := false, reasserted := false, count := 0, context := 0,
    raiseTime := 0 }

/-- The action summary after either reset (R174). -/
def Summary.reset : Summary := { derate := 0, yawHold := false, pumpBoost := false, trip := false, severity := 0 }

/-- The clock after pin reset (R172). -/
def Clock.reset : Clock := { seconds := 0, phaseStart := 0, timeSet := false }

/-- The supervision and island generator after pin reset (R175). -/
def Supervision.reset : Supervision :=
  { armed := false, limit := 0, timer := none, islandTimer := none, waiting := false }

/-- Every block at its pin-reset values, with the strap mode and the raw levels sampled at the release of RESET,
before TIME_NOT_SET is raised (R28 and the reset tables of the chapters). -/
def State.cleared (strap : StrapMode) (a b index : Bool) : State :=
  { pending := [], due := [], rx0 := .reset, rx2 := .reset, p1 := .reset, p3 := .reset, hold := .empty,
    islandBytes := [], outLane := .reset, retLane := .reset, outBad := 0, retBad := 0, prevCycle := none,
    flight := [], nextFlight := 0, carrier := none, opState := .pass, strap := strap, timebase := 0,
    inputs := { toothA := { level := a, since := 0 }, toothB := { level := b, since := 0 },
                index := { level := index, since := 0 } },
    entryHits := List.replicate 48 .reset, points := List.replicate 256 .reset, banks := .reset,
    envelope := .reset, thermal := .reset, arbiter := .reset, tracker := .reset a b index, sequencer := .reset,
    decision := .reset, faults := List.replicate 64 .reset, spotlight := none, summary := .reset,
    log := { records := [], next := 0 }, clock := .reset, supervision := .reset, response := none }

/-- The part right after pin reset (R28): every block at its reset values, and TIME_NOT_SET (code 33) raised with
context 0 at the release (R173). Under the all-zero FAT that raise sets the latch, brings the highest severity to
INFO and so writes DERATE_LEVEL and FAULT_SEV (R160, R164, R165; log entry 2). SERVICE is low and the sensor inputs,
which have pull-ups, are high: DESIGN CHOICE, log entry 3. -/
def State.reset : State :=
  let s := State.cleared .normal true true true
  { s with
    faults := s.faults.set 33 { FaultRecord.reset with condition := true, latch := true, count := 1 }
    summary := { Summary.reset with severity := 1 }
    points := (s.points.set 45 { value := 0, quality := .fresh, age := 0 }).set 61
      { value := 1, quality := .fresh, age := 0 } }

end Sys2Proof.Machine
end

