-- ==== Sys2Proof/Machine/Ops.lean ====
section
/-! DEFINITION. The named operations over bytes, time, points and engines that the blocks share. -/

namespace Sys2Proof.Machine

/-! ## Numbers and bytes -/

/-- Replace a result outside the range `lo` to `hi` by the nearer end (00 section 7.4). -/
def saturate (lo hi x : Int) : Int := max lo (min x hi)

/-- The same for a counter that saturates at `hi`, increased by one. -/
def bump (hi n : Nat) : Nat := min hi (n + 1)

/-- The ends of the signed 32-bit range (R41). -/
def i32Min : Int := -2147483648

/-- The greatest signed 32-bit number (R41). -/
def i32Max : Int := 2147483647

/-- A number given by big-endian bytes, as plain binary (R211). -/
def beNat (bs : List Byte) : Nat := bs.foldl (fun acc b => acc * 256 + b.toNat) 0

/-- The low `8 * w` bits of a number as `w` big-endian bytes (R211). -/
def beBytes : Nat → Nat → List Byte
  | 0, _ => []
  | w + 1, n => BitVec.ofNat 8 (n / 256 ^ w) :: beBytes w n

/-- The range of a field of `w` bytes (R32). -/
def fieldMin (signed : Bool) (w : Nat) : Int := if signed then -(2 ^ (8 * w - 1) : Nat) else 0

/-- The range of a field of `w` bytes (R32). -/
def fieldMax (signed : Bool) (w : Nat) : Int :=
  if signed then ((2 ^ (8 * w - 1) : Nat) : Int) - 1 else ((2 ^ (8 * w) : Nat) : Int) - 1

/-- A number read from the bytes of a field: two's complement or plain binary (R32). -/
def fieldRead (signed : Bool) (bs : List Byte) : Int :=
  let n : Nat := beNat bs
  if signed && decide (2 ^ (8 * bs.length - 1) ≤ n) then (n : Int) - (2 ^ (8 * bs.length) : Nat)
  else n

/-- A number written into a field of `w` bytes: saturated to the field's range, then encoded (R32, R211). -/
def fieldWrite (signed : Bool) (w : Nat) (x : Int) : List Byte :=
  let y := saturate (fieldMin signed w) (fieldMax signed w) x
  beBytes w (y % ((2 ^ (8 * w) : Nat) : Int)).toNat

/-- An unsigned response or report field of `w` bytes (R211). -/
def putU (w : Nat) (x : Nat) : List Byte := fieldWrite false w x

/-- A signed response or report field of `w` bytes (R211). -/
def putS (w : Nat) (x : Int) : List Byte := fieldWrite true w x

/-- The bytes of `l` cut or filled with 0 to length `n` (R204). -/
def padTo (n : Nat) (l : List Byte) : List Byte := l.take n ++ List.replicate (n - l.length) 0

/-- One bit shifted into the frame check register, x^16 + x^12 + x^5 + 1 (R211). -/
def crcBit (crc : BitVec 16) (bit : Bool) : BitVec 16 :=
  if (crc.getLsbD 15) != bit then (crc <<< 1) ^^^ 0x1021#16 else crc <<< 1

/-- One byte fed to the frame check, most significant bit first (R211). -/
def crcByte (crc : BitVec 16) (b : Byte) : BitVec 16 :=
  [7, 6, 5, 4, 3, 2, 1, 0].foldl (fun c i => crcBit c (b.getLsbD i)) crc

/-- The frame check over bytes in frame order, from 0xFFFF and without a final inversion (R211). -/
def crc16 (bs : List Byte) : BitVec 16 := bs.foldl crcByte 0xFFFF#16

/-- A frame check as its two bytes, high byte first (R211). -/
def checkBytes (crc : BitVec 16) : List Byte := beBytes 2 crc.toNat

/-! ## Curves (R50) -/

/-- The lookup of a curve given by its breakpoints in order (R50). -/
def curve : List (Int × Int) → Int → Int
  | [], _ => 0
  | [(_, y)], _ => y
  | (x0, y0) :: (x1, y1) :: rest, x =>
    if x ≤ x0 then y0
    else if x < x1 then y0 + Int.tdiv ((y1 - y0) * (x - x0)) (x1 - x0)
    else curve ((x1, y1) :: rest) x

/-! ## Time (R24) -/

/-- Microseconds from `start` to now, modulo 2^32 (R24). -/
def State.elapsed (s : State) (start : Micros) : Nat := (s.timebase - start).toNat

/-- The timebase moved forward by `n` µs (R24), in which nothing falls: `letPass` (Machine/Timed.lean) takes what falls in
the time that passes. -/
def State.passTime (s : State) (n : Nat) : State := { s with timebase := s.timebase + BitVec.ofNat 32 n }

/-! ## Points (R41 to R44) -/

/-- The record of a point (R41). -/
def State.point (s : State) (n : Nat) : Point := s.points.getD n .reset

/-- The value of a point (R41). -/
def State.pointValue (s : State) (n : Nat) : Int := (s.point n).value

/-- A point that a job may use as it stands: FRESH or FORCED. -/
def Point.live (p : Point) : Bool := p.quality == .fresh || p.quality == .forced

/-- An output write: value, FRESH, age 0 (R44). -/
def outputWrite (n : Nat) (v : Int) (s : State) : State :=
  { s with points := s.points.set n { value := v, quality := .fresh, age := 0 } }

/-- One staged pair of a commit (R43): a FORCED point is left as it is. -/
def commitPoint (ps : List Point) (n : Nat) (v : Int) : List Point :=
  if (ps.getD n .reset).quality = .forced then ps
  else ps.set n { value := v, quality := .fresh, age := 0 }

/-- The points after a commit of the staged pairs (R43). -/
def commitPoints (ps : List Point) (values : List (Nat × Int)) : List Point :=
  values.foldl (fun acc nv => commitPoint acc nv.1 nv.2) ps

/-- The written set of a commit: the staged points that are not FORCED (R43). -/
def writtenSet (ps : List Point) (values : List (Nat × Int)) : List Nat :=
  (values.map Prod.fst).filter (fun n => decide ((ps.getD n .reset).quality ≠ .forced))

/-- One point at the ageing step, with its staleness limit (R42). -/
def agePoint (advance limit : Nat) (p : Point) : Point :=
  let age := min 255 (p.age + advance)
  { p with age := age, quality := if p.quality = .fresh ∧ limit < age then .stale else p.quality }

/-- A point's record when it is released from a force (R46). -/
def releasePoint (p : Point) : Point := if p.quality = .forced then { p with quality := .stale } else p

/-- A write of PUMP_SPEED by the thermal unit or the arbiter, which the idle countdown follows (R89). `interval` is
the ACTIVE exercise interval. -/
def pumpWrite (interval : Nat) (v : Int) (s : State) : State :=
  let s := outputWrite 40 v s
  let countdown :=
    if 0 < v then none
    else match s.thermal.idleCountdown with
      | some c => some c
      | none => if interval = 0 then none else some interval
  { s with thermal := { s.thermal with idleCountdown := countdown } }

/-! ## Engines, ports, dues -/

/-- The engine of a lane (R4). -/
def State.engine (s : State) : Lane → Engine
  | .out => s.outLane
  | .ret => s.retLane

/-- The state with a lane's engine replaced. -/
def State.setEngine (s : State) (lane : Lane) (e : Engine) : State :=
  match lane with
  | .out => { s with outLane := e }
  | .ret => { s with retLane := e }

/-- A consequence added to those outstanding at this moment (log entry 4). -/
def State.addDue (s : State) (d : Due) : State := { s with due := s.due ++ [d] }

/-- Whether the jobs are fed: RUN or ISLAND (R5, R27). -/
def State.running (s : State) : Bool := s.opState != .pass

/-- The kinds of a frame (R212). -/
def kindCycle : Byte := 0x5A

/-- The kinds of a frame (R212). -/
def kindIsland : Byte := 0xA5

/-- Byte `i` of the frame received so far, 0 where none has come. -/
def Engine.byteAt (e : Engine) (i : Nat) : Byte := e.recv.getD i 0

/-- The kind byte of the frame in passage (R212). -/
def Engine.kind (e : Engine) : Byte := e.byteAt 0

/-- The cycle count in a cycle byte (R212). -/
def cycleOf (b : Byte) : Nat := b.toNat % 128

/-- The restart flag in a cycle byte (R212). -/
def restartOf (b : Byte) : Bool := b.getLsbD 7

/-- The slot count of the frame in passage (R212). -/
def Engine.slotCount (e : Engine) : Nat := (e.byteAt 2).toNat

/-- The declared total length of the frame in passage (R212). -/
def Engine.total (e : Engine) : Nat := (e.byteAt 3).toNat * 256 + (e.byteAt 4).toNat

/-- Whether the frame's framing is consistent at its end delimiter and its check matches (R6). -/
def Engine.sound (e : Engine) : Bool :=
  e.parse == .check && e.recv.length == e.total + 2 &&
    beNat (e.recv.drop e.total) == (crc16 (e.recv.take e.total)).toNat

/-- The engine when its frame has ended: no frame open, the staging set gone (R10, R13). The frame's cycle count and
record stay known. -/
def Engine.closed (e : Engine) : Engine := { Engine.reset with cycle := e.cycle, record := e.record }

/-- The engine at a frame's first moment. -/
def Engine.opened (e : Engine) (source : OutSource) : Engine := { e.closed with isOpen := true, source := source }

/-- The engine when the records `gone` leave the frames-in-flight list: a frame in passage bound to one of them keeps
its binding, with the record as it stood (R28; for a record pushed out DEDUCED, log entry 11). -/
def Engine.keeping (gone : List FlightRecord) (e : Engine) : Engine :=
  match e.binding with
  | .record id =>
    match gone.find? (fun r => r.id == id) with
    | some r => { e with binding := .removed r }
    | none => e
  | _ => e

/-- The bytes given to a lane's transmitting port: P1, or P3, which sends nothing of a frame of kind ISLAND (R21). -/
def sendBytes (lane : Lane) (bs : List Byte) (s : State) : State :=
  match lane with
  | .out => { s with p1 := { s.p1 with bytes := s.p1.bytes ++ bs } }
  | .ret => if s.retLane.kind = kindIsland then s else { s with p3 := { s.p3 with bytes := s.p3.bytes ++ bs } }

/-- The bytes held back that may go on: all but the two most recent (R8) and those in the slot buffer (R31). -/
def forwardHeld (lane : Lane) (s : State) : State :=
  let e := s.engine lane
  let n := e.held.length - max 2 e.buffered
  sendBytes lane (e.held.take n) (s.setEngine lane { e with held := e.held.drop n })

/-- The contents of the hold buffer that leave it EMPTY (R22). -/
def emptyHold (s : State) : State := { s with hold := .empty }

end Sys2Proof.Machine
end

