-- ==== Sys2Proof/Machine/Operands.lean ====
section
/-! DEFINITION. The operands of the part's work: the figures held in the tables (R216), the slot-map entries and
their fields, the requests of the service slot (R202, R213) and the statuses and fields of a response (R203, R205). -/

namespace Sys2Proof.Machine

/-! ## Words and figures of the tables (R188, R216) -/

/-- `n` bits of a word from bit `lo` up. -/
def bitsOf (w : Word) (lo n : Nat) : Nat := w.toNat / 2 ^ lo % 2 ^ n

/-- One bit of a word. -/
def bitOf (w : Word) (i : Nat) : Bool := w.getLsbD i

/-- Word `i` of a table image, 0 past its end. -/
def wordAt (ws : List Word) (i : Nat) : Word := ws.getD i 0

/-- An unsigned figure of one word. -/
def figure (ws : List Word) (i : Nat) : Nat := (wordAt ws i).toNat

/-- A signed figure of one word. -/
def signedFigure (ws : List Word) (i : Nat) : Int := (wordAt ws i).toInt

/-- A figure of two words, high word first (R211). -/
def figure2 (ws : List Word) (i : Nat) : Nat := figure ws i * 65536 + figure ws (i + 1)

/-- The ACTIVE words of a table (R188). -/
def State.active (s : State) (t : Nat) : List Word := (s.banks.active.getD t (.reset 0)).words

/-- The SHADOW words of a table (R188). -/
def State.shadow (s : State) (t : Nat) : List Word := (s.banks.shadow.getD t (.reset 0)).words

/-- The ACTIVE slot map, table 0. -/
def State.smt (s : State) : List Word := s.active 0
/-- The ACTIVE protection limits, table 1. -/
def State.plt (s : State) : List Word := s.active 1
/-- The ACTIVE thermal derate curve, table 2. -/
def State.drtT (s : State) : List Word := s.active 2
/-- The ACTIVE grid curve, table 3. -/
def State.drtG (s : State) : List Word := s.active 3
/-- The ACTIVE thermal and coolant table, table 4. -/
def State.thm (s : State) : List Word := s.active 4
/-- The ACTIVE yaw configuration, table 5. -/
def State.ycf (s : State) : List Word := s.active 5
/-- The ACTIVE yaw step table, table 6. -/
def State.yst (s : State) : List Word := s.active 6
/-- The ACTIVE fault action table, table 7. -/
def State.fat (s : State) : List Word := s.active 7
/-- The ACTIVE island template, table 8. -/
def State.itp (s : State) : List Word := s.active 8

/-! ### Slot map (R29, R30, R216) -/

/-- A field action (R29). `kind` is 0 EXTRACT, 1 INSERT, 2 CLAMP, 3 CHECK; the word image can hold 4 to 7, which
validation refuses (R40). -/
structure FieldAction where
  displacement : Nat
  width : Nat
  signed : Bool
  kind : Nat
  noPointA : Bool
  noPointB : Bool
  pointA : Nat
  pointB : Nat
  tolerance : Nat
  deriving DecidableEq, Repr

/-- A slot-map entry (R29). -/
structure SlotEntry where
  tag : Nat
  lane : Lane
  required : Bool
  fieldCount : Nat
  actions : List FieldAction
  deriving DecidableEq, Repr

/-- Action `a` of the entry at position `e` (R216). -/
def fieldAction (smt : List Word) (e a : Nat) : FieldAction :=
  let w := wordAt smt (25 * e + 1 + 3 * a)
  let p := wordAt smt (25 * e + 2 + 3 * a)
  { displacement := bitsOf w 8 6, width := bitsOf w 0 3, signed := bitOf w 3, kind := bitsOf w 4 3,
    noPointA := bitOf w 7, noPointB := bitOf w 14, pointA := bitsOf p 8 8, pointB := bitsOf p 0 8,
    tolerance := figure smt (25 * e + 3 + 3 * a) }

/-- The entry at position `e` (R216), with the actions in use: the first *field count* of the eight (R29). -/
def slotEntry (smt : List Word) (e : Nat) : SlotEntry :=
  let w := wordAt smt (25 * e)
  { tag := bitsOf w 8 8, lane := if bitOf w 4 then .ret else .out, required := bitOf w 5, fieldCount := bitsOf w 0 4,
    actions := (List.range (min 8 (bitsOf w 0 4))).map (fieldAction smt e) }

/-- A used entry has a tag other than 0x00 and 0xFF (R29). -/
def SlotEntry.used (e : SlotEntry) : Bool := e.tag != 0 && e.tag != 255

/-- The position of the used entry for a tag and a lane (R29). -/
def findEntry (smt : List Word) (lane : Lane) (tag : Nat) : Option Nat :=
  (List.range 48).find? (fun e => let x := slotEntry smt e; x.used && x.tag == tag && x.lane == lane)

/-- The staleness limit of a point (R30, R216). -/
def stalenessLimit (smt : List Word) (n : Nat) : Nat :=
  let w := wordAt smt (1200 + n / 2)
  if n % 2 = 0 then bitsOf w 8 8 else bitsOf w 0 8

/-- The slot map that a frame bound to generation `g` reads (R189): the SHADOW copy when the frame is bound to an
older generation and the last exchange named table 0, else the ACTIVE copy. A return frame in passage whose record does
not stand (unbound, or removed while it passed) can come to be bound two or more generations back, of which R189 says
nothing: it reads by the same rule (DESIGN CHOICE, log entry 26). The last exchange is the last one accepted (R194), for
such a frame also while it is still SCHEDULED, though R188 calls it the one that made the current generation (DESIGN CHOICE,
log entry 36). -/
def State.boundSmt (s : State) (g : Word) : List Word :=
  let namedSmt : Bool := match s.banks.lastExchange with
    | some x => bitOf x.mask 0
    | none => false
  if g ≠ s.banks.generation ∧ namedSmt = true then s.shadow 0 else s.smt

/-! ### PLT, DRT-T, DRT-G, THM (R72 to R74, R94) -/

/-- I_rated (R72). -/
def State.iRated (s : State) : Nat := figure s.plt 0
/-- The module mask (R72). -/
def State.moduleEnabled (s : State) (m : Nat) : Bool := bitOf (wordAt s.plt 1) m
/-- The ramp step R (R72). -/
def State.rampStep (s : State) : Nat := figure s.plt 2
/-- The factor F_d (R72). -/
def State.derateFactor (s : State) (d : Nat) : Nat := figure s.plt (3 + d)
/-- The sag aux factor (R72). -/
def State.sagAuxFactor (s : State) : Nat := figure s.plt 11
/-- The fallback budget (R72). -/
def State.fallbackBudget (s : State) : Nat := figure s.plt 12
/-- pump_kw_max (R72). -/
def State.pumpKwMax (s : State) : Nat := figure s.plt 13
/-- fan_kw (R72). -/
def State.fanKw (s : State) : Nat := figure s.plt 14
/-- yaw_kw_per_drive (R72). -/
def State.yawKwPerDrive (s : State) : Nat := figure s.plt 15

/-- The breakpoints of DRT-T (R73). -/
def State.thermalCurve (s : State) : List (Int × Int) :=
  (List.range 8).map (fun k => (signedFigure s.drtT (2 * k), (figure s.drtT (2 * k + 1) : Int)))

/-- The allowed-cycles column of DRT-G (R74). -/
def State.allowedCurve (s : State) : List (Int × Int) :=
  (List.range 8).map (fun k => ((figure s.drtG (7 + 3 * k) : Int), (figure s.drtG (8 + 3 * k) : Int)))

/-- The factor column of DRT-G (R74). -/
def State.gridCurve (s : State) : List (Int × Int) :=
  (List.range 8).map (fun k => ((figure s.drtG (7 + 3 * k) : Int), (figure s.drtG (9 + 3 * k) : Int)))

/-- sag_enter (R74). -/
def State.sagEnter (s : State) : Int := figure s.drtG 0
/-- sag_exit (R74). -/
def State.sagExit (s : State) : Int := figure s.drtG 1
/-- swell_exit (R74). -/
def State.swellExit (s : State) : Int := figure s.drtG 2
/-- swell_enter (R74). -/
def State.swellEnter (s : State) : Int := figure s.drtG 3
/-- swell_limit (R74). -/
def State.swellLimit (s : State) : Nat := figure s.drtG 4
/-- The recovery updates N (R74). -/
def State.recoveryUpdates (s : State) : Nat := figure s.drtG 5

/-- The depth that a depth code 0 to 3 names (R63, R113). -/
def depthOf (code : Nat) : Nat := 2 ^ code

/-- The pump curve of THM (R94). -/
def State.pumpCurve (s : State) : List (Int × Int) :=
  (List.range 6).map (fun k => (signedFigure s.thm (9 + 2 * k), (figure s.thm (10 + 2 * k) : Int)))

/-- The exercise interval (R94). -/
def State.exerciseInterval (s : State) : Nat := figure s.thm 22

/-! ### YCF (R124) -/

/-- PPR (R124). -/
def State.ppr (s : State) : Nat := figure s.ycf 0
/-- The index position (R124). -/
def State.indexPosition (s : State) : Nat := figure s.ycf 1
/-- The installed drive mask (R124). -/
def State.installedDrives (s : State) : Nat := figure s.ycf 2
/-- The filter width W (R124). -/
def State.filterWidth (s : State) : Nat := figure s.ycf 3
/-- The bounce mask (R124). -/
def State.bounceMask (s : State) : Nat := figure s.ycf 4
/-- The edge timeout (R124). -/
def State.edgeTimeout (s : State) : Nat := figure s.ycf 5
/-- The forced limit (R124). -/
def State.forcedLimit (s : State) : Nat := figure s.ycf 6
/-- The base-time depth code (R124). -/
def State.baseDepth (s : State) : Nat := figure s.ycf 7
/-- The seed interval (R124). -/
def State.seedInterval (s : State) : Nat := figure2 s.ycf 8
/-- The slip limit (R124). -/
def State.slipLimit (s : State) : Nat := figure s.ycf 10
/-- The unwind start (R124). -/
def State.unwindStart (s : State) : Int := figure s.ycf 11
/-- The unwind end (R124). -/
def State.unwindEnd (s : State) : Int := figure s.ycf 12
/-- twist hard (R124). -/
def State.twistHard (s : State) : Int := figure s.ycf 13
/-- unwind wind max (R124). -/
def State.unwindWindMax (s : State) : Int := figure s.ycf 14
/-- storm enter (R124). -/
def State.stormEnterSpeed (s : State) : Int := figure s.ycf 15
/-- storm exit (R124). -/
def State.stormExitSpeed (s : State) : Int := figure s.ycf 16
/-- The storm dwell (R124). -/
def State.stormDwell (s : State) : Nat := figure s.ycf 17
/-- The filter coefficient β (R124). -/
def State.beta (s : State) : Int := figure s.ycf 18
/-- The start threshold (R124). -/
def State.startThreshold (s : State) : Int := figure s.ycf 19
/-- The start dwell (R124). -/
def State.startDwellLimit (s : State) : Nat := figure s.ycf 20
/-- The stop band (R124). -/
def State.stopBand (s : State) : Nat := figure s.ycf 21
/-- duty max (R124). -/
def State.dutyMax (s : State) : Nat := figure s.ycf 22
/-- The rest time (R124). -/
def State.restTime (s : State) : Nat := figure s.ycf 23
/-- The duty decay (R124). -/
def State.dutyDecay (s : State) : Nat := figure s.ycf 24

/-- A number reduced modulo PPR, 0 to PPR − 1 (R112). With PPR 0 the result is free (log entry 6). -/
def modPpr (ppr : Nat) (x : Int) : Nat :=
  if ppr = 0 then (Config.countModZero x).toNat else (x % (ppr : Int)).toNat

/-- HEADING = floor(heading count × 3600 / PPR) (R121). With PPR 0 the result is free (log entry 6). -/
def headingValue (ppr count : Nat) : Int :=
  if ppr = 0 then (Config.headingOverZero count).toInt else ((count * 3600 / ppr : Nat) : Int)

/-- The stop band in counts, floor(stop band × PPR / 3600) (R131). -/
def State.stopBandCounts (s : State) : Int := ((s.stopBand * s.ppr / 3600 : Nat) : Int)

/-! ### YST (R126, R216) -/

/-- A step of the yaw step table (R126). `brake`, `direction` and `trigger` are the codes of R216. -/
structure YawStep where
  brake : Nat
  direction : Nat
  motion : Bool
  stop : Bool
  trigger : Nat
  next : Nat
  drives : Nat
  timeoutStep : Nat
  speed : Nat
  argument : Nat
  timeout : Nat
  deriving DecidableEq, Repr

/-- Step 0, PARKED, which the table does not hold (R126). -/
def YawStep.parked : YawStep :=
  { brake := 0, direction := 0, motion := false, stop := false, trigger := 0, next := 0, drives := 0,
    timeoutStep := 0, speed := 0, argument := 0, timeout := 0 }

/-- Step `k` of a YST image (R126, R216). -/
def yawStep (yst : List Word) (k : Nat) : YawStep :=
  if k = 0 then .parked
  else
    let base := 2 + 5 * (k - 1)
    let w := wordAt yst base
    let d := wordAt yst (base + 1)
    { brake := bitsOf w 0 2, direction := bitsOf w 2 2, motion := bitOf w 4, stop := bitOf w 5,
      trigger := bitsOf w 8 3, next := bitsOf w 12 4, drives := bitsOf d 8 8, timeoutStep := bitsOf d 0 8,
      speed := figure yst (base + 2), argument := figure yst (base + 3), timeout := figure yst (base + 4) }

/-- The start step (R126). -/
def State.startStep (s : State) : Nat := figure s.yst 0
/-- The stop-entry step (R126). -/
def State.stopEntryStep (s : State) : Nat := figure s.yst 1

/-- The trigger codes of R216. -/
def trigDwell : Nat := 0
/-- The trigger codes of R216. -/
def trigEdges : Nat := 1
/-- The trigger codes of R216. -/
def trigOnTarget : Nat := 2
/-- The trigger codes of R216. -/
def trigBrakeReleased : Nat := 3
/-- The trigger codes of R216. -/
def trigBrakeApplied : Nat := 4
/-- The trigger codes of R216. -/
def trigImmediate : Nat := 5

/-! ### FAT (R155, R156, R216) -/

/-- The entry of a fault code (R155). `severity` is the published number, 1 INFO to 4 TRIP. -/
structure FaultEntry where
  severity : Nat
  latching : Bool
  report : Bool
  log : Bool
  derate : Nat
  yawHold : Bool
  pumpBoost : Bool
  trip : Bool
  deriving DecidableEq, Repr

/-- The entry of code `k` in a FAT image (R216). -/
def faultEntry (fat : List Word) (k : Nat) : FaultEntry :=
  let w := wordAt fat k
  { severity := bitsOf w 0 2 + 1, latching := bitOf w 2, report := bitOf w 3, log := bitOf w 4,
    derate := bitsOf w 5 3, yawHold := bitOf w 8, pumpBoost := bitOf w 9, trip := bitOf w 10 }

/-- The entry of code `k` in the ACTIVE FAT (R155). -/
def State.faultEntry (s : State) (k : Nat) : FaultEntry := Machine.faultEntry s.fat k

/-- A code is reportable when its report enable is yes or its severity is TRIP (R155). -/
def FaultEntry.reportable (e : FaultEntry) : Bool := e.report || e.severity == 4

/-- A code is loggable when its log enable is yes or its severity is TRIP (R155). -/
def FaultEntry.loggable (e : FaultEntry) : Bool := e.log || e.severity == 4

/-- A watch (R156). `comparison` is 0 OFF, 1 ABOVE, 2 BELOW (R216). -/
structure Watch where
  point : Nat
  comparison : Nat
  threshold : Int
  hysteresis : Int
  deriving DecidableEq, Repr

/-- Watch `j` of a FAT image (R216). -/
def watchOf (fat : List Word) (j : Nat) : Watch :=
  let w := wordAt fat (64 + 4 * j)
  { point := bitsOf w 8 8, comparison := bitsOf w 0 8,
    threshold := (BitVec.ofNat 32 (figure2 fat (65 + 4 * j))).toInt, hysteresis := figure fat (67 + 4 * j) }

/-! ### ITP (R185) -/

/-- The supervision limit (R185). -/
def State.supervisionLimit (s : State) : Nat := figure2 s.itp 0
/-- The island period (R185). -/
def State.islandPeriod (s : State) : Nat := figure2 s.itp 2
/-- The slot count of the island template (R185). -/
def State.islandSlots (s : State) : Nat := figure s.itp 4
/-- The tag and the payload length of slot `k` of an island template (R185, R216). -/
def islandSlot (itp : List Word) (k : Nat) : Nat × Nat :=
  let w := wordAt itp (5 + k)
  (bitsOf w 8 8, bitsOf w 0 8)

/-! ## The action summary and the fault codes -/

/-- The codes of R153 that the rules name. -/
def fcOutErrors : Nat := 0
/-- R153. -/
def fcReturnErrors : Nat := 1
/-- R153. -/
def fcSlotMissing : Nat := 2
/-- R153. -/
def fcSlotShort : Nat := 3
/-- R153. -/
def fcMisplaced : Nat := 4
/-- R153. -/
def fcLatency : Nat := 5
/-- R153. -/
def fcOrder : Nat := 6
/-- R153. -/
def fcOverrun : Nat := 7
/-- R153. -/
def fcMasterSilent : Nat := 8
/-- R153. -/
def fcMasterRestart : Nat := 9
/-- R153. -/
def fcStaleInput : Nat := 10
/-- R153. -/
def fcLockViolation : Nat := 11
/-- R153. -/
def fcGridSag : Nat := 12
/-- R153. -/
def fcGridSwell : Nat := 13
/-- R153. -/
def fcRideThroughTrip : Nat := 14
/-- R153. -/
def fcThermalDerate : Nat := 15
/-- R153. -/
def fcJunctionLimit : Nat := 16
/-- R153. -/
def fcFlowLow : Nat := 17
/-- R153. -/
def fcInletHigh : Nat := 18
/-- R153. -/
def fcAuxShort : Nat := 19
/-- R153. -/
def fcGrantLost : Nat := 20
/-- R153. -/
def fcTrackLost : Nat := 21
/-- R153. -/
def fcQuadrature : Nat := 22
/-- R153. -/
def fcBounce : Nat := 23
/-- R153. -/
def fcSlip : Nat := 24
/-- R153. -/
def fcIndexMismatch : Nat := 25
/-- R153. -/
def fcTwistWarn : Nat := 26
/-- R153. -/
def fcTwistLimit : Nat := 27
/-- R153. -/
def fcStepTimeout : Nat := 28
/-- R153. -/
def fcDutyRest : Nat := 29
/-- R153. -/
def fcNotReady : Nat := 30
/-- R153. -/
def fcSeekFailed : Nat := 31
/-- R153. -/
def fcStormMode : Nat := 32
/-- R153. -/
def fcTimeNotSet : Nat := 33
/-- R153. -/
def fcLogOverwrite : Nat := 34
/-- R153. -/
def fcPointForced : Nat := 35
/-- R153: WATCH_j is code 48 + j. -/
def fcWatch (j : Nat) : Nat := 48 + j

/-- The level codes of R153; the others are event codes. -/
def levelCode (k : Nat) : Bool :=
  [0, 1, 8, 10, 12, 13, 14, 15, 16, 17, 18, 19, 21, 26, 27, 29, 32, 33, 35].contains k || (48 ≤ k && k ≤ 63)

/-! ## Requests (R202, R213) and responses (R205) -/

/-- The statuses of a response (R205). -/
inductive Status where
  | ok | notTaken | badKind | badArgument | state | locked | busy | invalid | serviceOnly | shortSlot
  deriving DecidableEq, Repr

/-- The status codes (R213). -/
def Status.code : Status → Byte
  | .ok => 0x00
  | .notTaken => 0x01
  | .badKind => 0x02
  | .badArgument => 0x03
  | .state => 0x04
  | .locked => 0x05
  | .busy => 0x06
  | .invalid => 0x07
  | .serviceOnly => 0x08
  | .shortSlot => 0x09

/-- A response of a status alone (R203). -/
def Status.alone (st : Status) : List Byte := [st.code]

/-- A two-byte argument. -/
def word2 (a b : Byte) : Word := a ++ b

/-- A four-byte argument. -/
def long4 (a b c d : Byte) : Long := (a ++ b) ++ (c ++ d)

/-- Bytes taken two by two as words, high byte first (R211). -/
def bytesToWords : List Byte → List Word
  | a :: b :: rest => word2 a b :: bytesToWords rest
  | _ => []

/-- The request that a captured payload carries, or the status of its refusal at steps 1 and 2 of R202: the kind in
byte 0, then the arguments of R213; bytes beyond the arguments are ignored. -/
def decodeRequest : List Byte → Except Status Request
  | [] => .error .badKind
  | kind :: args =>
    match kind.toNat, args with
    | 0x01, _ => .ok .identify
    | 0x02, _ => .ok .run
    | 0x03, _ => .ok .pass
    | 0x04, _ => .ok .softReset
    | 0x10, t :: a :: b :: m :: rest =>
      if 2 * m.toNat ≤ rest.length then .ok (.tableWrite t (word2 a b) ((bytesToWords rest).take m.toNat))
      else .error .badArgument
    | 0x10, _ => .error .badArgument
    | 0x11, t :: k :: a :: b :: n :: _ => .ok (.tableRead t k (word2 a b) n)
    | 0x11, _ => .error .badArgument
    | 0x12, a :: b :: _ => .ok (.copy (word2 a b))
    | 0x12, _ => .error .badArgument
    | 0x13, a :: b :: c :: d :: _ => .ok (.exchange (word2 a b) (word2 c d))
    | 0x13, _ => .error .badArgument
    | 0x14, a :: b :: _ => .ok (.lock (word2 a b))
    | 0x14, _ => .error .badArgument
    | 0x15, a :: b :: _ => .ok (.unlock (word2 a b))
    | 0x15, _ => .error .badArgument
    | 0x20, n :: rest =>
      if n.toNat ≤ rest.length then .ok (.pointRead (rest.take n.toNat)) else .error .badArgument
    | 0x20, _ => .error .badArgument
    | 0x21, p :: a :: b :: c :: d :: _ => .ok (.pointForce p (long4 a b c d))
    | 0x21, _ => .error .badArgument
    | 0x22, p :: _ => .ok (.pointRelease p)
    | 0x22, _ => .error .badArgument
    | 0x23, f :: n :: _ => .ok (.slotStats f n)
    | 0x23, _ => .error .badArgument
    | 0x30, c :: _ => .ok (.faultRead c)
    | 0x30, _ => .error .badArgument
    | 0x31, c :: _ => .ok (.faultClear c)
    | 0x31, _ => .error .badArgument
    | 0x32, _ => .ok .faultClearAll
    | 0x33, a :: b :: n :: _ => .ok (.logRead (word2 a b) n)
    | 0x33, _ => .error .badArgument
    | 0x34, a :: b :: _ => .ok (.logDiscard (word2 a b))
    | 0x34, _ => .error .badArgument
    | 0x35, a :: b :: c :: d :: _ => .ok (.setTime (long4 a b c d))
    | 0x35, _ => .error .badArgument
    | 0x40, a :: b :: _ => .ok (.setHeading (word2 a b))
    | 0x40, _ => .error .badArgument
    | 0x41, a :: b :: c :: d :: _ => .ok (.setTwist (long4 a b c d))
    | 0x41, _ => .error .badArgument
    | 0x42, m :: _ => .ok (.yawMode m)
    | 0x42, _ => .error .badArgument
    | 0x43, a :: b :: c :: _ => .ok (.yawTarget (word2 a b) c)
    | 0x43, _ => .error .badArgument
    | 0x44, _ => .ok .yawSeek
    | 0x50, _ => .ok .armSupervision
    | _, _ => .error .badKind

/-- The length of a request's arguments after byte 0 (R202 step 2, R213). -/
def Request.argLength : Request → Nat
  | .identify => 0
  | .run => 0
  | .pass => 0
  | .softReset => 0
  | .tableWrite _ _ ws => 4 + 2 * ws.length
  | .tableRead _ _ _ _ => 5
  | .copy _ => 2
  | .exchange _ _ => 4
  | .lock _ => 2
  | .unlock _ => 2
  | .pointRead ps => 1 + ps.length
  | .pointForce _ _ => 5
  | .pointRelease _ => 1
  | .slotStats _ _ => 2
  | .faultRead _ => 1
  | .faultClear _ => 1
  | .faultClearAll => 0
  | .logRead _ _ => 3
  | .logDiscard _ => 2
  | .setTime _ => 4
  | .setHeading _ => 2
  | .setTwist _ => 4
  | .yawMode _ => 1
  | .yawTarget _ _ => 3
  | .yawSeek => 0
  | .armSupervision => 0

/-- The number of entries that SLOT_STATS returns: from the first position up to the count, stopping after position
47 (R209). For a request that R209 refuses, which has no OK response, the same figure gives the length of R202's step 3:
the count cut at 48 - first, 0 for a first position above 47 (DESIGN CHOICE, log entry 27). -/
def statsCount (first count : Nat) : Nat := min count (48 - first)

/-- The length of the OK response that the request would give (R202 step 3, R213). -/
def Request.okLength : Request → Nat
  | .identify => 9
  | .run => 1
  | .pass => 1
  | .softReset => 1
  | .tableWrite _ _ _ => 2
  | .tableRead _ _ _ n => 6 + 2 * n.toNat
  | .copy _ => 1
  | .exchange _ _ => 4
  | .lock _ => 3
  | .unlock _ => 3
  | .pointRead ps => 1 + 6 * ps.length
  | .pointForce _ _ => 1
  | .pointRelease _ => 1
  | .slotStats f n => 2 + 6 * statsCount f.toNat n.toNat
  | .faultRead _ => 13
  | .faultClear _ => 1
  | .faultClearAll => 1
  | .logRead _ n => 5 + 14 * n.toNat
  | .logDiscard _ => 4
  | .setTime _ => 1
  | .setHeading _ => 1
  | .setTwist _ => 1
  | .yawMode _ => 1
  | .yawTarget _ _ => 1
  | .yawSeek => 1
  | .armSupervision => 5

/-! ## Codes published in points, responses and reports (R213) -/

/-- The operating state codes (R213). -/
def OpState.code : OpState → Nat
  | .pass => 0
  | .run => 1
  | .island => 2

/-- The strap mode codes (R213). -/
def StrapMode.code : StrapMode → Nat
  | .normal => 0
  | .service => 1

/-- The bank state codes (R213). -/
def BankStatus.code : BankStatus → Nat
  | .idle => 0
  | .scheduled _ => 1
  | .draining => 2

/-- The quality codes (R213). -/
def Quality.code : Quality → Nat
  | .empty => 0
  | .fresh => 1
  | .stale => 2
  | .forced => 3

/-- The lane codes (R213). -/
def Lane.code : Lane → Nat
  | .out => 0
  | .ret => 1

/-- The RT_STATE codes (R58). -/
def RideThrough.code : RideThrough → Nat
  | .normal => 0
  | .sag => 1
  | .swell => 2
  | .recovery => 3
  | .tripped => 4

/-- The YAW_MODE codes (R138). -/
def YawMode.code : YawMode → Nat
  | .hold => 0
  | .auto => 1
  | .unwind => 2
  | .storm => 3
  | .manual => 4
  | .seek => 5

/-- The HEADING_Q codes (R121). -/
def HeadingQuality.code : HeadingQuality → Nat
  | .unreferenced => 0
  | .referenced => 1
  | .deadReckoned => 2

/-- The log kinds (R213). -/
def LogKind.code : LogKind → Nat
  | .raised => 0
  | .reasserted => 1
  | .cleared => 2
  | .ended => 3

/-- A flag as a byte field. -/
def flagCode (b : Bool) : Nat := if b then 1 else 0

end Sys2Proof.Machine
end

