-- ==== Sys2Proof/Machine/Flags.lean ====
section
/-! DEFINITION. The part's fault flags: fault records, the log, the action summary, the spotlight (chapter 8), and the
envelope unit's answer to the converter trip action (R59, R60). Raising a fault and ending one are the shared
operations every block calls. This file holds them up to the yaw hold action, which Machine/Handover.lean adds. -/

namespace Sys2Proof.Machine

/-! ## Fault records and log -/

/-- The record of a fault code (R159). -/
def State.fault (s : State) (k : Nat) : FaultRecord := s.faults.getD k .reset

/-- Whether a code's condition is PRESENT (R154). -/
def State.condition (s : State) (k : Nat) : Bool := (s.fault k).condition

/-- The state with the record of code `k` changed. -/
def State.setFault (s : State) (k : Nat) (r : FaultRecord) : State := { s with faults := s.faults.set k r }

/-- A record put at the newest end of the log with the next sequence number; of a full log the oldest is removed
(R168, R169). -/
def logPlace (k : Nat) (kind : LogKind) (context : Int) (s : State) : State :=
  let r : LogRecord :=
    { sequence := s.log.next, code := k, kind := kind, seconds := s.clock.seconds, timeSet := s.clock.timeSet,
      cycle := s.prevCycle.getD 255, context := context }
  let kept := if s.log.records.length < 64 then s.log.records else s.log.records.drop 1
  { s with log := { records := kept ++ [r], next := s.log.next + 1 } }

/-- The mark that a raise or a reassertion of the spotlight in flight leaves (R167). -/
def markSpotlight (k : Nat) (s : State) : State :=
  { s with spotlight := s.spotlight.map (fun sp => if sp.code = k then { sp with raisedAgain := true } else sp) }

/-- The record of a code after a raise with context `c` at clock second `t` (R160). An event fault's condition returns
to ABSENT within the raise, and its latch is set only under LATCHING. -/
def raisedRecord (level : Bool) (e : FaultEntry) (c : Int) (t : Long) (r : FaultRecord) : FaultRecord :=
  { condition := level, latch := r.latch || level || e.latching, pending := r.pending || e.reportable,
    reasserted := false, count := bump 255 r.count, context := c, raiseTime := t }

/-- LOG_OVERWRITE raised with the removed record's sequence as context; its own record, if it is logged, removes the
next-oldest and raises nothing further (R169). -/
def raiseOverwrite (removed : Word) (s : State) : State :=
  let e := s.faultEntry fcLogOverwrite
  let c : Int := removed.toNat
  let s := markSpotlight fcLogOverwrite
    (s.setFault fcLogOverwrite (raisedRecord false e c s.clock.seconds (s.fault fcLogOverwrite)))
  if e.loggable then logPlace fcLogOverwrite .raised c s else s

/-- An append to the log (R168), with the overwrite of a full log (R169). -/
def logAppend (k : Nat) (kind : LogKind) (context : Int) (s : State) : State :=
  match s.log.records with
  | [] => logPlace k kind context s
  | oldest :: _ =>
    let s' := logPlace k kind context s
    if s.log.records.length < 64 then s' else raiseOverwrite oldest.sequence s'

/-- An append if the code is loggable (R155). -/
def logIf (k : Nat) (kind : LogKind) (context : Int) (s : State) : State :=
  if (s.faultEntry k).loggable then logAppend k kind context s else s

/-- A raise of code `k` with context `c` at the fault manager (R160), before the action summary is recomputed. A raise
of a level code already PRESENT is a change of context alone (R154). -/
def raiseRecord (k : Nat) (c : Int) (s : State) : State :=
  let r := s.fault k
  if levelCode k && r.condition then s.setFault k { r with context := c }
  else
    logIf k .raised c
      (markSpotlight k (s.setFault k (raisedRecord (levelCode k) (s.faultEntry k) c s.clock.seconds r)))

/-- An end of level code `k` at the fault manager (R161), before the action summary is recomputed. An end of a
condition already ABSENT changes nothing (R154). -/
def endRecord (k : Nat) (s : State) : State :=
  let r := s.fault k
  if !r.condition then s
  else if (s.faultEntry k).latching then s.setFault k { r with condition := false, reasserted := false }
  else logIf k .ended r.context (s.setFault k { r with condition := false, latch := false, reasserted := false })

/-- A clear of code `k` (R162), before the action summary is recomputed. -/
def clearRecord (k : Nat) (s : State) : State :=
  let r := s.fault k
  if !r.condition then
    if r.latch || r.pending then
      logIf k .cleared r.context (s.setFault k { r with latch := false, pending := false })
    else s
  else if r.reasserted then s
  else
    let e := s.faultEntry k
    logIf k .reasserted r.context
      (markSpotlight k
        (s.setFault k
          { r with reasserted := true, count := bump 255 r.count, raiseTime := s.clock.seconds,
                   pending := r.pending || e.reportable }))

/-! ## The action summary (R164, R165) -/

/-- The summary with the actions of one more latched code. -/
def Summary.add (m : Summary) (e : FaultEntry) : Summary :=
  { derate := max m.derate e.derate, yawHold := m.yawHold || e.yawHold, pumpBoost := m.pumpBoost || e.pumpBoost,
    trip := m.trip || e.trip, severity := max m.severity e.severity }

/-- The action summary formed over the codes whose latch is set, from code `k` on (R164). -/
def summaryFrom (fat : List Word) : Nat → List FaultRecord → Summary → Summary
  | _, [], m => m
  | k, r :: rest, m => summaryFrom fat (k + 1) rest (if r.latch then m.add (faultEntry fat k) else m)

/-- The action summary of the state (R164). -/
def State.formSummary (s : State) : Summary := summaryFrom s.fat 0 s.faults .reset

/-- DERATE_LEVEL and FAULT_SEV written from the summary (R165). -/
def writeFaultOutputs (s : State) : State :=
  outputWrite 61 s.summary.severity (outputWrite 45 s.summary.derate s)

/-- The converter trip action turning on (R59): L 0, trip seen, ENV_LIM 0, ENV_LIM_NEG 0, CONV_TRIP 1. -/
def tripOn (s : State) : State :=
  outputWrite 34 1 (outputWrite 33 0 (outputWrite 32 0
    { s with envelope := { s.envelope with limit := 0, tripSeen := true } }))

/-- The converter trip action turning off (R60): trip seen no, CONV_TRIP 0. -/
def tripOff (s : State) : State :=
  outputWrite 34 0 { s with envelope := { s.envelope with tripSeen := false } }

/-- The recompute of the action summary with what it hands to the points and the envelope unit (R164, R165, R59,
R60). The yaw hold turning on is handed by the callers that can meet a move (Machine/Handover.lean). -/
def recompute (s : State) : State :=
  let old := s.summary
  let new := s.formSummary
  let s := { s with summary := new }
  let s := if old.derate ≠ new.derate ∨ old.severity ≠ new.severity then writeFaultOutputs s else s
  if new.trip && !old.trip then tripOn s
  else if old.trip && !new.trip then tripOff s
  else s

/-- The summary recomputed if a latch has changed since `before` (R160 to R163); else it stands as it is, and with it
what it has handed on, even where a swap has just brought in a new FAT (R158, step 3). -/
def recomputeSince (before s : State) : State :=
  if s.faults.map (·.latch) = before.faults.map (·.latch) then s else recompute s

/-- A raise where no move is held, so that the yaw hold turning on ends nothing (R137, NONE). -/
def raiseQuiet (k : Nat) (c : Int) (s : State) : State := recomputeSince s (raiseRecord k c s)

/-- An end where no move is held. -/
def endQuiet (k : Nat) (s : State) : State := recomputeSince s (endRecord k s)

/-- A condition judged where no move is held: a change of presence is handed on (R154). -/
def judgeQuiet (k : Nat) (present : Bool) (c : Int) (s : State) : State :=
  if present && !s.condition k then raiseQuiet k c s
  else if !present && s.condition k then endQuiet k s
  else s

/-! ## The spotlight (R166, R167) -/

/-- The better of two spotlight candidates: the higher severity, then the lower code (R166). Codes are offered in
rising order. -/
def betterSpotlight (fat : List Word) (best : Option Nat) (k : Nat) : Option Nat :=
  match best with
  | none => some k
  | some b => if (faultEntry fat b).severity < (faultEntry fat k).severity then some k else some b

/-- The pending code of highest severity, then lowest code (R166). -/
def State.chooseSpotlight (s : State) : Option Nat :=
  ((List.range 64).filter (fun k => (s.fault k).pending)).foldl (betterSpotlight s.fat) none

/-- The spotlight in flight settled at the frame's return end; `carried` is a good end of a frame sent from P3
(R167, R20). -/
def settleSpotlight (carried : Bool) (s : State) : State :=
  match s.spotlight with
  | none => s
  | some sp =>
    let s := { s with spotlight := none }
    if carried && !sp.raisedAgain && (s.fault sp.code).pending then
      s.setFault sp.code { s.fault sp.code with pending := false, reasserted := false }
    else s

/-- The number of codes whose latch is set (R159). -/
def State.latchedCount (s : State) : Nat := (s.faults.filter (·.latch)).length

end Sys2Proof.Machine
end

