-- ==== Sys2Proof/Machine/Tracker.lean ====
section
/-! DEFINITION. The heading tracker as the other blocks see it: its outputs, its base time, and what it does at a
step entry and a move start (chapter 6). Its edges are in Machine/Edges.lean. -/

namespace Sys2Proof.Machine

/-- The output writes of the tracker: HEADING, TWIST, HEADING_Q (R121). -/
def writeHeading (s : State) : State :=
  outputWrite 63 s.tracker.quality.code
    (outputWrite 43 s.tracker.twist (outputWrite 42 (headingValue s.ppr s.tracker.heading) s))

/-- The floor of the mean of the newest D intervals, 0 while the history is empty (R113). -/
def baseOf (depthCode : Nat) (history : List Nat) : Nat :=
  if history.isEmpty then 0 else (history.take (depthOf depthCode)).sum / depthOf depthCode

/-- An interval entering the base-time history as the newest (R113). An unseeded history takes none. -/
def enterInterval (depthCode interval : Nat) (t : Tracker) : Tracker :=
  if t.history.isEmpty then t
  else
    let h := (interval :: t.history).take 8
    { t with history := h, baseTime := baseOf depthCode h }

/-- The limit of the expected-edge timer with the base time now held (R115). -/
def edgeLimit (s : State) : Nat := s.tracker.baseTime * s.edgeTimeout / 128

/-- The expected-edge timer started or restarted now (R115). -/
def startEdgeTimer (s : State) : State :=
  { s with tracker := { s.tracker with timer := some { start := s.timebase, limit := edgeLimit s } } }

/-- The restart of the timer at an edge, if it is RUNNING (R112, R117). -/
def restartEdgeTimer (s : State) : State := if s.tracker.timer.isSome then startEdgeTimer s else s

/-- A step entry handed to the tracker (R115): the timer starts in a step with the motion flag and a commanded
direction, and stops otherwise; at an entry into step 0 the absorption window closes as well. -/
def trackerStepEntry (k : Nat) (motion : Bool) (direction : Int) (s : State) : State :=
  if k = 0 then { s with tracker := { s.tracker with timer := none, window := none } }
  else if motion && decide (direction = 1 ∨ direction = -1) then startEdgeTimer s
  else { s with tracker := { s.tracker with timer := none } }

/-- A move start or a resume handed to the tracker (R114): the history is seeded, the last accepted edge forgotten,
and at a move start the bounce count cleared. -/
def trackerMoveStart (resume : Bool) (s : State) : State :=
  let t := s.tracker
  { s with tracker :=
      { t with history := List.replicate 8 s.seedInterval, baseTime := s.seedInterval, lastEdge := none,
               bounces := if resume then t.bounces else 0 } }

/-- The tracker at the minute event (R119). -/
def trackerMinute (s : State) : State := { s with tracker := { s.tracker with slips := 0, slipRaised := false } }

end Sys2Proof.Machine
end

