-- ==== Sys2Proof/Machine/Sequencer.lean ====
section
/-! DEFINITION. The yaw sequencer (chapter 7, R126 to R137), with what the yaw decision does when a move ends (R145,
R146) and its mode change (R138). Nothing here raises a fault while a move is held. -/

namespace Sys2Proof.Machine

/-! ## The decision's mode and the end of a move -/

/-- A change of the yaw mode: YAW_MODE is written and both storm counts are 0 (R138, R142). -/
def setYawMode (m : YawMode) (s : State) : State :=
  outputWrite 59 m.code
    { s with decision := { s.decision with mode := m, stormEnter := 0, stormExit := 0 } }

/-- Whether YAW_TWIST_WARN is present (R147). -/
def State.twistWarn (s : State) : Bool := s.tracker.twistSet && decide (s.unwindStart ≤ (s.tracker.twist.natAbs : Int))

/-- Whether YAW_TWIST_LIMIT is present (R147). -/
def State.twistLimit (s : State) : Bool :=
  (s.tracker.twistSet && decide (s.twistHard ≤ (s.tracker.twist.natAbs : Int))) || s.decision.blocked

/-- The planning block set by a REFUSED end (R145): YAW_TWIST_LIMIT is judged (R143), and both twist conditions where the
block changes (R147). -/
def blockRefused (s : State) : State :=
  let changed := !s.decision.blocked
  let s := { s with decision := { s.decision with blocked := true } }
  let s := if changed then judgeQuiet fcTwistWarn s.twistWarn s.tracker.twist s else s
  judgeQuiet fcTwistLimit s.twistLimit s.tracker.twist s

/-- The end of a move handed to the yaw decision, the record being cleared (R146, R145): the start-dwell count is 0; a
REFUSED end sets the planning block; a SEEK move that ends in mode SEEK has failed. -/
def decisionMoveEnd (mode : YawMode) (cause : EndCause) (s : State) : State :=
  let s := { s with decision := { s.decision with startDwell := 0 } }
  let s := if cause = .refused then blockRefused s else s
  if mode = .seek ∧ s.decision.mode = .seek then
    setYawMode .hold (raiseQuiet fcSeekFailed s.tracker.heading s)
  else s

/-! ## Step entries -/

/-- The commanded direction of a step for a move in direction `d` (R126, R128). -/
def stepDirection (y : YawStep) (d : Int) : Int :=
  if y.direction = 1 then d else if y.direction = 2 then -d else 0

/-- The direction and the drive mask of the record in hand, 0 where there is none. -/
def State.moveDirection (s : State) : Int := match s.sequencer.record with
  | some r => r.direction
  | none => 0

/-- The drive mask of the record in hand, 0 where there is none. -/
def State.moveDrives (s : State) : Nat := match s.sequencer.record with
  | some r => r.driveMask
  | none => 0

/-- The output pattern of step `k`: brake, enable, direction, speed, step (R128). -/
def writePattern (k : Nat) (s : State) : State :=
  let y := yawStep s.yst k
  outputWrite 60 k (outputWrite 39 y.speed (outputWrite 38 (stepDirection y s.moveDirection)
    (outputWrite 37 ((y.drives &&& s.moveDrives &&& s.installedDrives : Nat) : Int) (outputWrite 36 y.brake s))))

/-- An entry into step 0: the PARKED pattern, both counters 0, the tracker told (R128). -/
def enterParked (s : State) : State :=
  let s := writePattern 0 s
  trackerStepEntry 0 false 0 { s with sequencer := { s.sequencer with step := 0, commits := 0, counts := 0 } }

/-- The end of a move (R132): step 0, record cleared, phase NONE, yaw claim removed with the grant (R97), the end
handed to the decision with the record's mode. -/
def endMove (cause : EndCause) (s : State) : State :=
  match s.sequencer.record with
  | none => s
  | some r =>
    let s := if s.sequencer.step = 0 then s else enterParked s
    let s := { s with
      sequencer := { s.sequencer with record := none, phase := .none }
      arbiter := { s.arbiter with yawClaim := none, yawGrant := none } }
    decisionMoveEnd r.mode cause s

/-- Whether the ON_TARGET trigger is met (R131). -/
def State.onTarget (s : State) : Bool :=
  match s.sequencer.record with
  | some r => decide (r.remaining * r.direction ≤ s.stopBandCounts)
  | none => false

/-- The writes, counters and hand-over of an entry into step `k` from 1 to 7 (R128). `start` is the move start
(`some false`) or resume (`some true`) handed to the tracker before its timer is started (R134). -/
def enterStepOnce (k : Nat) (start : Option Bool) (s : State) : State :=
  let s := writePattern k s
  let s := { s with sequencer := { s.sequencer with step := k, commits := 0, counts := 0 } }
  let s := match start with
    | some resume => trackerMoveStart resume s
    | none => s
  let y := yawStep s.yst k
  trackerStepEntry k y.motion (stepDirection y s.moveDirection) s

/-- An entry into step `k` with the chain of IMMEDIATE and ON_TARGET entries that follows in the same event (R128,
R131); an entry into step 0 through the table ends the move as COMPLETED (R132). Validation keeps a chain to at most
seven steps (R150), which the fuel of `enterStep` covers. -/
def enterStepChain : Nat → Nat → Option Bool → State → State
  | 0, _, _, s => s
  | fuel + 1, k, start, s =>
    if k = 0 then endMove .completed (enterParked s)
    else
      let s := enterStepOnce k start s
      let y := yawStep s.yst k
      if y.trigger = trigImmediate ∨ (y.trigger = trigOnTarget ∧ s.onTarget) then
        enterStepChain fuel y.next none s
      else s

/-- An entry into step `k` (R128). -/
def enterStep (k : Nat) (s : State) : State := enterStepChain 9 k none s

/-! ## Stops, aborts, steps, gains -/

/-- The yaw hold turning on, or YAW_TWIST_LIMIT becoming present, at the sequencer: any move ends as ABORTED (R137). -/
def abortMove (s : State) : State := if s.sequencer.phase = .none then s else endMove .aborted s

/-- A stop handed by the decision (R135). -/
def stopMove (s : State) : State :=
  match s.sequencer.phase with
  | .none => s
  | .running =>
    if (yawStep s.yst s.sequencer.step).stop then s else enterStep s.stopEntryStep s
  | .waiting => endMove .stopped s
  | .parked => endMove .stopped s

/-- A real or forced step of direction `d` handed by the tracker (R131). R127 gives the remaining counts 32 bits and no
rule says what `remaining - d` is outside them; the model counts on without a bound (DESIGN CHOICE, log entry 23). -/
def handStep (d : Int) (s : State) : State :=
  let q := s.sequencer
  let s := { s with sequencer :=
    { q with record := q.record.map (fun r => { r with remaining := r.remaining - d }) } }
  if s.sequencer.step = 0 then s
  else
    let s := { s with sequencer := { s.sequencer with counts := bump 65535 s.sequencer.counts } }
    let y := yawStep s.yst s.sequencer.step
    if (y.trigger = trigEdges ∧ y.argument ≤ s.sequencer.counts) ∨ (y.trigger = trigOnTarget ∧ s.onTarget) then
      enterStep y.next s
    else s

/-- A move record handed by the decision (R133): phase WAITING, the yaw claim registered with the number of drives in
the mask (R97). -/
def drivesIn (mask : Nat) : Nat := ((List.range 8).filter (fun i => mask.testBit i)).length

/-- The move record taken by the sequencer in phase NONE (R133). -/
def takeMove (r : MoveRecord) (s : State) : State :=
  if s.sequencer.phase = .none then
    { s with sequencer := { s.sequencer with record := some r, phase := .waiting }
             arbiter := { s.arbiter with yawClaim := some (drivesIn r.driveMask) } }
  else s

/-- The start check of a move (R134). -/
def State.startCheck (s : State) (r : MoveRecord) : Bool :=
  let e : Int := ((s.tracker.twist + r.remaining).natAbs : Int)
  decide (e < s.twistHard) || (r.target == .twist && decide (e < (s.tracker.twist.natAbs : Int)))

/-- A gain handed by the arbiter (R134). -/
def gainGrant (s : State) : State :=
  match s.sequencer.record with
  | none => s
  | some r =>
    if s.sequencer.phase = .waiting ∨ s.sequencer.phase = .parked then
      if s.startCheck r then
        let resume := decide (s.sequencer.phase = .parked)
        enterStepChain 9 s.startStep (some resume) { s with sequencer := { s.sequencer with phase := .running } }
      else endMove .refused s
    else s

/-- What a withdrawal does once YAW_GRANT_LOST is raised (R136): a running move parks, or ends as LOST in a
stop-sequence step. -/
def withdrawMove (s : State) : State :=
  if s.sequencer.phase = .running then
    if (yawStep s.yst s.sequencer.step).stop then endMove .lost s
    else
      let s := enterParked s
      { s with sequencer := { s.sequencer with phase := .parked } }
  else s

end Sys2Proof.Machine
end

