-- ==== Sys2Proof/Machine/Handover.lean ====
section
/-! DEFINITION. Raising a fault and ending a condition, whole: the fault record, the log, the action summary, the
converter trip handed to the envelope unit and the yaw hold handed to the sequencer (R154, R160, R161, R164, R137). -/

namespace Sys2Proof.Machine

/-- The yaw hold action turning on, between the summary before and the one now, is handed to the sequencer (R137). -/
def handHold (before : Bool) (s : State) : State := if s.summary.yawHold && !before then abortMove s else s

/-- A raise of code `k` with context `c` (R160, R164). -/
def raise (k : Nat) (c : Int) (s : State) : State := handHold s.summary.yawHold (raiseQuiet k c s)

/-- An end of level code `k` (R161, R164). -/
def endCondition (k : Nat) (s : State) : State := handHold s.summary.yawHold (endQuiet k s)

/-- A level condition judged: a change of presence is handed to the fault manager (R154). -/
def judge (k : Nat) (present : Bool) (c : Int) (s : State) : State :=
  if present && !s.condition k then raise k c s
  else if !present && s.condition k then endCondition k s
  else s

/-- Several faults raised in order. -/
def raiseAll (fs : List (Nat × Int)) (s : State) : State := fs.foldl (fun acc f => raise f.1 f.2 acc) s

/-- FAULT_CLEAR of one code: the record, then, if its latch has changed, the summary recomputed at the end of the request
(R162, R164). -/
def clearFault (k : Nat) (s : State) : State := handHold s.summary.yawHold (recomputeSince s (clearRecord k s))

/-- FAULT_CLEAR_ALL: every code in order, the summary recomputed once at the end (R163), if a latch has changed (R164). -/
def clearAllFaults (s : State) : State :=
  handHold s.summary.yawHold (recomputeSince s ((List.range 64).foldl (fun acc k => clearRecord k acc) s))

/-- A swap that brings in a new FAT (R158): step 1 for one code. -/
def fatSwapLatch (s : State) (k : Nat) : State :=
  let r := s.fault k
  if !(s.faultEntry k).latching && r.latch && !r.condition then
    logIf k .ended r.context (s.setFault k { r with latch := false })
  else s

/-- A swap that brings in a new FAT (R158): step 2 for one watch. -/
def fatSwapWatch (s : State) (j : Nat) : State :=
  if (watchOf s.fat j).comparison = 0 ∧ s.condition (fcWatch j) = true then endRecord (fcWatch j) s else s

/-- A swap that brings in a new FAT (R158). The ends of step 2, and a LOG_OVERWRITE that the records of steps 1 and 2
raise, change the records alone: the summary is recomputed and handed on once, at step 3 (DESIGN CHOICE, log entry
24). -/
def fatSwap (s : State) : State :=
  let hold := s.summary.yawHold
  let s := (List.range 64).foldl fatSwapLatch s
  let s := (List.range 16).foldl fatSwapWatch s
  handHold hold (recompute s)

/-- One fault watch judged at a return-lane commit (R156). -/
def watchUpdate (s : State) (j : Nat) : State :=
  let w := watchOf s.fat j
  let p := s.point w.point
  if w.comparison ≠ 0 ∧ (p.quality = .forced ∨ (p.quality = .fresh ∧ p.age = 0)) then
    let v := p.value
    let present := s.condition (fcWatch j)
    let becomes := if w.comparison = 1 then decide (w.threshold < v) else decide (v < w.threshold)
    let ends := if w.comparison = 1 then decide (v ≤ w.threshold - w.hysteresis)
      else decide (w.threshold + w.hysteresis ≤ v)
    if !present && becomes then raise (fcWatch j) v s
    else if present && ends then endCondition (fcWatch j) s
    else s
  else s

/-- The fault watches, in order of j (R156). -/
def watchesUpdate (s : State) : State := (List.range 16).foldl watchUpdate s

end Sys2Proof.Machine
end

