-- ==== Sys2Proof/Machine/Envelope.lean ====
section
/-! DEFINITION. The envelope unit and the grid ride-through state machine (chapter 3). -/

namespace Sys2Proof.Machine

/-! ## Ride-through (R62 to R70) -/

/-- The voltage history after taking a value (R63). -/
def enterVoltage (v : Int) (history : List Int) : List Int :=
  if history.isEmpty then List.replicate 8 v else (v :: history).take 8

/-- V_avg: the floor of the mean of the newest D values (R63). -/
def averageOf (depthCode : Nat) (history : List Int) : Int :=
  (history.take (depthOf depthCode)).sum / (depthOf depthCode : Int)

/-- The ride-through state set. -/
def setRideThrough (r : RideThrough) (s : State) : State :=
  { s with envelope := { s.envelope with rideThrough := r } }

/-- An entry into SWELL with the swell counter at 0 (R64, R68). -/
def enterSwell (v : Int) (s : State) : State :=
  judge fcGridSwell true v { s with envelope := { s.envelope with rideThrough := .swell, swellCount := 0 } }

/-- An entry into SAG (R64, R68). -/
def enterSag (v : Int) (s : State) : State := judge fcGridSag true v (setRideThrough .sag s)

/-- A return to NORMAL with E set to 0 (R67, R68, R70). -/
def enterNormal (s : State) : State :=
  { s with envelope := { s.envelope with rideThrough := .normal, exposure := 0 } }

/-- An entry into TRIPPED (R69): the condition `ended` of the state left ends, then RIDE_THROUGH_TRIP is raised. -/
def enterTripped (ended : Nat) (v : Int) (s : State) : State :=
  judge fcRideThroughTrip true v (judge ended false v (setRideThrough .tripped s))

/-- The exposure increment of a sag whose allowed cycles are `a` (R65). -/
def exposureStep (a : Int) : Nat := if a = 0 then 32768 else (Int.tdiv 32768 a).toNat

/-- The rule of NORMAL (R64). -/
def normalRule (v : Int) (s : State) : State :=
  if v < s.sagEnter then enterSag v s else if s.swellEnter < v then enterSwell v s else s

/-- The rule of SAG (R65, R66). -/
def sagRule (v : Int) (s : State) : State :=
  let e := min 65535 (s.envelope.exposure + exposureStep (curve s.allowedCurve v))
  let s := { s with envelope := { s.envelope with exposure := e } }
  if 32768 ≤ e then enterTripped fcGridSag v s
  else if s.sagExit ≤ v then
    judge fcGridSag false v
      { s with envelope :=
          { s.envelope with rideThrough := .recovery, recoveryCount := 0, exitFactor := s.envelope.lastSagFactor } }
  else s

/-- The rule of SWELL (R67). -/
def swellRule (v : Int) (s : State) : State :=
  let n := bump 65535 s.envelope.swellCount
  let s := { s with envelope := { s.envelope with swellCount := n } }
  if s.swellLimit ≤ n then enterTripped fcGridSwell v s
  else if v ≤ s.swellExit then judge fcGridSwell false v (enterNormal s)
  else s

/-- The rule of RECOVERY (R68). -/
def recoveryRule (v : Int) (s : State) : State :=
  let n := bump 65535 s.envelope.recoveryCount
  let s := { s with envelope := { s.envelope with recoveryCount := n } }
  if v < s.sagEnter then enterSag v s
  else if s.swellEnter < v then enterSwell v s
  else if s.recoveryUpdates ≤ n then enterNormal s
  else s

/-- The rule of TRIPPED (R69, R70): the condition judged, then the latch read. -/
def trippedRule (v : Int) (s : State) : State :=
  let s := judge fcRideThroughTrip (decide (v < s.sagExit ∨ s.swellExit < v)) v s
  if (s.fault fcRideThroughTrip).latch then s else enterNormal s

/-- The ride-through update with the value of GRID_V (R62): the history, V_avg, then once the rule of the state held
at the start. -/
def rideThroughUpdate (s : State) : State :=
  let h := enterVoltage (s.pointValue 0) s.envelope.history
  let v := averageOf (figure s.drtG 6) h
  let state := s.envelope.rideThrough
  let s := { s with envelope := { s.envelope with history := h, vAvg := some v } }
  match state with
  | .normal => normalRule v s
  | .sag => sagRule v s
  | .swell => swellRule v s
  | .recovery => recoveryRule v s
  | .tripped => trippedRule v s

/-! ## The envelope update (R52 to R58) -/

/-- The thermal factor Ft (R53). -/
def State.thermalFactor (s : State) : Int := curve s.thermalCurve (s.pointValue 44)

/-- The grid factor Fg (R54). -/
def State.gridFactor (s : State) : Int :=
  match s.envelope.rideThrough with
  | .normal => 32768
  | .swell => 32768
  | .sag => curve s.gridCurve (s.envelope.vAvg.getD 0)
  | .recovery =>
    let f : Int := s.envelope.exitFactor
    min 32768 (f + Int.tdiv ((32768 - f) * s.envelope.recoveryCount) s.recoveryUpdates)
  | .tripped => 0

/-- The envelope factor F, the smallest of Ft, Fg and Ff (R55). -/
def State.envelopeFactor (s : State) : Int :=
  min s.thermalFactor (min s.gridFactor (s.derateFactor s.summary.derate))

/-- The new L from the target and the L before (R56), and 0 when trip seen (R57). -/
def newLimit (target previous ramp : Nat) (tripSeen : Bool) : Nat :=
  if tripSeen then 0 else if target ≤ previous then target else min target (previous + ramp)

/-- The output writes of the envelope update (R58). -/
def writeEnvelope (factor : Int) (s : State) : State :=
  let e := s.envelope
  outputWrite 58 e.exposure (outputWrite 62 factor (outputWrite 35 e.rideThrough.code
    (outputWrite 34 (flagCode e.tripSeen : Int) (outputWrite 33 (-(e.limit : Int)) (outputWrite 32 e.limit s)))))

/-- The envelope update at a return-lane commit that wrote the points `written` (R52): the ride-through update first
where GRID_V was written or is FORCED, then the factors, L and the outputs, then THERMAL_DERATE judged on Ft (R84). -/
def envelopeUpdate (written : List Nat) (s : State) : State :=
  let s := if written.contains 0 || (s.point 0).quality == .forced then rideThroughUpdate s else s
  let ft := s.thermalFactor
  let f := s.envelopeFactor
  let target := (s.iRated * f.toNat) / 32768
  let e := s.envelope
  let e := { e with
    limit := newLimit target e.limit s.rampStep e.tripSeen
    lastSagFactor := if e.rideThrough = .sag then s.gridFactor.toNat else e.lastSagFactor }
  let s := writeEnvelope f { s with envelope := e }
  judge fcThermalDerate (decide (ft < 32768)) ft s

end Sys2Proof.Machine
end

