-- ==== Sys2Proof/Machine/Arbiter.lean ====
section
/-! DEFINITION. The auxiliary budget arbiter (chapter 5, R96 to R107). -/

namespace Sys2Proof.Machine

/-! ## Budget and grants (R99 to R102) -/

/-- The raw budget: AUX_AVAIL, not below 0, or the fallback budget (R99). -/
def State.rawBudget (s : State) : Nat :=
  if (s.point 1).live then (s.point 1).value.toNat else s.fallbackBudget

/-- Whether the ride-through state cuts the budget (R99). -/
def RideThrough.cutsBudget (r : RideThrough) : Bool := r == .sag || r == .tripped

/-- The budget B (R99). -/
def State.budget (s : State) : Nat :=
  if s.envelope.rideThrough.cutsBudget then s.rawBudget * s.sagAuxFactor / 32768 else s.rawBudget

/-- The largest fan stage from 0 up to the claim that the remainder buys (R101). -/
def largestStage (kw remainder : Nat) : Nat → Nat
  | 0 => 0
  | k + 1 => if (k + 1) * kw ≤ remainder then k + 1 else largestStage kw remainder k

/-- The yaw grant from what the pump and fans have left (R102). -/
def yawGrantOf (kwPerDrive remainder : Nat) (claim : Option Nat) : Option Nat :=
  match claim with
  | none => none
  | some drives => if kwPerDrive * drives ≤ remainder then some (kwPerDrive * drives) else none

/-- The three grants of an evaluation with budget `b`, formed in order of priority (R100 to R102). -/
def Arbiter.granted (b pumpKwMax fanKw kwPerDrive : Nat) (a : Arbiter) : Arbiter :=
  let pump := min a.pumpClaim b
  let fan := largestStage fanKw (b - pump) a.fanClaim
  { a with
    pumpGrant := pump
    fanGrant := fan
    yawGrant := yawGrantOf kwPerDrive (b - pump - fan * fanKw) a.yawClaim
    grantPumpMax := pumpKwMax }

/-- The grants written together (R103). -/
def writeGrants (s : State) : State :=
  { s with arbiter := s.arbiter.granted s.budget s.pumpKwMax s.fanKw s.yawKwPerDrive }

/-! ## Outputs and hand-overs (R103 to R105) -/

/-- The pump speed that the pump grant pays for (R103). -/
def State.paidPumpSpeed (s : State) : Int := ((s.arbiter.pumpGrant * 1000 / s.arbiter.grantPumpMax : Nat) : Int)

/-- PUMP_SPEED lowered to what the grant pays for (R103, R106). -/
def lowerPump (s : State) : State :=
  if s.paidPumpSpeed < s.pointValue 40 then pumpWrite s.exerciseInterval s.paidPumpSpeed s else s

/-- FAN_STAGE lowered to the fan grant (R103). -/
def lowerFan (s : State) : State :=
  if (s.arbiter.fanGrant : Int) < s.pointValue 41 then outputWrite 41 s.arbiter.fanGrant s else s

/-- A withdrawal of the yaw grant at the sequencer: YAW_GRANT_LOST with the step, then the park or the end (R136). -/
def withdrawGrant (s : State) : State :=
  if s.sequencer.phase = .running then withdrawMove (raise fcGrantLost s.sequencer.step s) else s

/-- The change of the yaw grant handed to the sequencer, `held` telling whether it was HELD at the start (R104). -/
def handGrant (held : Bool) (s : State) : State :=
  if held && s.arbiter.yawGrant.isNone && s.arbiter.yawClaim.isSome then withdrawGrant s
  else if !held && s.arbiter.yawGrant.isSome then gainGrant s
  else s

/-- The shortfall that AUX_SHORT reports (R105). -/
def State.shortfall (s : State) : Int :=
  let a := s.arbiter
  (((a.pumpClaim - a.pumpGrant) + (a.fanClaim - a.fanGrant) * s.fanKw : Nat) : Int)

/-- AUX_SHORT judged (R105). -/
def judgeShort (s : State) : State :=
  let a := s.arbiter
  judge fcAuxShort (decide (a.pumpGrant < a.pumpClaim ∨ a.fanGrant < a.fanClaim)) s.shortfall s

/-- The evaluation at a return-lane commit (R98). -/
def arbiterEvaluate (s : State) : State :=
  judgeShort (handGrant s.arbiter.yawGrant.isSome (lowerFan (lowerPump (writeGrants s))))

/-- The arbiter at a swap of the PLT (R106). -/
def arbiterPltSwap (s : State) : State :=
  lowerPump { s with arbiter := { s.arbiter with grantPumpMax := s.pumpKwMax } }

end Sys2Proof.Machine
end

