-- ==== Sys2Proof/Machine/Decision.lean ====
section
/-! DEFINITION. The yaw decision (chapter 7, R138 to R149): the twist conditions, planning, the update at a
return-lane commit, the yaw requests, duty and rest. -/

namespace Sys2Proof.Machine

/-! ## Twist conditions (R147) -/

/-- YAW_TWIST_LIMIT judged; when it becomes present while a move record is held, the move is ended (R147, R137). -/
def judgeTwistLimit (s : State) : State :=
  let was := s.condition fcTwistLimit
  let s := judge fcTwistLimit s.twistLimit s.tracker.twist s
  if s.condition fcTwistLimit && !was && s.sequencer.record.isSome then abortMove s else s

/-- Both twist conditions judged (R147). -/
def judgeTwist (s : State) : State :=
  judgeTwistLimit (judge fcTwistWarn s.twistWarn s.tracker.twist s)

/-- The start-dwell count set. -/
def setDwell (n : Nat) (s : State) : State := { s with decision := { s.decision with startDwell := n } }

/-- The planning block set or cleared: YAW_TWIST_LIMIT is judged (R140, R143), and both twist conditions where the block
changes (R147). -/
def setBlock (b : Bool) (s : State) : State :=
  let changed := s.decision.blocked != b
  let s := { s with decision := { s.decision with blocked := b } }
  if changed then judgeTwist s else judgeTwistLimit s

/-! ## Planning (R140) -/

/-- An exchange naming YCF or YST accepted and not yet swapped (R140). -/
def State.yawExchangePending (s : State) : Bool :=
  match s.banks.status with
  | .scheduled m => bitOf m 5 || bitOf m 6
  | _ => false

/-- Planning's first condition: phase NONE, no yaw hold, no exchange of YCF or YST pending (R140). -/
def State.planningOpen (s : State) : Bool :=
  s.sequencer.phase == .none && !s.summary.yawHold && !s.yawExchangePending

/-- The context of YAW_NOT_READY: 1 for an unreferenced heading, 2 for an unset twist, 3 for both, 0 where ready
(R140). -/
def State.notReady (s : State) : Int :=
  (if s.tracker.quality = .unreferenced then 1 else 0) + (if s.tracker.twistSet then 0 else 2)

/-- Whether a count keeps the planned end within twist hard (R140). -/
def State.twistFits (s : State) (c : Int) : Bool := decide (((s.tracker.twist + c).natAbs : Int) < s.twistHard)

/-- The way a move takes: the preferred count, else the other way round (R140). -/
def State.chooseWay (s : State) (c : Int) : Option Int :=
  let other : Int := if 0 < c then c - s.ppr else c + s.ppr
  if s.twistFits c then some c else if s.twistFits other then some other else none

/-- The move mask of a mode, ANDed with the installed drive mask (R140, R124 words 25 to 27). -/
def State.moveMask (s : State) (m : YawMode) : Nat :=
  let mask := match m with
    | .storm => figure s.ycf 26
    | .manual => figure s.ycf 27
    | .seek => figure s.ycf 27
    | _ => figure s.ycf 25
  mask &&& s.installedDrives

/-- A failed twist check: the planning block is set and the twist conditions judged (R140, R147). -/
def blockPlanning (s : State) : State := setBlock true s

/-- A plan that passes: the planning block is cleared, the twist conditions judged and the record handed to the sequencer
(R140, R147, R133). A yaw hold turned on by that judgement keeps the record back (log entry 15). -/
def handMove (c : Int) (target : TargetKind) (s : State) : State :=
  let s := setBlock false s
  if s.summary.yawHold then s
  else
    takeMove { direction := if 0 < c then 1 else -1, remaining := c, target := target, mode := s.decision.mode,
               driveMask := s.moveMask s.decision.mode } s

/-- A move planned by the update (R140). An UNWIND plan is exempt from the twist check. A count of 0 plans nothing. -/
def planMove (c : Int) (target : TargetKind) (exempt : Bool) (s : State) : State :=
  if c = 0 then s
  else if !s.planningOpen then s
  else if s.notReady ≠ 0 then raise fcNotReady s.notReady s
  else if exempt then handMove c target s
  else match s.chooseWay c with
    | some way => handMove way target s
    | none => blockPlanning s

/-! ## The update at a return-lane commit (R138 to R142) -/

/-- Whether the update takes a point: the commit wrote it or it is FORCED (R139). -/
def State.takes (s : State) (written : List Nat) (n : Nat) : Bool :=
  written.contains n || (s.point n).quality == .forced

/-- The wind-speed filter and the storm counts (R139, R142). -/
def windUpdate (s : State) : State :=
  let v := s.pointValue 5
  let d := s.decision
  let w := match d.wind with
    | none => v
    | some w => w + Int.tdiv ((v - w) * s.beta) 256
  { s with decision :=
      { d with wind := some w,
               stormEnter := if s.stormEnterSpeed ≤ v then bump 65535 d.stormEnter else 0,
               stormExit := if v < s.stormExitSpeed then bump 65535 d.stormExit else 0 } }

/-- An angle in 0.1° wrapped into −1800 to 1799 (R139). -/
def wrapAngle (x : Int) : Int := (x + 1800) % 3600 - 1800

/-- The unfiltered misalignment e (R139). -/
def State.misalign (s : State) : Int := wrapAngle (s.pointValue 4 - s.pointValue 42)

/-- The misalignment filter (R139). -/
def misalignUpdate (s : State) : State :=
  let d := s.decision
  { s with decision := { d with misalignment := d.misalignment + Int.tdiv ((s.misalign - d.misalignment) * s.beta) 256 } }

/-- The automatic mode changes (R142). -/
def modeChanges (windTaken : Bool) (s : State) : State :=
  let v := s.pointValue 5
  let d := s.decision
  let twist : Int := (s.tracker.twist.natAbs : Int)
  match d.mode with
  | .auto =>
    if windTaken ∧ s.stormEnterSpeed ≤ v ∧ s.stormDwell ≤ d.stormEnter then
      judge fcStormMode true v (setYawMode .storm s)
    else if s.sequencer.phase = .none ∧ s.tracker.twistSet ∧ s.unwindStart ≤ twist ∧
        (match d.wind with | some w => decide (w < s.unwindWindMax) | none => false) = true then
      setYawMode .unwind s
    else s
  | .storm =>
    if windTaken ∧ v < s.stormExitSpeed ∧ s.stormDwell ≤ d.stormExit then
      judge fcStormMode false v (setYawMode .auto s)
    else s
  | .unwind => if s.sequencer.phase = .none ∧ twist ≤ s.unwindEnd then setYawMode .auto s else s
  | _ => s

/-- Planning in AUTO and STORM at an update in which WIND_DIR is taken (R141). -/
def windPlanning (s : State) : State :=
  let d := s.decision
  if s.sequencer.record.isSome ∨ (d.rest.isSome ∧ d.mode = .auto) then setDwell 0 s
  else if (d.misalignment.natAbs : Int) < s.startThreshold then setDwell 0 s
  else
    let count := bump 65535 d.startDwell
    let needed := if d.mode = .storm then 1 else s.startDwellLimit
    if needed ≤ count then
      setDwell 0 (planMove (Int.tdiv (s.misalign * s.ppr) 3600) .heading false (setDwell count s))
    else setDwell count s

/-- The unwinding count, −sign(twist) × (|twist| − unwind end) (R142). -/
def State.unwindCount (s : State) : Int :=
  -(s.tracker.twist.sign) * ((s.tracker.twist.natAbs : Int) - s.unwindEnd)

/-- The planning of the mode the decision stands in (R141, R142). -/
def planning (dirTaken : Bool) (s : State) : State :=
  match s.decision.mode with
  | .auto => if dirTaken then windPlanning s else s
  | .storm => if dirTaken then windPlanning s else s
  | .unwind =>
    if s.sequencer.phase = .none ∧ s.decision.rest = none then planMove s.unwindCount .twist true s else s
  | _ => s

/-- The decision's update (R138): YAW_MODE refreshed, then the wind filter, the misalignment filter, the twist
conditions, the mode changes and the planning. -/
def decisionUpdate (written : List Nat) (s : State) : State :=
  let windTaken := s.takes written 5
  let dirTaken := s.takes written 4
  let s := outputWrite 59 s.decision.mode.code s
  let s := if windTaken then windUpdate s else s
  let s := if dirTaken then misalignUpdate s else s
  planning dirTaken (modeChanges windTaken (judgeTwist s))

/-! ## The yaw requests (R143 to R145) -/

/-- The mode that a YAW_MODE request names (R143, R213). -/
def requestedMode (m : Byte) : Option YawMode :=
  if m = 0 then some .hold else if m = 1 then some .auto else if m = 4 then some .manual else none

/-- Whether a requested mode counts as already held (R143). -/
def modeHeld (held wanted : YawMode) : Bool :=
  held == wanted || (wanted == .auto && (held == .unwind || held == .storm))

/-- YAW_MODE (R143). -/
def yawModeRequest (m : Byte) (s : State) : State × Status :=
  match requestedMode m with
  | none => (s, .badArgument)
  | some wanted =>
    if modeHeld s.decision.mode wanted then (s, .ok)
    else
      let wasStorm := decide (s.decision.mode = .storm)
      let s := setYawMode wanted s
      let s := setBlock false (setDwell 0 s)
      let s := stopMove s
      (if wasStorm then judge fcStormMode false 0 s else s, .ok)

/-- The choice of YAW_TARGET (R144, R213). -/
def turnChoice (c : Byte) : Option TurnChoice :=
  if c = 0 then some .cw else if c = 1 then some .ccw else if c = 2 then some .short else none

/-- The count to a target heading by the choice (R144, step 4). -/
def targetCount (ppr heading count : Nat) (choice : TurnChoice) : Int :=
  let delta : Int := ((heading * ppr / 3600 : Nat) : Int) - (count : Int)
  let half : Nat := ppr / 2
  match choice with
  | .cw => modPpr ppr delta
  | .ccw => -(modPpr ppr (-delta) : Int)
  | .short => (modPpr ppr (delta + half) : Int) - half

/-- The way of a target move that passes the twist check: the count itself for CW and CCW, either way for SHORT
(R144, step 5). -/
def State.targetWay (s : State) (choice : TurnChoice) (c : Int) : Option Int :=
  if choice = .short then s.chooseWay c else if s.twistFits c then some c else none

/-- The request's target kept as the last manual target (R144). -/
def keepTarget (t : ManualTarget) (s : State) : State :=
  { s with decision := { s.decision with lastTarget := some t } }

/-- YAW_TARGET (R144). -/
def yawTargetRequest (heading : Nat) (choice : Byte) (s : State) : State × Status :=
  match turnChoice choice with
  | none => (s, .badArgument)
  | some ch =>
    let t : ManualTarget := { heading := heading, choice := ch }
    if 3599 < heading then (s, .badArgument)
    else if s.decision.mode = .manual ∧ s.sequencer.record.isSome ∧ s.decision.lastTarget = some t then (s, .ok)
    else if s.decision.mode ≠ .manual ∨ s.sequencer.record.isSome ∨ s.summary.yawHold = true then (s, .state)
    else if s.yawExchangePending then (s, .busy)
    else if s.notReady ≠ 0 then (raise fcNotReady s.notReady s, .state)
    else
      let c := targetCount s.ppr heading s.tracker.heading ch
      if (c.natAbs : Int) ≤ s.stopBandCounts then (keepTarget t s, .ok)
      else match s.targetWay ch c with
        | none => (blockPlanning s, .state)
        | some way => (keepTarget t (handMove way .heading s), .ok)

/-- The count of a seek that passes the twist check: a little more than one revolution, clockwise first (R145). -/
def State.seekWay (s : State) : Option Int :=
  let n : Int := ((s.ppr * 11 / 10 : Nat) : Int)
  if s.twistFits n then some n else if s.twistFits (-n) then some (-n) else none

/-- YAW_SEEK (R145). -/
def yawSeekRequest (s : State) : State × Status :=
  if s.decision.mode = .seek then (s, .ok)
  else if s.sequencer.record.isSome ∨ s.summary.yawHold = true then (s, .state)
  else if s.yawExchangePending then (s, .busy)
  else if s.tracker.twistSet = false then (raise fcNotReady 2 s, .state)
  else match s.seekWay with
    | none => (blockPlanning s, .state)
    | some way =>
      let wasStorm := decide (s.decision.mode = .storm)
      let s := setYawMode .seek s
      let s := if wasStorm then judge fcStormMode false 0 s else s
      (handMove way .heading s, .ok)

/-- An index reference handed by the tracker (R145): it ends a SEEK. -/
def decisionIndex (s : State) : State :=
  if s.decision.mode = .seek then stopMove (setYawMode .hold s) else s

/-! ## Duty and rest (R148, R149) -/

/-- The second event at the decision (R148). Rest begins as the consequence REST_BEGIN. -/
def decisionSecond (s : State) : State :=
  if s.running ∧ s.pointValue 37 ≠ 0 then
    let duty := bump 65535 s.decision.duty
    let s := { s with decision := { s.decision with duty := duty, driveSeen := true } }
    if s.dutyMax ≤ duty ∧ s.decision.rest = none then s.addDue .restBegin else s
  else s

/-- The minute event at the decision (R148, R149). Rest ends as the consequence REST_END. -/
def decisionMinute (s : State) : State :=
  if !s.running then s
  else match s.decision.rest with
    | none =>
      let d := s.decision
      { s with decision := { d with duty := if d.driveSeen then d.duty else d.duty - s.dutyDecay, driveSeen := false } }
    | some m =>
      let s := { s with decision := { s.decision with rest := some (m - 1) } }
      if m - 1 = 0 then s.addDue .restEnd else s

/-- Rest begins (R149): RUNNING with the rest time, YAW_DUTY_REST present, an AUTO or UNWIND move stopped. -/
def beginRest (s : State) : State :=
  let s := { s with decision := { s.decision with rest := some s.restTime } }
  let s := judge fcDutyRest true s.decision.duty s
  match s.sequencer.record with
  | some r => if r.mode = .auto ∨ r.mode = .unwind then stopMove s else s
  | none => s

/-- Rest ends (R149): NONE, the duty counter and drive seen cleared, YAW_DUTY_REST ends. -/
def endRest (s : State) : State :=
  judge fcDutyRest false 0 { s with decision := { s.decision with rest := none, duty := 0, driveSeen := false } }

end Sys2Proof.Machine
end

