-- ==== Sys2Proof/Machine/Edges.lean ====
section
/-! DEFINITION. The heading tracker's events: filtered transitions, counted and absorbed edges, forced advances, slip,
the index reference, SET_HEADING, SET_TWIST and the swap of the YCF (chapter 6). -/

namespace Sys2Proof.Machine

/-- YAW_TRACK_LOST judged after the consecutive forced count stood at `before` (R118): it is judged at each change of
that count (log entry 14). -/
def judgeTrackLost (before : Nat) (s : State) : State :=
  if s.tracker.forcedRun = before then s
  else judge fcTrackLost (decide (s.forcedLimit ≤ s.tracker.forcedRun)) s.tracker.heading s

/-- The heading count and the twist moved by `d` (R112, R116). -/
def moveCount (d : Int) (s : State) : State :=
  let t := s.tracker
  { s with tracker :=
      { t with heading := modPpr s.ppr ((t.heading : Int) + d),
               twist := saturate (-i32Max) i32Max (t.twist + d) } }

/-- The interval since the last accepted edge enters the history, if the sequencer is in a step other than 0 and an
accepted edge was held (R112, R113). -/
def enterEdgeInterval (previous : Option Micros) (s : State) : State :=
  match previous with
  | some p =>
    if s.sequencer.step = 0 then s else { s with tracker := enterInterval s.baseDepth (s.elapsed p) s.tracker }
  | none => s

/-- A counted edge of direction `d` (R112, R119), the last accepted edge before it being `previous`. The tracker's own
changes come first, then the raises, then the hand-overs to the sequencer and the decision. -/
def countedEdge (d : Int) (previous : Option Micros) (s : State) : State :=
  let before := s.tracker.forcedRun
  let parked := decide (s.sequencer.step = 0)
  let s := moveCount d s
  let s := { s with tracker := { s.tracker with window := none, forcedRun := 0 } }
  let s := restartEdgeTimer (enterEdgeInterval previous s)
  let s := if parked then { s with tracker := { s.tracker with slips := bump 65535 s.tracker.slips } } else s
  let s := writeHeading s
  let s := judgeTrackLost before s
  let s :=
    if parked ∧ s.slipLimit < s.tracker.slips ∧ s.tracker.slipRaised = false then
      raise fcSlip s.tracker.slips { s with tracker := { s.tracker with slipRaised := true } }
    else s
  judgeTwist (handStep d s)

/-- Whether an accepted edge of direction `d` is absorbed (R117); one at the very moment of the closing, taken before it, is
(DEDUCED, log entry 21). -/
def State.absorbs (s : State) (d : Int) : Bool :=
  match s.tracker.window with
  | some w => decide (w.direction = d) && decide (s.elapsed w.start ≤ w.length)
  | none => false

/-- An absorbed edge (R117). -/
def absorbedEdge (previous : Option Micros) (s : State) : State :=
  let before := s.tracker.forcedRun
  let t := s.tracker
  let restored := decide (t.deadReckon = 1) && t.quality == .deadReckoned
  let s := { s with tracker :=
      { t with deadReckon := t.deadReckon - 1, window := none, forcedRun := 0,
               quality := if restored then .referenced else t.quality } }
  let s := restartEdgeTimer (enterEdgeInterval previous s)
  let s := if restored then writeHeading s else s
  judgeTrackLost before s

/-- Whether an edge now is a bounce (R111). -/
def State.bounces (s : State) : Bool :=
  match s.tracker.lastEdge with
  | some e => decide (s.elapsed e < s.tracker.baseTime * s.bounceMask / 128)
  | none => false

/-- A bounce rejected (R111): counted in a step other than 0, and YAW_BOUNCE raised when the count reaches 16. -/
def rejectBounce (s : State) : State :=
  if s.sequencer.step = 0 then s
  else
    let n := bump 65535 s.tracker.bounces
    let s := { s with tracker := { s.tracker with bounces := n } }
    if n = 16 then raise fcBounce s.tracker.heading s else s

/-- An edge of direction `d` of one tooth input (R111, R112, R117). -/
def toothEdge (d : Int) (s : State) : State :=
  if s.bounces then rejectBounce s
  else
    let previous := s.tracker.lastEdge
    let absorbed := s.absorbs d
    let s := { s with tracker := { s.tracker with lastEdge := some s.timebase } }
    if absorbed then absorbedEdge previous s else countedEdge d previous s

/-- The direction of a change of one input, from the quadrature state before it (R110). -/
def edgeDirection (a b changedA : Bool) : Int := if (a == b) == changedA then 1 else -1

/-- A filtered tooth transition at the decoder (R110): the inputs that change level at this microsecond. -/
def toothChange (changeA changeB : Bool) (s : State) : State :=
  let t := s.tracker
  let a := if changeA then !t.filtA else t.filtA
  let b := if changeB then !t.filtB else t.filtB
  let changed := { s with tracker := { t with filtA := a, filtB := b, quadA := a, quadB := b } }
  if changeA && changeB then raise fcQuadrature t.heading changed
  else if changeA then toothEdge (edgeDirection t.quadA t.quadB true) changed
  else if changeB then toothEdge (edgeDirection t.quadA t.quadB false) changed
  else s

/-- The circular distance between the heading count and the index position (R120). -/
def circularDistance (ppr count position : Nat) : Int :=
  let d : Int := (((count : Int) - (position : Int)).natAbs : Int)
  min d ((ppr : Int) - d)

/-- The index reference at a rising index edge (R120). -/
def indexReference (s : State) : State :=
  let s :=
    if s.tracker.quality = .referenced ∧ 2 < circularDistance s.ppr s.tracker.heading s.indexPosition then
      raise fcIndexMismatch s.tracker.heading s
    else s
  let before := s.tracker.forcedRun
  let s := { s with tracker :=
      { s.tracker with heading := s.indexPosition, quality := .referenced, deadReckon := 0, window := none,
                       forcedRun := 0 } }
  decisionIndex (judgeTrackLost before (writeHeading s))

/-- A filtered transition of INDEX (R120): the rising edge is the index edge, the falling one is ignored. -/
def indexChange (change : Bool) (s : State) : State :=
  if change then
    let level := !s.tracker.filtIndex
    let s := { s with tracker := { s.tracker with filtIndex := level } }
    if level then indexReference s else s
  else s

/-- The filtered transitions of one microsecond (R109, R110, R120). -/
def filteredChanges (changeA changeB changeIndex indexFirst : Bool) (s : State) : State :=
  if indexFirst then toothChange changeA changeB (indexChange changeIndex s)
  else indexChange changeIndex (toothChange changeA changeB s)

/-! ## The digital filters (R109) -/

/-- A raw input after a sample: a change of level starts to be held now. -/
def sampleInput (level : Bool) (now : Micros) (r : RawInput) : RawInput :=
  if r.level = level then r else { level := level, since := now }

/-- The raw levels of the three inputs sampled. -/
def sampleInputs (a b index : Bool) (s : State) : State :=
  let i := s.inputs
  { s with inputs := { toothA := sampleInput a s.timebase i.toothA, toothB := sampleInput b s.timebase i.toothB,
                       index := sampleInput index s.timebase i.index } }

/-- How many µs an input's raw level must still hold for its filtered transition: none where the two levels agree (R109).
A level that a swap to a smaller W leaves nothing to wait is due now. -/
def State.filterWait (s : State) (r : RawInput) (filtered : Bool) : Option Nat :=
  if r.level = filtered then none else some (s.filterWidth - s.elapsed r.since)

/-- The filtered transitions due at the present microsecond, taken together (R109, R110, R120). -/
def takeTransitions (indexFirst : Bool) (s : State) : State :=
  filteredChanges (decide (s.filterWait s.inputs.toothA s.tracker.filtA = some 0))
    (decide (s.filterWait s.inputs.toothB s.tracker.filtB = some 0))
    (decide (s.filterWait s.inputs.index s.tracker.filtIndex = some 0)) indexFirst s

/-- Whether a sample takes back a level that an input has held for its W µs, so that its filtered transition is due
now (R109). -/
def State.takesBack (s : State) (level : Bool) (r : RawInput) (filtered : Bool) : Bool :=
  decide (level ≠ r.level) && decide (s.filterWait r filtered = some 0)

/-- The filtered transitions due now, where a sample takes back the level of one of them: they are taken before it
(R109; log entry 30). -/
def takeBeforeSample (a b index indexFirst : Bool) (s : State) : State :=
  if s.takesBack a s.inputs.toothA s.tracker.filtA || s.takesBack b s.inputs.toothB s.tracker.filtB ||
      s.takesBack index s.inputs.index s.tracker.filtIndex then
    takeTransitions indexFirst s
  else s

/-! ## Forced advances, window, forgetting (R115 to R117, R111) -/

/-- A forced advance in the commanded direction `c` (R116): the tracker's own changes, then YAW_TRACK_LOST, then the
hand-overs. A move that the raise has ended leaves the timer STOPPED and the window CLOSED (R115). -/
def forcedAdvance (c : Int) (s : State) : State :=
  let before := s.tracker.forcedRun
  let s := moveCount c s
  let t := s.tracker
  let s := { s with tracker :=
      { t with deadReckon := bump 65535 t.deadReckon, forcedRun := bump 255 t.forcedRun,
               quality := if t.quality = .referenced then .deadReckoned else t.quality,
               window := some { direction := c, start := s.timebase, length := t.baseTime } } }
  let s := writeHeading (startEdgeTimer s)
  let s := judgeTrackLost before s
  judgeTwist (handStep c s)

/-- The expiry of the expected-edge timer (R115): a forced advance in the commanded direction, which YAW_DIR shows
(R116). -/
def expireEdgeTimer (s : State) : State := forcedAdvance (s.pointValue 38) s

/-- The absorption window closing when its length has passed (R117). -/
def closeWindow (s : State) : State := { s with tracker := { s.tracker with window := none } }

/-- The last accepted edge forgotten 2^31 µs after it (R111). -/
def forgetEdge (s : State) : State := { s with tracker := { s.tracker with lastEdge := none } }

/-! ## SET_HEADING, SET_TWIST, the swap of the YCF (R122, R123, R125) -/

/-- SET_HEADING (R122). -/
def setHeadingRequest (count : Nat) (s : State) : State × Status :=
  if s.ppr ≤ count then (s, .badArgument)
  else if s.sequencer.step ≠ 0 then (s, .state)
  else
    let before := s.tracker.forcedRun
    let s := { s with tracker :=
        { s.tracker with heading := count, quality := .referenced, deadReckon := 0, forcedRun := 0, window := none } }
    (judgeTrackLost before (writeHeading s), .ok)

/-- SET_TWIST (R123). -/
def setTwistRequest (twist : Int) (s : State) : State × Status :=
  if twist = i32Min then (s, .badArgument)
  else if s.sequencer.step ≠ 0 then (s, .state)
  else
    let s := { s with tracker := { s.tracker with twist := twist, twistSet := true } }
    (judgeTwist (writeHeading s), .ok)

/-- The tracker at a swap of the YCF whose former PPR was `oldPpr` (R125, R113, R118). -/
def trackerYcfSwap (oldPpr : Nat) (s : State) : State :=
  let t := s.tracker
  let t := { t with baseTime := baseOf s.baseDepth t.history }
  let s :=
    if s.ppr = oldPpr then { s with tracker := t }
    else
      writeHeading { s with tracker :=
        { t with heading := modPpr s.ppr t.heading, quality := .unreferenced, twistSet := false, deadReckon := 0,
                 forcedRun := 0, window := none } }
  judge fcTrackLost (decide (s.forcedLimit ≤ s.tracker.forcedRun)) s.tracker.heading s

end Sys2Proof.Machine
end

