-- ==== Sys2Proof/Machine/Validation.lean ====
section
/-! DEFINITION. The validation of the nine tables, each by its owner's rule (R40, R72 to R74, R94, R124, R150, R157,
R185). Each answers the word index of the first failure, or none. -/

namespace Sys2Proof.Machine

/-- The word index of the first check that fails; a check is whether it fails, with its word index. -/
def firstFailure (checks : List (Bool × Nat)) : Option Nat := (checks.find? Prod.fst).map Prod.snd

/-- Whether a figure lies outside a range. -/
def outside (lo hi x : Nat) : Bool := x < lo || hi < x

/-! ## SMT (R40) -/

/-- Checks 3 to 9 of R40 for one action. -/
def FieldAction.fails (a : FieldAction) : Bool :=
  3 < a.kind
    || !(a.width == 1 || a.width == 2 || a.width == 4)
    || 60 < a.displacement + a.width
    || a.noPointA
    || (a.kind == 0 && 32 ≤ a.pointA && a.pointA ≤ 63)
    || (a.kind == 2 && a.noPointB)
    || (a.kind == 3 && (a.noPointB || outside 36 47 a.pointB))

/-- Whether entry `e` of a slot map fails one of the checks of R40. -/
def smtEntryFails (smt : List Word) (e : Nat) : Bool :=
  let x := slotEntry smt e
  x.used &&
    (x.tag == 0xFD || x.tag == 0xFE
      || 8 < x.fieldCount
      || x.actions.any FieldAction.fails
      || (List.range e).any (fun d =>
            let y := slotEntry smt d
            y.used && y.tag == x.tag && y.lane == x.lane))

/-- The validation of table 0 (R40). -/
def validateSmt (ws : List Word) : Option Nat :=
  firstFailure ((List.range 48).map (fun e => (smtEntryFails ws e, 25 * e)))

/-! ## PLT, DRT-T, DRT-G, THM (R72, R73, R74, R94) -/

/-- The validation of table 1 (R72). -/
def validatePlt (ws : List Word) : Option Nat :=
  let f := figure ws
  firstFailure
    ([(outside 1 4000 (f 0), 0), (outside 1 4095 (f 1), 1), (outside 1 500 (f 2), 2), (f 3 != 32768, 3)] ++
      (List.range 7).map (fun k => (decide (f (3 + k) < f (4 + k)), 4 + k)) ++
      [(decide (32768 < f 11), 11), (f 13 == 0, 13), (f 14 == 0, 14), (f 15 == 0, 15)])

/-- The validation of table 2 (R73). -/
def validateDrtT (ws : List Word) : Option Nat :=
  firstFailure ((List.range 8).map (fun k =>
    ((decide (1 ≤ k) && decide (signedFigure ws (2 * k) ≤ signedFigure ws (2 * (k - 1))))
      || decide (32768 < figure ws (2 * k + 1)), 2 * k)))

/-- The validation of table 3 (R74). -/
def validateDrtG (ws : List Word) : Option Nat :=
  let f := figure ws
  let header := decide (f 0 < f 1 ∧ f 1 ≤ 1000 ∧ 1000 ≤ f 2 ∧ f 2 < f 3 ∧ 1 ≤ f 4 ∧ 1 ≤ f 5 ∧ f 6 ≤ 3)
  firstFailure ((!header, 0) :: (List.range 8).map (fun k =>
    ((decide (1 ≤ k) && decide (f (7 + 3 * k) ≤ f (7 + 3 * (k - 1)))) || decide (32768 < f (9 + 3 * k)), 7 + 3 * k)))

/-- The validation of table 4 (R94). -/
def validateThm (ws : List Word) : Option Nat :=
  let f := figure ws
  let t := signedFigure ws
  firstFailure
    ([(f 2 == 0, 2), (f 3 == 0, 3), (decide (2000 < f 4), 4)] ++
      (List.range 6).map (fun k =>
        ((decide (1 ≤ k) && decide (t (9 + 2 * k) ≤ t (9 + 2 * (k - 1)))) || decide (1000 < f (10 + 2 * k)), 9 + 2 * k)) ++
      [(outside 1 1000 (f 21), 21), (f 23 == 0, 23), (outside 1 1000 (f 24), 24),
       (decide (t 26 ≤ t 25), 26), (decide (t 27 ≤ t 26), 27),
       (decide (t 25 ≤ t 28), 28),
       (decide (t 26 ≤ t 29 ∨ t 29 ≤ t 28), 29),
       (decide (t 27 ≤ t 30 ∨ t 30 ≤ t 29), 30)])

/-! ## YCF, YST (R124, R150) -/

/-- The validation of table 5 (R124). -/
def validateYcf (ws : List Word) : Option Nat :=
  let f := figure ws
  firstFailure
    [(outside 400 16000 (f 0), 0), (decide (f 0 ≤ f 1), 1), (outside 1 255 (f 2), 2), (decide (255 < f 3), 3),
     (decide (127 < f 4), 4), (outside 129 1023 (f 5), 5), (outside 1 7 (f 6), 6), (decide (3 < f 7), 7),
     (outside 1000 10000000 (figure2 ws 8), 8), (decide (f 11 ≤ f 12), 12), (decide (f 13 ≤ f 11), 13),
     (decide (f 15 ≤ f 16), 16), (f 17 == 0, 17), (outside 1 256 (f 18), 18), (outside 1 1800 (f 19), 19),
     (f 20 == 0, 20), (decide (1800 < f 21), 21), (f 22 == 0, 22), (f 23 == 0, 23), (decide (255 < f 25), 25),
     (decide (255 < f 26), 26), (decide (255 < f 27), 27)]

/-- Whether the chain of IMMEDIATE and ON_TARGET steps from step `k` returns to a step already passed (R150, check 7).
A chain of more than seven steps does. -/
def chainLoops (yst : List Word) : Nat → Nat → Bool
  | 0, _ => true
  | fuel + 1, k =>
    let y := yawStep yst k
    if k = 0 ∨ 7 < k then false
    else if y.trigger = trigImmediate ∨ y.trigger = trigOnTarget then chainLoops yst fuel y.next
    else false

/-- Whether step `k` fails one of the checks of R150. -/
def yawStepFails (yst : List Word) (k : Nat) : Bool :=
  let y := yawStep yst k
  y.brake == 3 || y.direction == 3 || 5 < y.trigger || 1000 < y.speed || 7 < y.next || 7 < y.timeoutStep
    || (y.drives != 0 && y.brake == 0) || chainLoops yst 8 k

/-- The validation of table 6 (R150). -/
def validateYst (ws : List Word) : Option Nat :=
  firstFailure
    ([(outside 1 7 (figure ws 0), 0), (outside 1 7 (figure ws 1), 1)] ++
      (List.range 7).map (fun j => (yawStepFails ws (j + 1), 2 + 5 * j)))

/-! ## FAT, ITP (R157, R185) -/

/-- The validation of table 7 (R157). -/
def validateFat (ws : List Word) : Option Nat :=
  firstFailure
    ((List.range 64).map (fun k => ((faultEntry ws k).trip && !(faultEntry ws k).latching, k)) ++
      (List.range 16).map (fun j => (decide (2 < (watchOf ws j).comparison), 64 + 4 * j)))

/-- The length of an island frame over its header, its slots 0 to `k` and its check (R185). -/
def runningLength (itp : List Word) (k : Nat) : Nat :=
  5 + ((List.range (k + 1)).map (fun j => 2 + (islandSlot itp j).2)).sum + 2

/-- Whether slot `k` of an island template fails (R185). -/
def islandSlotFails (itp : List Word) (k : Nat) : Bool :=
  let x := islandSlot itp k
  x.1 == 0xFD || x.1 == 0xFE || 60 < x.2 || 1024 < runningLength itp k

/-- The validation of table 8 (R185). A count above 24 fails before any slot, so no slot past the 24th is looked at. -/
def validateItp (ws : List Word) : Option Nat :=
  firstFailure
    ([(outside 1000 500000 (figure2 ws 0), 0), (outside 1000 100000 (figure2 ws 2), 2), (outside 1 24 (figure ws 4), 4)] ++
      (List.range (min 24 (figure ws 4))).map (fun k => (islandSlotFails ws k, 5 + k)))

/-! ## All tables -/

/-- The validation of table `t` by its owner (R188). -/
def validateTable (t : Nat) (ws : List Word) : Option Nat :=
  match t with
  | 0 => validateSmt ws
  | 1 => validatePlt ws
  | 2 => validateDrtT ws
  | 3 => validateDrtG ws
  | 4 => validateThm ws
  | 5 => validateYcf ws
  | 6 => validateYst ws
  | 7 => validateFat ws
  | _ => validateItp ws

/-- The tables that a mask names, in order of id (R188). -/
def maskTables (mask : Word) : List Nat := (List.range 9).filter (bitOf mask)

/-- The first failure among the SHADOW copies that a mask names: table id and word index (R195). -/
def State.exchangeFailure (s : State) (mask : Word) : Option (Nat × Nat) :=
  (maskTables mask).findSome? (fun t => (validateTable t (s.shadow t)).map (fun w => (t, w)))

end Sys2Proof.Machine
end

