-- ==== Sys2Proof/Machine/Banks.lean ====
section
/-! DEFINITION. The table banks (chapter 10): writes, reads, copies, exchanges, the swap, draining, locks. -/

namespace Sys2Proof.Machine

/-! ## Masks and locks -/

/-- A mask that a request may name: not 0, no bit above bit 8 (chapter 10.2). -/
def maskOk (mask : Word) : Bool := mask.toNat != 0 && mask.toNat < 512

/-- The lock of table `t` (R188). -/
def State.locked (s : State) (t : Nat) : Bool := s.banks.locks.getD t false

/-- The tables of a mask that are locked, as a mask. -/
def State.lockedMask (s : State) (mask : Word) : Nat :=
  (((maskTables mask).filter s.locked).map (fun t => 2 ^ t)).sum

/-- The lock set as a mask (R197). -/
def State.lockSet (s : State) : Nat := (((List.range 9).filter s.locked).map (fun t => 2 ^ t)).sum

/-- Whether the bank state refuses writes (R190). -/
def State.banksBusy (s : State) : Bool := s.banks.status != .idle

/-- A refusal for a lock: LOCKED, with LOCK_VIOLATION and the mask `context` (R191, R193, R194, R198). -/
def refuseLocked (context : Nat) (s : State) : State × List Byte :=
  (raise fcLockViolation context s, Status.alone .locked)

/-! ## Draining (R190) -/

/-- A removal from the frames-in-flight list as the banks take it: the one that leaves no older record ends DRAINING
(R190). -/
def bankDrain (s : State) : State :=
  if s.banks.status = .draining ∧ s.flight.all (fun r => r.generation == s.banks.generation) = true then
    { s with banks := { s.banks with status := .idle } }
  else s

/-! ## TABLE_WRITE, TABLE_READ, COPY (R191 to R193) -/

/-- The number of words of table `t` (R188). -/
def tableSize (t : Nat) : Nat := tableSizes.getD t 0

/-- How many of `n` words a write from `start` places: up to the end of the page and of the table (R191). -/
def wordsPlaced (size start n : Nat) : Nat := min n (min (32 - start % 32) (size - start))

/-- Words placed into a table image from an index on. -/
def placeWords (start : Nat) (new old : List Word) : List Word :=
  old.take start ++ new ++ old.drop (start + new.length)

/-- The SHADOW copy of table `t` replaced. -/
def setShadow (t : Nat) (c : TableCopy) (s : State) : State :=
  { s with banks := { s.banks with shadow := s.banks.shadow.set t c } }

/-- TABLE_WRITE (R191). -/
def tableWriteRequest (t start : Nat) (words : List Word) (s : State) : State × List Byte :=
  if 8 < t ∨ tableSize t ≤ start ∨ outside 1 27 words.length = true then (s, Status.alone .badArgument)
  else if s.locked t then refuseLocked (2 ^ t) s
  else if s.banksBusy then (s, Status.alone .busy)
  else
    let n := wordsPlaced (tableSize t) start words.length
    (setShadow t { words := placeWords start (words.take n) (s.shadow t), valid := false } s,
      Status.ok.code :: putU 1 n)

/-- TABLE_READ (R192). -/
def tableReadRequest (t bank start count : Nat) (s : State) : State × List Byte :=
  if 8 < t ∨ tableSize t ≤ start ∨ 1 < bank ∨ outside 1 24 count = true then (s, Status.alone .badArgument)
  else
    let copy := (if bank = 0 then s.banks.active else s.banks.shadow).getD t (.reset 0)
    let words := (copy.words.drop start).take count
    (s, Status.ok.code :: (putU 1 words.length ++ putU 1 (flagCode copy.valid) ++ putU 2 s.banks.generation.toNat ++
      putU 1 s.banks.status.code ++ words.flatMap (fun w => putU 2 w.toNat)))

/-- One table of a COPY (R193). -/
def copyTable (s : State) (t : Nat) : State := setShadow t (s.banks.active.getD t (.reset 0)) s

/-- COPY (R193). -/
def copyRequest (mask : Word) (s : State) : State × List Byte :=
  if maskOk mask = false then (s, Status.alone .badArgument)
  else if s.lockedMask mask ≠ 0 then refuseLocked (s.lockedMask mask) s
  else if s.banksBusy then (s, Status.alone .busy)
  else ((maskTables mask).foldl copyTable s, Status.alone .ok)

/-! ## EXCHANGE (R194) -/

/-- Whether an exchange repeats the last one (R194, case 1). -/
def State.repeatsExchange (s : State) (mask g : Word) : Bool :=
  match s.banks.lastExchange with
  | some x =>
    x.mask == mask && x.fromGeneration == g &&
      (s.banks.generation == g + 1 || s.banks.status == .scheduled mask)
  | none => false

/-- The OK response of an exchange from generation `g` (R194, R213). -/
def exchangeOk (g : Word) (s : State) : List Byte :=
  Status.ok.code :: (putU 2 (g + 1).toNat ++ putU 1 s.banks.status.code)

/-- EXCHANGE (R194). -/
def exchangeRequest (mask g : Word) (s : State) : State × List Byte :=
  if maskOk mask = false then (s, Status.alone .badArgument)
  else if s.repeatsExchange mask g then (s, exchangeOk g s)
  else if s.lockedMask mask ≠ 0 then refuseLocked (s.lockedMask mask) s
  else if s.banksBusy then (s, Status.alone .busy)
  else if g ≠ s.banks.generation then (s, Status.alone .state)
  else if (bitOf mask 5 || bitOf mask 6) = true ∧ (s.sequencer.step ≠ 0 ∨ s.sequencer.phase ≠ .none) then
    (s, Status.alone .state)
  else match s.exchangeFailure mask with
    | some (t, w) => (s, Status.invalid.code :: (putU 1 t ++ putU 2 w))
    | none =>
      let s := { s with banks :=
        { s.banks with status := .scheduled mask, lastExchange := some { mask := mask, fromGeneration := g } } }
      (s, exchangeOk g s)

/-! ## The swap (R196) -/

/-- One table's copies changing places, the new ACTIVE flag valid (R196). -/
def swapTable (b : Banks) (t : Nat) : Banks :=
  let a := b.active.getD t (.reset 0)
  let h := b.shadow.getD t (.reset 0)
  { b with active := b.active.set t { h with valid := true }, shadow := b.shadow.set t a }

/-- The banks' own part of a swap with mask `mask`: copies, generation, bank state (R196). -/
def swapBanks (mask : Word) (s : State) : State :=
  let old := s.banks.generation
  let b := (maskTables mask).foldl swapTable s.banks
  let older := !s.flight.isEmpty && s.flight.all (fun r => r.generation == old)
  { s with banks := { b with generation := old + 1, status := if older then .draining else .idle } }

/-- The counters of the slot map set to 0 (R39). -/
def resetHits (s : State) : State := { s with entryHits := List.replicate 48 .reset }

/-- The swap with its hand-over to the owners, in order of table id (R196): SMT counters (R39), arbiter (R106), tracker
and twist conditions (R125, R147), fault manager (R158). The other owners read their new table at their next use. -/
def swapExchange (mask : Word) (s : State) : State :=
  let oldPpr := s.ppr
  let s := swapBanks mask s
  let s := if bitOf mask 0 then resetHits s else s
  let s := if bitOf mask 1 then arbiterPltSwap s else s
  let s := if bitOf mask 5 then judgeTwist (trackerYcfSwap oldPpr s) else s
  if bitOf mask 7 then fatSwap s else s

/-- Step 2 of an out-lane frame start (R15): a scheduled exchange is swapped. -/
def swapIfScheduled (s : State) : State :=
  match s.banks.status with
  | .scheduled mask => swapExchange mask s
  | _ => s

/-! ## LOCK and UNLOCK (R197, R198) -/

/-- The locks of a mask's tables set or cleared. -/
def setLocks (mask : Word) (value : Bool) (s : State) : State :=
  { s with banks := { s.banks with locks := (maskTables mask).foldl (fun l t => l.set t value) s.banks.locks } }

/-- The OK response that carries the lock set (R213). -/
def lockResponse (s : State) : State × List Byte := (s, Status.ok.code :: putU 2 s.lockSet)

/-- Whether an exchange is SCHEDULED (R190). -/
def BankStatus.isScheduled : BankStatus → Bool
  | .scheduled _ => true
  | _ => false

/-- LOCK (R197). -/
def lockRequest (mask : Word) (s : State) : State × List Byte :=
  if maskOk mask = false then (s, Status.alone .badArgument)
  else if s.banks.status.isScheduled then (s, Status.alone .busy)
  else lockResponse (setLocks mask true s)

/-- UNLOCK (R198). -/
def unlockRequest (mask : Word) (s : State) : State × List Byte :=
  if maskOk mask = false then (s, Status.alone .badArgument)
  else if s.strap = .service then lockResponse (setLocks mask false s)
  else refuseLocked mask.toNat s

end Sys2Proof.Machine
end

