-- ==== Sys2Proof/Machine/Points.lean ====
section
/-! DEFINITION. The point table (chapter 2, R41 to R49): its conditions, ageing, commits, forces and releases. -/

namespace Sys2Proof.Machine

/-! ## Conditions (R48, R49) -/

/-- A point that makes STALE_INPUT present: an input 0 to 31 that is STALE and whose limit is not 255 (R48). -/
def State.staleInput (s : State) (n : Nat) : Bool :=
  (s.point n).quality == .stale && stalenessLimit s.smt n != 255

/-- STALE_INPUT evaluated, with the lowest such point as context (R48). -/
def evaluateStale (s : State) : State :=
  match (List.range 32).find? s.staleInput with
  | some n => judge fcStaleInput true n s
  | none => judge fcStaleInput false 0 s

/-- Whether any point is FORCED (R49). -/
def State.anyForced (s : State) : Bool := s.points.any (fun p => p.quality == .forced)

/-- POINT_FORCED evaluated after a force or release of point `n` (R49). -/
def evaluateForced (n : Nat) (s : State) : State := judge fcPointForced s.anyForced n s

/-! ## Ageing and commits (R42, R43) -/

/-- The ageing step of an out-lane frame start, with the limits of the ACTIVE SMT, and STALE_INPUT after it (R42). -/
def agePoints (advance : Nat) (s : State) : State :=
  evaluateStale { s with points := s.points.mapIdx (fun n p => agePoint advance (stalenessLimit s.smt n) p) }

/-- The commit of a staging set (R43), and STALE_INPUT after it (R48). R11, R12 and R48 do not place STALE_INPUT among the
other raises of the good end: it comes right after the values, before the staged CHECK, SLOT_SHORT and SLOT_MISSING raises
(DESIGN CHOICE, log entry 35). -/
def commit (values : List (Nat × Int)) (s : State) : State :=
  evaluateStale { s with points := commitPoints s.points values }

/-! ## POINT_FORCE and POINT_RELEASE (R45, R46) -/

/-- The outcome of a force by the point's number and the strap mode (R45). -/
def forceStatus (strap : StrapMode) (n : Nat) : Status :=
  if n ≤ 31 then (if strap = .service then .ok else .serviceOnly)
  else if n ≤ 63 then .badArgument
  else .ok

/-- POINT_FORCE (R45). -/
def pointForceRequest (n : Nat) (v : Int) (s : State) : State × Status :=
  let st := forceStatus s.strap n
  if st = .ok then
    (evaluateForced n (evaluateStale
      { s with points := s.points.set n { value := v, quality := .forced, age := 0 } }), .ok)
  else (s, st)

/-- POINT_RELEASE (R46). -/
def pointReleaseRequest (n : Nat) (s : State) : State × Status :=
  if (s.point n).quality = .forced then
    (evaluateStale (evaluateForced n { s with points := s.points.set n (releasePoint (s.point n)) }), .ok)
  else (s, .ok)

end Sys2Proof.Machine
end

