-- ==== Sys2Proof/Machine/Slots.lean ====
section
/-! DEFINITION. What the lane engines do to a slot: the field actions of a slot-map entry (R31 to R36, R39), the report
contents (R20, R214, R215) and the service response (R19, R204). -/

namespace Sys2Proof.Machine

/-! ## Staging and counters (R10, R39) -/

/-- A lane's staging set changed. -/
def mapStaging (lane : Lane) (f : Staging → Staging) (s : State) : State :=
  let e := s.engine lane
  s.setEngine lane { e with staging := f e.staging }

/-- A value staged for a point, replacing one already staged (R10, R33). -/
def Staging.stage (n : Nat) (v : Int) (st : Staging) : Staging :=
  { st with values := st.values.filter (fun nv => nv.1 != n) ++ [(n, v)] }

/-- A fault staged with its context (R10). -/
def Staging.stageFault (code : Nat) (context : Int) (st : Staging) : Staging :=
  { st with faults := st.faults ++ [{ code := code, context := context }] }

/-- A clamp hit counted (R39). -/
def EntryHits.clampHit (h : EntryHits) : EntryHits := { h with clamp := bump 65535 h.clamp }

/-- A short hit counted (R39). -/
def EntryHits.shortHit (h : EntryHits) : EntryHits := { h with short := bump 65535 h.short }

/-- The counters of entry position `e` changed. -/
def countHit (e : Nat) (f : EntryHits → EntryHits) (s : State) : State :=
  { s with entryHits := s.entryHits.set e (f (s.entryHits.getD e .reset)) }

/-! ## Field actions (R32 to R36) -/

/-- The number in an action's field (R32). -/
def FieldAction.read (a : FieldAction) (payload : List Byte) : Int :=
  fieldRead a.signed ((payload.drop a.displacement).take a.width)

/-- A number written into an action's field (R32). -/
def FieldAction.write (a : FieldAction) (x : Int) (payload : List Byte) : List Byte :=
  payload.take a.displacement ++ fieldWrite a.signed a.width x ++ payload.drop (a.displacement + a.width)

/-- Whether an action's field lies inside the slot (R32). -/
def FieldAction.fits (a : FieldAction) (payload : List Byte) : Bool := a.displacement + a.width ≤ payload.length

/-- The result of a CLAMP of the number `f` (R35). -/
def State.clampResult (s : State) (a : FieldAction) (f : Int) : Int :=
  let low := s.point a.pointA
  let high := s.point a.pointB
  if low.live && high.live then min high.value (max low.value f) else 0

/-- EXTRACT (R33). -/
def extractAction (lane : Lane) (a : FieldAction) (payload : List Byte) (s : State) : State :=
  mapStaging lane (Staging.stage a.pointA (min (a.read payload) i32Max)) s

/-- INSERT (R34). -/
def insertAction (a : FieldAction) (payload : List Byte) (s : State) : List Byte :=
  a.write (s.pointValue a.pointA) payload

/-- CLAMP (R35), with its hit counted (R39). -/
def clampAction (entry : Nat) (a : FieldAction) (payload : List Byte) (s : State) : List Byte × State :=
  let f := a.read payload
  let r := saturate (fieldMin a.signed a.width) (fieldMax a.signed a.width) (s.clampResult a f)
  (a.write r payload, if r = f then s else countHit entry EntryHits.clampHit s)

/-- CHECK (R36): the mismatch is staged with the slot's tag. -/
def checkAction (lane : Lane) (tag : Nat) (a : FieldAction) (payload : List Byte) (s : State) : State :=
  let p := s.point a.pointA
  if p.quality ≠ .empty ∧ a.tolerance < (a.read payload - p.value).natAbs then
    mapStaging lane (Staging.stageFault a.pointB tag) s
  else s

/-- One field action of entry `entry` on a payload (R31, R32). A field past the slot's end is skipped as SLOT_SHORT. -/
def applyAction (lane : Lane) (entry tag : Nat) (ps : List Byte × State) (a : FieldAction) : List Byte × State :=
  if a.fits ps.1 = false then
    (ps.1, countHit entry EntryHits.shortHit (mapStaging lane (Staging.stageFault fcSlotShort tag) ps.2))
  else
    match a.kind with
    | 0 => (ps.1, extractAction lane a ps.1 ps.2)
    | 1 => (insertAction a ps.1 ps.2, ps.2)
    | 2 => clampAction entry a ps.1 ps.2
    | 3 => (ps.1, checkAction lane tag a ps.1 ps.2)
    | _ => ps

/-- The actions of an entry in list order on a slot's payload (R31). -/
def applyEntry (lane : Lane) (position : Nat) (e : SlotEntry) (payload : List Byte) (s : State) :
    List Byte × State :=
  e.actions.foldl (applyAction lane position e.tag) (payload, s)

/-- The entry found for the slot in the buffer applied, and the payload let go (R31). -/
def slotApply (lane : Lane) (s : State) : State :=
  let e := s.engine lane
  match e.entry with
  | none => s
  | some position =>
    let keep := e.held.length - e.buffered
    let r := applyEntry lane position (slotEntry (s.boundSmt e.generation) position) (e.held.drop keep) s
    let e' := r.2.engine lane
    forwardHeld lane
      (r.2.setEngine lane { e' with held := e.held.take keep ++ r.1, buffered := 0, entry := none })

/-! ## Report slots (R20, R166, R214, R215) -/

/-- The length of the payload that is about to pass. -/
def Engine.slotLength (e : Engine) : Nat :=
  match e.parse with
  | .payload _ len _ => len
  | _ => 0

/-- The sizes of the report fields in offset order (R214). -/
def reportSizes : List Nat := [1, 1, 2, 1, 1, 1, 1, 1, 4, 4, 1, 2, 1, 2, 2, 1, 4, 1, 1, 1, 2, 1, 2, 1, 2]

/-- The bytes of the fields that fit whole, in order, into a slot of `room` bytes (R215). -/
def fittingBytes : List Nat → Nat → Nat
  | [], _ => 0
  | w :: rest, room => if w ≤ room then w + fittingBytes rest (room - w) else 0

/-- Report contents as written into a slot of length `len` (R215). -/
def reportPayload (contents : List Byte) (len : Nat) : List Byte :=
  padTo len (contents.take (fittingBytes reportSizes len))

/-- The action summary byte (R214). -/
def Summary.byte (m : Summary) : Nat :=
  m.derate % 8 + 8 * flagCode m.yawHold + 16 * flagCode m.pumpBoost + 32 * flagCode m.trip

/-- The spotlight fields: code, severity, context, raise time (R166, R214). -/
def State.spotlightFields (s : State) (code : Option Nat) : List Byte :=
  match code with
  | some k =>
    putU 1 k ++ putU 1 (s.faultEntry k).severity ++ putS 4 (s.fault k).context ++ putU 4 (s.fault k).raiseTime.toNat
  | none => [0xFF] ++ List.replicate 9 0

/-- The report contents with the spotlight chosen, 41 bytes (R214). -/
def State.reportContents (s : State) (code : Option Nat) : List Byte :=
  putU 1 s.opState.code ++ putU 1 s.strap.code ++ putU 2 s.banks.generation.toNat ++ putU 1 s.banks.status.code ++
  putU 1 s.latchedCount ++ putU 1 s.summary.severity ++ s.spotlightFields code ++ putU 1 s.summary.byte ++
  putU 2 s.envelope.limit ++ putU 1 s.envelope.rideThrough.code ++ putU 2 s.envelope.exposure ++
  putU 2 s.tracker.heading ++ putU 1 s.tracker.quality.code ++ putS 4 s.tracker.twist ++
  putU 1 (flagCode s.tracker.twistSet) ++ putU 1 s.decision.mode.code ++ putU 1 s.sequencer.step ++
  fieldWrite false 2 (s.pointValue 40) ++ fieldWrite false 1 (s.pointValue 41) ++ putS 2 (s.pointValue 44) ++
  putU 1 s.log.records.length ++ putU 2 (s.log.next - 1).toNat

/-- The report contents written over the report slot that is about to pass (R20, R215). -/
def overlayReport (contents : List Byte) (s : State) : State :=
  let e := s.retLane
  { s with retLane := { e with report := some contents, overlay := reportPayload contents e.slotLength } }

/-- The report contents taken at the first report slot of a frame, with the choice of the spotlight if the slot carries
offset 7 whole (R20, R166, R215). Where it does not, no spotlight is chosen, and the contents, which a longer report slot of
the same frame carries too, have the spotlight fields of R166's case without a code, 0xFF and 0, though codes may be pending
(DESIGN CHOICE, log entry 34). -/
def takeReport (s : State) : State :=
  match s.retLane.report with
  | some contents => overlayReport contents s
  | none =>
    if 8 ≤ s.retLane.slotLength then
      let code := s.chooseSpotlight
      overlayReport (s.reportContents code)
        { s with spotlight := code.map (fun k => { code := k, raisedAgain := false }) }
    else overlayReport (s.reportContents none) s

/-! ## Service slots (R19, R204) -/

/-- What the record of a frame gives its service slot (R19). An outcome still PENDING, which R19 excludes, gives nothing
(log entry 11). -/
def FlightRecord.slotResponse (r : FlightRecord) : Option (List Byte) :=
  match r.outcome with
  | .good => r.response
  | .bad => some (Status.alone .notTaken)
  | .pending => none

/-- What is written into the last service slot of the return frame, if anything is (R19). A record removed while the
frame was in passage still serves it (R17, R28); a binding to a record that does not stand, which no run has, is taken as
unbound. -/
def State.slotResponse (s : State) : Option (List Byte) :=
  match s.retLane.binding with
  | .unbound => some (Status.alone .notTaken)
  | .carrier r => some r
  | .removed r => r.slotResponse
  | .record id =>
    match s.flight.find? (fun r => r.id == id) with
    | none => some (Status.alone .notTaken)
    | some r => r.slotResponse

/-- The response written over the service slot that is about to pass (R19, R204). -/
def writeService (s : State) : State :=
  match s.slotResponse with
  | some r => { s with retLane := { s.retLane with overlay := padTo s.retLane.slotLength r } }
  | none => s

end Sys2Proof.Machine
end

