-- ==== Sys2Proof/Machine/Lanes.lean ====
section
/-! DEFINITION. The lane engines while a frame passes: frame starts (R15 to R18) and the walk of its bytes (R4 to R8). -/

namespace Sys2Proof.Machine

/-! ## Frame starts -/

/-- The cycle advance of a frame of cycle count `count` (R15, step 1). -/
def cycleAdvance (restart : Bool) (previous : Option Nat) (count : Nat) : Nat :=
  if restart then 1
  else match previous with
    | none => 1
    | some p => max 1 ((count + 128 - p) % 128)

/-- The oldest record pushed out of a full list, with RING_LATENCY (R16), as the banks take it (R190). -/
def pushOut (s : State) : State :=
  match s.flight with
  | r :: rest =>
    if 4 ≤ s.flight.length then
      raise fcLatency r.cycle (bankDrain { s with flight := rest, retLane := s.retLane.keeping [r] })
    else s
  | [] => s

/-- The origin of the frame in passage on the out lane (R16). -/
def Engine.origin (e : Engine) : Origin := if e.source = .island then .island else .master

/-- The binding of an out-lane frame (R16). -/
def bindOut (s : State) : State :=
  let s := pushOut s
  let e := s.outLane
  { s with
    outLane := { e with generation := s.banks.generation, record := some s.nextFlight }
    nextFlight := s.nextFlight + 1
    flight := s.flight ++
      [{ id := s.nextFlight, cycle := e.cycle, generation := s.banks.generation, origin := e.origin,
         outcome := .pending, response := none }] }

/-- The out-lane frame start (R15): cycle advance, exchange, ageing, binding. The pass is active in RUN and ISLAND
(R5), and the staging set is empty (R10). -/
def outFrameStart (s : State) : State :=
  let e := s.outLane
  let count := cycleOf (e.byteAt 1)
  let restart := restartOf (e.byteAt 1)
  let advance := cycleAdvance restart s.prevCycle count
  let s := { s with outLane := { e with started := true, active := s.running, cycle := count, staging := .empty } }
  let s := if restart then raise fcMasterRestart count s else s
  bindOut (agePoints advance (swapIfScheduled { s with prevCycle := some count }))

/-- The record that a return-lane frame matches (R17). -/
def State.matchRecord (s : State) (kind : Byte) (count : Nat) : Option FlightRecord :=
  let origin : Origin := if kind = kindIsland then .island else .master
  s.flight.find? (fun r => r.cycle == count && r.origin == origin)

/-- The return-lane frame start (R17, R18). -/
def returnFrameStart (s : State) : State :=
  let e := s.retLane
  let count := cycleOf (e.byteAt 1)
  let e := { e with started := true, active := s.running, cycle := count, staging := .empty,
                    generation := s.banks.generation, binding := .unbound }
  match s.matchRecord e.kind count with
  | some r => { s with retLane := { e with generation := r.generation, binding := .record r.id } }
  | none =>
    match s.carrier with
    | some (c, response) =>
      if c = count then { s with retLane := { e with binding := .carrier response }, carrier := none }
      else raise fcOrder count { s with retLane := e }
    | none => raise fcOrder count { s with retLane := e }

/-- The frame start of a lane. -/
def frameStart (lane : Lane) (s : State) : State :=
  match lane with
  | .out => outFrameStart s
  | .ret => returnFrameStart s

/-! ## The walk of the bytes (R4 to R6) -/

/-- The parse position of a lane's engine set. -/
def setParse (lane : Lane) (p : Parse) (s : State) : State := s.setEngine lane { s.engine lane with parse := p }

/-- A header byte has been received (R4, R6): the kind is judged at the first byte; at the fifth the frame start
follows, and slot count and total length are judged. -/
def headerByte (lane : Lane) (s : State) : State :=
  let e := s.engine lane
  if e.recv.length = 1 then
    if e.kind = kindCycle ∨ e.kind = kindIsland then s else setParse lane .lost s
  else if e.recv.length = 5 then
    let bad := outside 1 40 e.slotCount || outside 5 1022 e.total
    setParse lane (if bad then .lost else .tag) (s.addDue (.frameStart lane))
  else s

/-- The tag of a slot noted (R10, R19): the tag set while the pass is active, a misplaced service slot in every
operating state. -/
def noteTag (active last : Bool) (ordinal : Nat) (tag : Byte) (st : Staging) : Staging :=
  { st with
    tags := if active && !st.tags.contains tag then st.tags ++ [tag] else st.tags
    misplaced := if tag = 0xFE ∧ last = false then st.misplaced ++ [ordinal] else st.misplaced }

/-- A byte received where a slot's tag or the check would stand (R5, R6). -/
def tagByte (lane : Lane) (b : Byte) (s : State) : State :=
  let e := s.engine lane
  let n := e.recv.length
  if n = e.total + 1 then setParse lane (if e.ordinal = e.slotCount then .check else .lost) s
  else if e.ordinal = e.slotCount then setParse lane .lost s
  else
    let k := e.ordinal + 1
    s.setEngine lane
      { e with ordinal := k, staging := noteTag e.active (k == e.slotCount) k b e.staging,
               parse := if n = e.total then .lost else .length b }

/-- A report slot about to pass on the return lane (R20). -/
def openReport (s : State) : State :=
  match s.retLane.report with
  | some contents => overlayReport contents s
  | none => s.addDue .reportTaken

/-- A service slot that stands last, about to pass with `len` payload bytes: on the out lane it is captured from a
frame of kind CYCLE if its length is 1 to 60 (R201), on the return lane written (R19). A length of 0 passes unchanged. -/
def openService (lane : Lane) (len : Nat) (s : State) : State :=
  match lane with
  | .out => { s with outLane := { s.outLane with capture := s.outLane.kind == kindCycle && 1 ≤ len && len ≤ 60 } }
  | .ret => if len = 0 then s else s.addDue .serviceWrite

/-- A slot of tag 0x01 to 0xFC about to pass in an active pass: its entry, if there is one, is applied when its payload
is complete (R29, R31). A slot longer than the slot buffer passes unchanged (log entry 10). -/
def openMapped (lane : Lane) (tag : Byte) (len : Nat) (s : State) : State :=
  let e := s.engine lane
  if e.active && len ≤ 60 then
    match findEntry (s.boundSmt e.generation) lane tag.toNat with
    | some position =>
      let s := s.setEngine lane { e with entry := some position, buffered := 0 }
      if len = 0 then s.addDue (.slotApply lane) else s
    | none => s
  else s

/-- A slot whose tag and length have passed (R5). -/
def openSlot (lane : Lane) (tag : Byte) (len : Nat) (s : State) : State :=
  let e := s.engine lane
  if tag = 0xFD then (if lane = .ret then openReport s else s)
  else if tag = 0xFE then (if e.ordinal = e.slotCount then openService lane len s else s)
  else if tag = 0 ∨ tag = 0xFF then s
  else openMapped lane tag len s

/-- The length byte of a slot received (R5, R6). -/
def lengthByte (lane : Lane) (tag b : Byte) (s : State) : State :=
  let e := s.engine lane
  let len := b.toNat
  if e.total < e.recv.length + len then setParse lane .lost s
  else openSlot lane tag len (setParse lane (if len = 0 then .tag else .payload tag len len) s)

/-- A payload byte received; `left` counts it. At the last one a captured request is staged and an entry found is
applied (R10, R31). -/
def payloadByte (lane : Lane) (tag : Byte) (len left : Nat) (s : State) : State :=
  let e := s.engine lane
  let e := { e with buffered := if e.entry.isSome then e.buffered + 1 else 0 }
  if 1 < left then s.setEngine lane { e with parse := .payload tag len (left - 1) }
  else
    let request := if e.capture then some (e.recv.drop (e.recv.length - len)) else e.staging.request
    let s := s.setEngine lane
      { e with parse := .tag, capture := false, staging := { e.staging with request := request } }
    if e.entry.isSome then s.addDue (.slotApply lane) else s

/-- What a byte just received means to the walk (R5, R6). -/
def walkByte (lane : Lane) (b : Byte) (s : State) : State :=
  match (s.engine lane).parse with
  | .header => headerByte lane s
  | .tag => tagByte lane b s
  | .length tag => lengthByte lane tag b s
  | .payload tag len left => payloadByte lane tag len left s
  | .check => s
  | .lost => s

/-- P3 begins a frame at its first byte, unless its kind is ISLAND (R21). -/
def beginReturn (b : Byte) (s : State) : State :=
  if b = kindIsland then s else { s with p3 := { busy := true, bytes := [], ended := false } }

/-- A byte taken by a lane engine (R4 to R8): received, with any rewrite of it held back (R9), walked, and the bytes held
before it let go. The 1025th brings the cut of R7. -/
def feedByte (lane : Lane) (b : Byte) (s : State) : State :=
  let e := s.engine lane
  if 1024 ≤ e.recv.length then s.addDue (.overlengthCut lane)
  else
    let s := if lane = .ret ∧ e.recv = [] then beginReturn b s else s
    let s := s.setEngine lane
      { e with recv := e.recv ++ [b], held := e.held ++ [e.overlay.headD b], overlay := e.overlay.drop 1 }
    forwardHeld lane (walkByte lane b s)

end Sys2Proof.Machine
end

