-- ==== Sys2Proof/Machine/Reset.lean ====
section
/-! DEFINITION. The two resets: pin reset (R28) and SOFT_RESET (R207). -/

namespace Sys2Proof.Machine

/-- Pin reset and its release, SERVICE and the three inputs at the levels given (R28, R173). The waiting commands are
the senders' own and stay. -/
def pinReset (service a b index : Bool) (s : State) : State :=
  raise fcTimeNotSet 0
    { State.cleared (if service then .service else .normal) a b index with pending := s.pending }

/-- The tracker after SOFT_RESET (R108): levels, heading, twist and their qualities are kept. -/
def Tracker.softReset (t : Tracker) : Tracker :=
  { t with lastEdge := none, history := [], baseTime := 0, timer := none, window := none, deadReckon := 0,
           forcedRun := 0, bounces := 0, slips := 0, slipRaised := false }

/-- The bank state after SOFT_RESET: DRAINING becomes IDLE (R199). -/
def BankStatus.softReset : BankStatus → BankStatus
  | .draining => .idle
  | b => b

/-- The supervision after SOFT_RESET at time `now` (R187). -/
def Supervision.softReset (now : Micros) (v : Supervision) : Supervision :=
  { v with timer := if v.armed then some now else none, islandTimer := none, waiting := false }

/-- Every block at its SOFT_RESET values, the carrier set to the carrying frame and its OK response (R207, R18, R28). A
frame in passage on the return lane keeps its binding, and commits nothing at its end even if RUN is taken before it
(R28, R75). -/
def softCleared (s : State) : State :=
  { s with
    outLane := { s.outLane with staging := .empty }
    retLane := { s.retLane.keeping s.flight with staging := .empty, voided := true }
    outBad := 0
    retBad := 0
    prevCycle := none
    flight := []
    carrier := some (s.outLane.cycle, Status.alone .ok)
    opState := .pass
    entryHits := List.replicate 48 .reset
    points := List.replicate 256 .reset
    banks := { s.banks with status := s.banks.status.softReset }
    envelope := .reset
    thermal := .reset
    arbiter := .reset
    tracker := s.tracker.softReset
    sequencer := .reset
    decision := .reset
    faults := List.replicate 64 .reset
    spotlight := none
    summary := .reset
    supervision := s.supervision.softReset s.timebase }

/-- SOFT_RESET (R207): TIME_NOT_SET is raised as the last part while the time is not set (R173). -/
def softReset (s : State) : State :=
  let s := softCleared s
  if s.clock.timeSet then s else raise fcTimeNotSet 0 s

end Sys2Proof.Machine
end

