-- ==== Sys2Proof/Machine/Supervision.lean ====
section
/-! DEFINITION. Silence supervision, the island generator and the arbitration of P1 (R22, chapter 9). -/

namespace Sys2Proof.Machine

/-! ## Arming and the supervision timer (R176, R177, R184) -/

/-- ARM_SUPERVISION (R176). -/
def armRequest (s : State) : State × Status :=
  if s.supervision.armed then (s, .ok)
  else if s.opState = .pass then (s, .state)
  else
    ({ s with supervision :=
        { s.supervision with armed := true, limit := s.supervisionLimit, timer := some s.timebase } }, .ok)

/-- The restart of the supervision timer while armed (R177). -/
def restartSupervision (s : State) : State :=
  if s.supervision.armed then { s with supervision := { s.supervision with timer := some s.timebase } } else s

/-- Step 3 of R11 at a good out-lane end of a frame of kind CYCLE: the timer restarts, MASTER_SILENT ends, and ISLAND
becomes RUN with the island timer STOPPED and no island frame waiting (R177, R179, R180, R184; log entry 13). -/
def goodCycleEnd (s : State) : State :=
  let s := judge fcMasterSilent false 0 (restartSupervision s)
  if s.opState = .island then
    { s with opState := .run, supervision := { s.supervision with islandTimer := none, waiting := false } }
  else s

/-! ## Frames beginning on P1 (R22, R181) -/

/-- P1 as it begins a frame (R22). -/
def TxPort.begun : TxPort := { busy := true, bytes := [], ended := false }

/-- A frame beginning on P1 through the out-lane engine (R22). -/
def beginOut (source : OutSource) (s : State) : State :=
  { s with p1 := .begun, outLane := s.outLane.opened source }

/-- The slots of the island template (R185). -/
def islandSlotList (itp : List Word) : List (Nat × Nat) := (List.range (figure itp 4)).map (islandSlot itp)

/-- The island frame before its check, with the given cycle count (R181). -/
def islandFrame (itp : List Word) (cycle : Nat) : List Byte :=
  let slots := islandSlotList itp
  let total := 5 + (slots.map (fun x => 2 + x.2)).sum
  [kindIsland, BitVec.ofNat 8 cycle, BitVec.ofNat 8 slots.length] ++ beBytes 2 total ++
    slots.flatMap (fun x => [BitVec.ofNat 8 x.1, BitVec.ofNat 8 x.2] ++ List.replicate x.2 0)

/-- The cycle count of the next island frame (R181). -/
def State.islandCycle (s : State) : Nat := (s.prevCycle.getD 127 + 1) % 128

/-- An island frame built and begun on P1 (R181, R22). Its bytes go to the out-lane engine followed by their own check,
so that the engine finds it sound. -/
def beginIsland (s : State) : State :=
  let frame := islandFrame s.itp s.islandCycle
  beginOut .island
    { s with islandBytes := frame ++ checkBytes (crc16 frame)
             supervision := { s.supervision with waiting := false } }

/-- A waiting island frame whose turn has come: it begins in ISLAND and is abandoned otherwise (R22, R180). -/
def arbitrateIsland (s : State) : State :=
  if s.supervision.waiting then
    if s.opState = .island then beginIsland s
    else { s with supervision := { s.supervision with waiting := false } }
  else s

/-- P1 IDLE: the held frame begins, else a waiting island frame has its turn (R22). -/
def arbitrate (s : State) : State :=
  if s.p1.busy then s
  else if s.hold.occupied then
    if s.hold.leaving then s
    else beginOut .holdBuffer { s with hold := { s.hold with leaving := true } }
  else arbitrateIsland s

/-! ## Expiry and due frames (R178, R180) -/

/-- An island frame falling due: the island timer restarts, and the frame begins or waits (R180, R22). -/
def islandDue (s : State) : State :=
  let s := { s with supervision :=
    { s.supervision with islandTimer := some { start := s.timebase, period := s.islandPeriod } } }
  if s.supervision.waiting then s
  else if !s.p1.busy && !s.hold.occupied then beginIsland s
  else { s with supervision := { s.supervision with waiting := true } }

/-- The supervision expiry at the present moment (R178). The raise comes before the state changes. -/
def expireSupervision (s : State) : State :=
  let s := { s with supervision := { s.supervision with timer := none } }
  let s := judge fcMasterSilent true (s.prevCycle.getD 255) s
  if s.opState = .run then islandDue { s with opState := .island } else s

end Sys2Proof.Machine
end

