-- ==== Sys2Proof/Machine/Service.lean ====
section
/-! DEFINITION. The service interpreter (chapter 11): the requests' own rules, the judging before them (R202) and the
response (R203, R213). -/

namespace Sys2Proof.Machine

/-- A response of a status alone. -/
def plain (r : State × Status) : State × List Byte := (r.1, r.2.alone)

/-! ## RUN and PASS (R26) -/

/-- Whether every ACTIVE copy is valid (R26). -/
def State.allValid (s : State) : Bool := s.banks.active.all (fun c => c.valid)

/-- RUN (R26). Met in ISLAND, which R25 excludes, it is refused with STATE (log entry 8). -/
def runRequest (s : State) : State × Status :=
  match s.opState with
  | .pass => if s.allValid then ({ s with opState := .run }, .ok) else (s, .state)
  | .run => (s, .ok)
  | .island => (s, .state)

/-- PASS (R26). Met in ISLAND, which R25 excludes, it is refused with STATE (log entry 8). -/
def passRequest (s : State) : State × Status :=
  match s.opState with
  | .pass => (s, .ok)
  | .run => ({ s with opState := .pass }, .ok)
  | .island => (s, .state)

/-! ## Reads (R206, R208, R209, R159) -/

/-- IDENTIFY (R206). -/
def identifyResponse (s : State) : List Byte :=
  Status.ok.code :: (putU 2 Config.partNumber ++ putU 1 Config.dieRevision ++ putU 1 s.opState.code ++
    putU 1 s.strap.code ++ putU 2 s.banks.generation.toNat ++ putU 1 s.banks.status.code)

/-- A point as POINT_READ carries it (R208, R213). -/
def pointFields (p : Point) : List Byte := putS 4 p.value ++ putU 1 p.quality.code ++ putU 1 p.age

/-- POINT_READ (R208). -/
def pointReadResponse (points : List Byte) (s : State) : List Byte :=
  if outside 1 8 points.length then Status.alone .badArgument
  else Status.ok.code :: points.flatMap (fun n => pointFields (s.point n.toNat))

/-- An entry as SLOT_STATS carries it (R209, R213). -/
def statsFields (s : State) (e : Nat) : List Byte :=
  let x := slotEntry s.smt e
  let h := s.entryHits.getD e .reset
  putU 1 x.tag ++ putU 1 (Lane.code x.lane) ++ putU 2 h.clamp ++ putU 2 h.short

/-- SLOT_STATS (R209). -/
def slotStatsResponse (first count : Nat) (s : State) : List Byte :=
  if 47 < first ∨ outside 1 8 count = true then Status.alone .badArgument
  else
    let n := statsCount first count
    Status.ok.code :: (putU 1 n ++ (List.range n).flatMap (fun i => statsFields s (first + i)))

/-- The fault flags (R213). -/
def FaultRecord.flags (r : FaultRecord) : Nat :=
  flagCode r.condition + 2 * flagCode r.latch + 4 * flagCode r.pending + 8 * flagCode r.reasserted

/-- FAULT_READ (R159, R213). -/
def faultReadResponse (code : Nat) (s : State) : List Byte :=
  if 63 < code then Status.alone .badArgument
  else
    let r := s.fault code
    Status.ok.code :: (putU 1 code ++ putU 1 r.flags ++ putU 1 r.count ++ putS 4 r.context ++
      putU 4 r.raiseTime.toNat ++ putU 1 (s.faultEntry code).severity)

/-! ## The log and the clock (R170, R171, R173) -/

/-- The oldest sequence of the log. Of an empty log it is free (log entry 20). -/
def FaultLog.oldest (l : FaultLog) : Word :=
  match l.records with
  | r :: _ => r.sequence
  | [] => Config.oldestOfEmpty l.next

/-- The offset of a sequence from the oldest (R170, R171). -/
def FaultLog.offset (l : FaultLog) (sequence : Word) : Nat := (sequence - l.oldest).toNat

/-- A log record as LOG_READ carries it (R213). -/
def logFields (r : LogRecord) : List Byte :=
  putU 2 r.sequence.toNat ++ putU 1 r.code ++ putU 1 r.kind.code ++ putU 4 r.seconds.toNat ++
    putU 1 (flagCode r.timeSet) ++ putU 1 r.cycle ++ putS 4 r.context

/-- LOG_READ (R170). -/
def logReadResponse (sequence : Word) (count : Nat) (s : State) : List Byte :=
  if outside 1 3 count then Status.alone .badArgument
  else
    let records := (s.log.records.drop (s.log.offset sequence)).take count
    Status.ok.code :: (putU 2 s.log.oldest.toNat ++ putU 1 s.log.records.length ++ putU 1 records.length ++
      records.flatMap logFields)

/-- The log after a discard (R171). -/
def FaultLog.discard (l : FaultLog) (sequence : Word) : FaultLog :=
  if l.offset sequence < l.records.length then { l with records := l.records.drop (l.offset sequence + 1) } else l

/-- LOG_DISCARD (R171). -/
def logDiscardRequest (sequence : Word) (s : State) : State × List Byte :=
  let s := { s with log := s.log.discard sequence }
  (s, Status.ok.code :: (putU 2 s.log.oldest.toNat ++ putU 1 s.log.records.length))

/-- SET_TIME (R173). -/
def setTimeRequest (seconds : Long) (s : State) : State :=
  judge fcTimeNotSet false 0
    { s with clock := { seconds := seconds, phaseStart := s.timebase, timeSet := true } }

/-- FAULT_CLEAR (R162). -/
def faultClearRequest (code : Nat) (s : State) : State × Status :=
  if 63 < code then (s, .badArgument) else (clearFault code s, .ok)

/-- ARM_SUPERVISION with its captured limit in every case (R176, R213). -/
def armResponse (s : State) : State × List Byte :=
  let r := armRequest s
  (r.1, r.2.code :: putU 4 r.1.supervision.limit)

/-! ## Carrying a request out (R202, R203) -/

/-- A request by its own rule: the state it leaves and its response (R202, step 4). -/
def serve (r : Request) (s : State) : State × List Byte :=
  match r with
  | .identify => (s, identifyResponse s)
  | .run => plain (runRequest s)
  | .pass => plain (passRequest s)
  | .softReset => (softReset s, Status.alone .ok)
  | .tableWrite t start words => tableWriteRequest t.toNat start.toNat words s
  | .tableRead t bank start count => tableReadRequest t.toNat bank.toNat start.toNat count.toNat s
  | .copy mask => copyRequest mask s
  | .exchange mask g => exchangeRequest mask g s
  | .lock mask => lockRequest mask s
  | .unlock mask => unlockRequest mask s
  | .pointRead points => (s, pointReadResponse points s)
  | .pointForce n v => plain (pointForceRequest n.toNat v.toInt s)
  | .pointRelease n => plain (pointReleaseRequest n.toNat s)
  | .slotStats first count => (s, slotStatsResponse first.toNat count.toNat s)
  | .faultRead code => (s, faultReadResponse code.toNat s)
  | .faultClear code => plain (faultClearRequest code.toNat s)
  | .faultClearAll => (clearAllFaults s, Status.alone .ok)
  | .logRead sequence count => (s, logReadResponse sequence count.toNat s)
  | .logDiscard sequence => logDiscardRequest sequence s
  | .setTime seconds => (setTimeRequest seconds s, Status.alone .ok)
  | .setHeading count => plain (setHeadingRequest count.toNat s)
  | .setTwist twist => plain (setTwistRequest twist.toInt s)
  | .yawMode mode => plain (yawModeRequest mode s)
  | .yawTarget heading choice => plain (yawTargetRequest heading.toNat choice s)
  | .yawSeek => plain (yawSeekRequest s)
  | .armSupervision => armResponse s

/-- A request from a slot of length `len`: argument length, slot length, then its own rule (R202). SHORT_SLOT is answered
as the status alone, for ARM_SUPERVISION too, though R176, R203 and R213 give it its captured limit "in every case" (DESIGN
CHOICE, log entry 33). -/
def takeRequest (len : Nat) (r : Request) (s : State) : State × List Byte :=
  if len < 1 + Request.argLength r then (s, Status.alone .badArgument)
  else if len < Request.okLength r then (s, Status.alone .shortSlot)
  else serve r s

/-- The response stored in the record of the out lane's frame, where it still stands in the list (R16, R203). -/
def storeResponse (r : State × List Byte) : State :=
  let s := r.1
  { s with
    response := some r.2
    flight := s.flight.map (fun x => if some x.id = s.outLane.record then { x with response := some r.2 } else x) }

/-- A request handed to the interpreter from a slot of length `len` (R200, R203). -/
def handRequest (len : Nat) (r : Request) (s : State) : State := storeResponse (takeRequest len r s)

/-- A captured payload handed to the interpreter (R11, step 5; R202). -/
def handPayload (payload : List Byte) (s : State) : State :=
  match decodeRequest payload with
  | .ok r => handRequest payload.length r s
  | .error st => storeResponse (s, st.alone)

end Sys2Proof.Machine
end

