-- ==== Sys2Proof/Machine/Thermal.lean ====
section
/-! DEFINITION. The thermal and coolant unit (chapter 4). -/

namespace Sys2Proof.Machine

/-- The ceiling of a quotient of natural numbers (00 section 7.4). -/
def ceilDiv (a b : Nat) : Nat := (a + b - 1) / b

/-! ## Junction estimates (R78 to R82) -/

/-- The module current I (R78). -/
def State.moduleCurrent (s : State) (m : Nat) : Nat :=
  let p := s.point (7 + m)
  if p.live then min 65535 p.value.natAbs else s.iRated

/-- The steady-state rise at nominal flow (R79). -/
def steadyRise (c1 c2 i : Nat) : Nat := (c1 * i + c2 * i * i / 4096) / 65536

/-- The flow value Q within its bounds (R80). -/
def State.flowValue (s : State) : Int :=
  let nominal := figure s.thm 3
  let low : Int := ceilDiv nominal 4
  let p := s.point 3
  saturate low (2 * nominal : Nat) (if p.live then p.value else low)

/-- The corrected rise ss' of a module with current `i` (R79, R80). -/
def State.correctedRise (s : State) (i : Nat) : Nat :=
  let ff := 4096 * figure s.thm 3 / s.flowValue.toNat
  steadyRise (figure s.thm 0) (figure s.thm 1) i * ff / 4096

/-- The held rise moved toward the corrected rise (R81). -/
def moveRise (alpha : Nat) (target rise : Int) : Int :=
  let d := target - rise
  let step := Int.tdiv (d * alpha) 65536
  rise + (if step = 0 then d.sign else step)

/-- The inlet temperature Tc (R82). -/
def State.inletTemperature (s : State) : Int :=
  let p := s.point 2
  if p.live then p.value else signedFigure s.thm 5

/-- The junction temperature of a module from its rise (R82). -/
def junctionTemperature (inlet rise : Int) : Int := saturate (-400) 2000 (inlet + rise)

/-- One module's estimate at the update (R78 to R82). A module outside the mask is left as it is. -/
def moduleUpdate (s : State) (m : Nat) : State :=
  if s.moduleEnabled m then
    let target : Int := s.correctedRise (s.moduleCurrent m)
    let rise := moveRise (figure s.thm 2) target (s.thermal.rises.getD m 0)
    outputWrite (46 + m) (junctionTemperature s.inletTemperature rise)
      { s with thermal := { s.thermal with rises := s.thermal.rises.set m rise } }
  else s

/-- The largest junction temperature over the enabled modules (R82). -/
def State.hottest (s : State) : Option Int :=
  (((List.range 12).filter (fun m => s.moduleEnabled m)).map
    (fun m => junctionTemperature s.inletTemperature (s.thermal.rises.getD m 0))).max?

/-- The junction estimates and TJ_MAX (R77, R78 to R82), the rises seeded at the first update after a reset. -/
def junctionUpdate (s : State) : State :=
  let s :=
    if s.thermal.seeded then s
    else { s with thermal :=
        { s.thermal with rises := List.replicate 12 ((figure s.thm 4 : Nat) : Int), seeded := true } }
  let s := (List.range 12).foldl moduleUpdate s
  match s.hottest with
  | some t => outputWrite 44 t s
  | none => s

/-! ## Conditions (R83, R85) -/

/-- A condition of R85, judged only while its point is FRESH or FORCED. -/
def judgeLive (k point : Nat) (present : Int → Bool) (s : State) : State :=
  let p := s.point point
  if p.live then judge k (present p.value) p.value s else s

/-- The thermal conditions in their order: JUNCTION_LIMIT, COOLANT_FLOW_LOW, COOLANT_INLET_HIGH (R83, R85). -/
def thermalConditions (s : State) : State :=
  let tj := s.pointValue 44
  let s := judge fcJunctionLimit (decide (signedFigure s.thm 6 ≤ tj)) tj s
  let s := judgeLive fcFlowLow 3 (fun v => decide (v < (figure s.thm 7 : Int))) s
  judgeLive fcInletHigh 2 (fun v => decide (signedFigure s.thm 8 < v)) s

/-! ## Pump and fans (R86 to R92) -/

/-- The curve demand at TJ_MAX (R86). -/
def State.curveDemand (s : State) : Int := curve s.pumpCurve (s.pointValue 44)

/-- The pump target (R86). -/
def State.pumpTarget (s : State) : Nat :=
  if s.summary.pumpBoost ∨ (s.point 2).live = false then 1000
  else if 0 < s.curveDemand then s.curveDemand.toNat
  else if s.thermal.exercise.isSome then figure s.thm 24
  else 0

/-- The pump command moved toward the target by at most the slew (R87). -/
def slewTo (slew target command : Nat) : Nat :=
  if command ≤ target then min target (command + slew) else max target (command - slew)

/-- The pump command, its claim and the write of PUMP_SPEED (R86 to R88); a curve demand above 0 ends an exercise
(R90). -/
def pumpUpdate (s : State) : State :=
  let target := s.pumpTarget
  let exercise := if 0 < s.curveDemand then none else s.thermal.exercise
  let command := slewTo (figure s.thm 21) target s.thermal.pumpCommand
  let s := { s with
    thermal := { s.thermal with pumpCommand := command, exercise := exercise }
    arbiter := { s.arbiter with pumpClaim := ceilDiv (s.pumpKwMax * command) 1000 } }
  pumpWrite s.exerciseInterval (min command (s.arbiter.pumpGrant * 1000 / s.pumpKwMax) : Nat) s

/-- The requested fan stage after an update (R91). -/
def State.nextFanStage (s : State) : Nat :=
  let p := s.point 2
  let k := s.thermal.fanRequest
  if p.live then
    if k < 3 ∧ signedFigure s.thm (25 + k) ≤ p.value then k + 1
    else if 0 < k ∧ p.value < signedFigure s.thm (27 + k) then k - 1
    else k
  else min 3 (k + 1)

/-- The fan stage, its claim and the write of FAN_STAGE (R91, R92). -/
def fanUpdate (s : State) : State :=
  let k := s.nextFanStage
  outputWrite 41 ((min k s.arbiter.fanGrant : Nat) : Int)
    { s with thermal := { s.thermal with fanRequest := k }, arbiter := { s.arbiter with fanClaim := k } }

/-- The thermal update (R76): estimates, conditions, pump, fans. -/
def thermalUpdate (s : State) : State := fanUpdate (pumpUpdate (thermalConditions (junctionUpdate s)))

/-! ## Clock events (R89, R90) -/

/-- The second event at the unit (R90). The exercise ends as the consequence PUMP_EXERCISE_END. -/
def thermalSecond (s : State) : State :=
  match s.thermal.exercise with
  | some n =>
    if s.running then
      let s := { s with thermal := { s.thermal with exercise := some (n - 1) } }
      if n - 1 = 0 then s.addDue .exerciseEnd else s
    else s
  | none => s

/-- The minute event at the unit (R89). An exercise starts as the consequence PUMP_EXERCISE_START. -/
def thermalMinute (s : State) : State :=
  match s.thermal.idleCountdown with
  | some n =>
    if s.running then
      if s.exerciseInterval = 0 then { s with thermal := { s.thermal with idleCountdown := none } }
      else
        let s := { s with thermal := { s.thermal with idleCountdown := some (n - 1) } }
        if n - 1 = 0 then s.addDue .exerciseStart else s
    else s
  | none => s

/-- An exercise starts, and the countdown is reloaded (R90). -/
def startExercise (s : State) : State :=
  { s with thermal :=
      { s.thermal with exercise := some (figure s.thm 23), idleCountdown := some s.exerciseInterval } }

/-- The exercise becomes NONE (R90). -/
def endExercise (s : State) : State := { s with thermal := { s.thermal with exercise := none } }

end Sys2Proof.Machine
end

