-- ==== Sys2Proof/Machine/FrameEnds.lean ====
section
/-! DEFINITION. Frame ends on both lanes (R7, R8, R11 to R14), the return-lane commit with the jobs' updates (R12), and
the sequencer at a commit (R129, R130). -/

namespace Sys2Proof.Machine

/-! ## The end check (R8) -/

/-- The check sent over the bytes of a frame, complemented for a bad frame (R8). -/
def endCheck (bad : Bool) (sent : List Byte) : List Byte := checkBytes (if bad then ~~~crc16 sent else crc16 sent)

/-- The bytes held at a frame's end, but for the two taken as its check (R8, R4). -/
def sendTail (lane : Lane) (s : State) : State :=
  let held := (s.engine lane).held
  sendBytes lane (held.take (held.length - 2)) s

/-- The outgoing frame of the out lane ended: the tail, the check and the end delimiter (R8). P1 stays BUSY until it
becomes idle (log entry 16). -/
def endOut (bad : Bool) (s : State) : State :=
  let s := sendTail .out s
  let s := sendBytes .out (endCheck bad s.p1.bytes) s
  { s with p1 := { s.p1 with ended := true } }

/-- The outgoing frame of the return lane ended: a frame of kind ISLAND was never sent (R21), and one without a byte
begins here. -/
def endReturn (bad : Bool) (s : State) : State :=
  if s.retLane.kind = kindIsland then s
  else
    let s := if s.retLane.recv = [] then beginReturn 0 s else s
    let s := sendTail .ret s
    let s := sendBytes .ret (endCheck bad s.p3.bytes) s
    { s with p3 := { s.p3 with busy := false, ended := true } }

/-! ## Bad counts (R14) -/

/-- The fault code of a lane's errors (R14). -/
def errorCode : Lane → Nat
  | .out => fcOutErrors
  | .ret => fcReturnErrors

/-- A lane's consecutive-bad count (R14). -/
def State.badCount (s : State) : Lane → Nat
  | .out => s.outBad
  | .ret => s.retBad

/-- A lane's consecutive-bad count set, and its condition judged (R14). -/
def setBad (lane : Lane) (n : Nat) (s : State) : State :=
  judge (errorCode lane) (decide (4 ≤ n)) 4
    (match lane with
     | .out => { s with outBad := n }
     | .ret => { s with retBad := n })

/-- One more bad end (R13, R14). -/
def countBad (lane : Lane) (s : State) : State := setBad lane (bump 255 (s.badCount lane)) s

/-! ## Commits and staged faults (R11, R12, R38) -/

/-- The faults of SLOT_MISSING in order of entry: the required entries of the lane in the bound slot map whose tag did
not appear (R38). -/
def missingSlots (smt : List Word) (lane : Lane) (tags : List Byte) : List (Nat × Int) :=
  ((List.range 48).map (slotEntry smt)).filterMap (fun x =>
    if x.used && x.required && x.lane == lane && !tags.contains (BitVec.ofNat 8 x.tag) then
      some (fcSlotMissing, (x.tag : Int))
    else none)

/-- The staged faults of a frame's commit, then SLOT_MISSING (R11, R12). R36 orders the CHECK mismatches among themselves
alone; mismatches and SLOT_SHORTs are raised mixed, in the order found (DESIGN CHOICE, log entry 28). -/
def stagedRaises (lane : Lane) (e : Engine) (s : State) : List (Nat × Int) :=
  e.staging.faults.map (fun f => (f.code, f.context)) ++ missingSlots (s.boundSmt e.generation) lane e.staging.tags

/-- The staged SERVICE_MISPLACED faults raised (R11, R12, R19). -/
def raiseMisplaced (e : Engine) (s : State) : State :=
  raiseAll (e.staging.misplaced.map (fun o => (fcMisplaced, (o : Int)))) s

/-! ## Out-lane ends (R11, R13) -/

/-- The commit of an out-lane good end (R11, step 1). -/
def outCommit (e : Engine) (s : State) : State :=
  if e.active && s.running then raiseAll (stagedRaises .out e s) (commit e.staging.values s) else s

/-- The outcome of a frame's record set at its out-lane end (R11, R13). A frame without a frame start has none. -/
def setOutcome (e : Engine) (o : FrameOutcome) (s : State) : State :=
  if e.started then
    { s with flight := s.flight.map (fun r => if some r.id = e.record then { r with outcome := o } else r) }
  else s

/-- A good end on the out lane (R11). -/
def outGoodEnd (e : Engine) (s : State) : State :=
  let s := raiseMisplaced e (outCommit e s)
  let s := if e.kind = kindCycle then goodCycleEnd s else s
  let s := setOutcome e .good s
  let s := match e.staging.request with
    | some payload => handPayload payload s
    | none => s
  setBad .out 0 s

/-- A bad end on the out lane (R13). -/
def outBadEnd (e : Engine) (s : State) : State := countBad .out (setOutcome e .bad s)

/-- The frame in passage on the out lane closed, `truncated` if loss of line, a new start delimiter or the cut of R7
ended it (R8, R11, R13). -/
def closeOut (truncated : Bool) (s : State) : State :=
  let e := s.outLane
  let good := e.sound && !truncated
  let s := endOut (!good) s
  let s := { s with outLane := e.closed }
  if good then outGoodEnd e s else outBadEnd e s

/-! ## The sequencer at a commit (R129, R130) -/

/-- The step timeout's consequence: YAW_STEP_TIMEOUT with the step, then the timeout step (R130). A yaw hold that the
raise turns on has already ended the move (R137). -/
def stepTimeout (s : State) : State :=
  let k := s.sequencer.step
  if k = 0 then s
  else
    let s := raise fcStepTimeout k s
    if s.sequencer.phase = .running then enterStep (yawStep s.yst k).timeoutStep s else s

/-- Whether a step's trigger is met at a commit (R130, R131). -/
def State.commitTrigger (s : State) (y : YawStep) : Bool :=
  let p := s.point 6
  (y.trigger == trigDwell && y.argument ≤ s.sequencer.commits)
    || (y.trigger == trigBrakeReleased && p.live && p.value ≤ (y.argument : Int))
    || (y.trigger == trigBrakeApplied && p.live && (y.argument : Int) ≤ p.value)
    || (y.trigger == trigOnTarget && s.onTarget)

/-- The sequencer at a return-lane commit: its outputs refreshed (R129), the commit counted, the trigger and then the
timeout judged (R130). The timeout is taken in place, or left as the consequence YAW_STEP_TIMEOUT where `defer`. -/
def sequencerCommit (defer : Bool) (s : State) : State :=
  let s := writePattern s.sequencer.step s
  if s.sequencer.step = 0 then s
  else
    let s := { s with sequencer := { s.sequencer with commits := bump 65535 s.sequencer.commits } }
    let y := yawStep s.yst s.sequencer.step
    if s.commitTrigger y then enterStep y.next s
    else if y.timeout ≠ 0 ∧ y.timeout ≤ s.sequencer.commits then
      (if defer then s.addDue .stepTimeout else stepTimeout s)
    else s

/-! ## The return-lane commit (R12) -/

/-- Every block of a return-lane commit. -/
def allBlocks : List Block :=
  [.stagedFaults, .envelope, .thermal, .arbiter, .decision, .sequencer, .tracker, .faultOutputs, .watches]

/-- The blocks named, each once, then those not named (log entry 5). -/
def completeOrder (order : List Block) : List Block :=
  let named := order.foldl (fun acc b => if acc.contains b then acc else acc ++ [b]) []
  named ++ allBlocks.filter (fun b => !named.contains b)

/-- What one block does in the event of a return-lane commit that wrote the points `written` (R12). `isLast` says that
no block follows. -/
def runBlock (raises : List (Nat × Int)) (written : List Nat) (isLast : Bool) (b : Block) (s : State) : State :=
  match b with
  | .stagedFaults => raiseAll raises s
  | .envelope => envelopeUpdate written s
  | .thermal => thermalUpdate s
  | .arbiter => arbiterEvaluate s
  | .decision => decisionUpdate written s
  | .sequencer => sequencerCommit isLast s
  | .tracker => writeHeading s
  | .faultOutputs => writeFaultOutputs s
  | .watches => watchesUpdate s

/-- The blocks run in order. -/
def runBlocks (raises : List (Nat × Int)) (written : List Nat) : List Block → State → State
  | [], s => s
  | b :: rest, s => runBlocks raises written rest (runBlock raises written rest.isEmpty b s)

/-- The return-lane commit: the staged values, then every block (R12, R43). -/
def returnCommit (order : List Block) (e : Engine) (s : State) : State :=
  let written := writtenSet s.points e.staging.values
  let s := commit e.staging.values s
  runBlocks (stagedRaises .ret e s) written (completeOrder order) s

/-! ## Return-lane ends (R12, R13, R17) -/

/-- The frame's record removed from the list at its return-lane end, as the banks take it (R17, R190). -/
def removeRecord (e : Engine) (s : State) : State :=
  match e.binding with
  | .record id => bankDrain { s with flight := s.flight.filter (fun r => r.id != id) }
  | _ => s

/-- A good end on the return lane (R12, R167). A frame that was in passage at a SOFT_RESET commits nothing (R28, R75). R12
gives a staged SERVICE_MISPLACED no place among the updates of the commit: it is raised after all of them, so that a pump
boost it asks for acts at the next thermal update (R76; DESIGN CHOICE, log entry 31). The spotlight is settled last, so that
a raise of the code in flight made within this event marks it raised again (R167; DESIGN CHOICE, log entry 32). -/
def returnGoodEnd (order : List Block) (e : Engine) (s : State) : State :=
  let s := if e.active && s.running && !e.voided then returnCommit order e s else s
  settleSpotlight (e.kind == kindCycle) (setBad .ret 0 (removeRecord e (raiseMisplaced e s)))

/-- A bad end on the return lane (R13, R167). -/
def returnBadEnd (e : Engine) (s : State) : State := settleSpotlight false (countBad .ret (removeRecord e s))

/-- The frame in passage on the return lane closed (R8, R12, R13). -/
def closeReturn (truncated : Bool) (order : List Block) (s : State) : State :=
  let e := s.retLane
  let good := e.sound && !truncated
  let s := endReturn (!good) s
  let s := { s with retLane := e.closed }
  if good then returnGoodEnd order e s else returnBadEnd e s

end Sys2Proof.Machine
end

