-- ==== Sys2Proof/Machine/Ports.lean ====
section
/-! DEFINITION. The receiving ports, the hold buffer and the drop (R1, R7, R22, R23), and the cut at the 1025th byte. -/

namespace Sys2Proof.Machine

/-- What becomes of the frame arriving at P0. -/
def setMode0 (m : RxMode) (s : State) : State := { s with rx0 := { s.rx0 with mode := m } }

/-- What becomes of the frame arriving at P2. -/
def setMode2 (m : RxMode) (s : State) : State := { s with rx2 := { s.rx2 with mode := m } }

/-- Whether the out-lane engine has a frame from `source` open. -/
def State.sending (s : State) (source : OutSource) : Bool := s.outLane.isOpen && s.outLane.source == source

/-! ## Ends at the ports (R1, R22, R23) -/

/-- RING_OVERRUN at the end of a dropped frame: its cycle count, or 0 if fewer than two bytes arrived (R23). -/
def ringOverrun (s : State) : State :=
  let c : Nat := match s.rx0.seen with
    | _ :: b :: _ => cycleOf b
    | _ => 0
  raise fcOverrun c { s with rx0 := { s.rx0 with seen := [] } }

/-- The end of the frame arriving in the hold buffer (R22). A held frame that has already been cut on P1 leaves the
buffer EMPTY now, and P1 is arbitrated if it is IDLE. -/
def holdEnd (truncated : Bool) (s : State) : State :=
  let s := { s with hold := { s.hold with ended := some truncated } }
  if s.hold.leaving && !s.sending .holdBuffer then arbitrate (emptyHold s) else s

/-- The end of whatever frame is arriving at P0 (R1): `truncated` by loss of line or by a new start delimiter. -/
def endAtP0 (truncated : Bool) (s : State) : State :=
  let mode := s.rx0.mode
  let s := setMode0 .none s
  match mode with
  | .none => s
  | .passing => closeOut truncated s
  | .buffering => holdEnd truncated s
  | .dropping => ringOverrun s
  | .discarding => s

/-- The end of whatever frame is arriving at P2 (R1). -/
def endAtP2 (truncated : Bool) (order : List Block) (s : State) : State :=
  let mode := s.rx2.mode
  let s := setMode2 .none s
  match mode with
  | .passing => closeReturn truncated order s
  | _ => s

/-! ## Starts at the ports (R1, R22, R23) -/

/-- A frame beginning at P0: cut-through, into the hold buffer, or dropped (R22, R23). -/
def startAtP0 (s : State) : State :=
  if s.hold.occupied then { s with rx0 := { s.rx0 with mode := .dropping, seen := [] } }
  else if s.p1.busy then setMode0 .buffering { s with hold := { HoldBuffer.empty with occupied := true } }
  else beginOut .p0 (setMode0 .passing s)

/-- A frame beginning at P2. -/
def startAtP2 (s : State) : State := setMode2 .passing { s with retLane := s.retLane.opened .p0 }

/-! ## Bytes (R1, R7, R22, R23) -/

/-- A byte stored in the hold buffer; the 1025th is not stored, and the buffer records that it arrived (R22). -/
def storeHeld (b : Byte) (s : State) : State :=
  let h := s.hold
  { s with hold :=
      if h.stored < 1024 then { h with bytes := h.bytes ++ [b], stored := h.stored + 1 }
      else { h with overrun := true } }

/-- A byte arriving at P0 (R1). -/
def byteAtP0 (b : Byte) (s : State) : State :=
  match s.rx0.mode with
  | .none => s
  | .passing => feedByte .out b s
  | .buffering => storeHeld b s
  | .dropping => { s with rx0 := { s.rx0 with seen := (s.rx0.seen ++ [b]).take 2 } }
  | .discarding => s

/-- A byte arriving at P2 (R1). -/
def byteAtP2 (b : Byte) (s : State) : State :=
  match s.rx2.mode with
  | .passing => feedByte .ret b s
  | _ => s

/-- The next byte of the held frame taken by the out-lane engine (R22). The mark of a 1025th byte is taken as that
byte, which brings the cut of R7 whatever its value. -/
def byteFromHold (s : State) : State :=
  if s.sending .holdBuffer then
    match s.hold.bytes with
    | b :: rest => feedByte .out b { s with hold := { s.hold with bytes := rest } }
    | [] => if s.hold.overrun then feedByte .out 0 s else s
  else s

/-- The next byte of the island frame taken by the out-lane engine (R181, R182). -/
def byteFromIsland (s : State) : State :=
  if s.sending .island then
    match s.islandBytes with
    | b :: rest => feedByte .out b { s with islandBytes := rest }
    | [] => s
  else s

/-! ## Ends on the out lane by source (R8, R22) -/

/-- The end of the held frame as it leaves: its last byte has left and its end has reached the buffer (R22). -/
def endFromHold (s : State) : State :=
  if s.sending .holdBuffer && s.hold.bytes.isEmpty && !s.hold.overrun then
    match s.hold.ended with
    | some truncated => closeOut truncated (emptyHold s)
    | none => s
  else s

/-- The end of the island frame on P1 (R182). No line's loss ends it, since no port receives it (R1; DEDUCED, log entry
25). -/
def endFromIsland (s : State) : State :=
  if s.sending .island && s.islandBytes.isEmpty then closeOut false s else s

/-- The end delimiter at P0 of a frame that is not being dropped (R8, R22, R7). -/
def endDelimiterAtP0 (s : State) : State := if s.rx0.mode = .dropping then s else endAtP0 false s

/-- P1 has sent its end delimiter and becomes IDLE (R22). -/
def becomeIdle (s : State) : State :=
  if s.p1.busy && s.p1.ended then arbitrate { s with p1 := { s.p1 with busy := false } } else s

/-! ## The cut at the 1025th byte (R7) -/

/-- What is left of the incoming frame after the cut: P0 and P2 discard it up to its end; a hold buffer whose frame has
ended is EMPTY (R7, R22). -/
def discardRest (lane : Lane) (source : OutSource) (s : State) : State :=
  match lane, source with
  | .ret, _ => setMode2 .discarding s
  | .out, .p0 => setMode0 .discarding s
  | .out, .holdBuffer => if s.hold.ended.isSome then emptyHold s else s
  | .out, .island => s

/-- The outgoing frame ended at the 1025th byte and taken as a bad end (R7). -/
def overlengthCut (lane : Lane) (s : State) : State :=
  let s := discardRest lane s.outLane.source s
  match lane with
  | .out => closeOut true s
  | .ret => closeReturn true [] s

end Sys2Proof.Machine
end

