-- ==== Sys2Proof/Machine/Timed.lean ====
section
/-! DEFINITION. Consequences that the opcode table lists as rows of their own (log entry 4), the clock (R172), the passing
of time with every timed event that falls in it (R24), and what the part does when no command waits (log entry 1). -/

namespace Sys2Proof.Machine

/-! ## Consequences -/

/-- The minute event at the blocks that have still to take it: the tracker always (R119), the thermal unit (R89) and the
yaw decision (R148) unless they took it before the second event. -/
def minuteEvent (thermal decision : Bool) (s : State) : State :=
  let s := trackerMinute s
  let s := if thermal then thermalMinute s else s
  if decision then decisionMinute s else s

/-- What a consequence does when it is taken. -/
def runDue (d : Due) (s : State) : State :=
  match d with
  | .frameStart lane => frameStart lane s
  | .slotApply lane => slotApply lane s
  | .overlengthCut lane => overlengthCut lane s
  | .reportTaken => takeReport s
  | .serviceWrite => writeService s
  | .stepTimeout => stepTimeout s
  | .minute thermal decision => minuteEvent thermal decision s
  | .restBegin => beginRest s
  | .restEnd => endRest s
  | .exerciseStart => startExercise s
  | .exerciseEnd => endExercise s

/-- Outstanding consequences taken in order, up to and with the first that `wanted` names. -/
def takeUntil (wanted : Due → Bool) : Nat → State → State
  | 0, s => s
  | fuel + 1, s =>
    match s.due with
    | [] => s
    | d :: rest =>
      let s := runDue d { s with due := rest }
      if wanted d then s else takeUntil wanted fuel s

/-- Every outstanding consequence taken in order. A minute brings at most two more, and the others bring none, so the
fuel suffices. -/
def settle (s : State) : State := takeUntil (fun _ => false) (3 * s.due.length) s

/-- The named consequence taken, with those outstanding before it; nothing where it is not outstanding (log
entry 9). -/
def takeDue (wanted : Due → Bool) (s : State) : State :=
  if s.due.any wanted then takeUntil wanted s.due.length s else s

/-! ## The clock (R172) -/

/-- The length of a second, in µs (R172). -/
def secondLength : Nat := 1000000

/-- The clock's own part of a second (R172). -/
def clockTick (s : State) : State :=
  { s with clock := { s.clock with seconds := s.clock.seconds + 1,
                                   phaseStart := s.clock.phaseStart + BitVec.ofNat 32 secondLength } }

/-- A second passing (R172): the seconds count, the second event and, at a count divisible by 60, the minute event,
which the thermal unit and the yaw decision take first where the operands say so. -/
def clockSecond (thermalFirst decisionFirst : Bool) (s : State) : State :=
  let s := clockTick s
  let minute : Bool := s.clock.seconds.toNat % 60 == 0
  let s := if minute && thermalFirst then settle (thermalMinute s) else s
  let s := if minute && decisionFirst then settle (decisionMinute s) else s
  let s := decisionSecond (thermalSecond s)
  if minute then s.addDue (.minute (!thermalFirst) (!decisionFirst)) else s

/-! ## Timed events (R24) -/

/-- The events that a time measured on the timebase brings, but for the filtered transitions of the inputs: the window
closing (R117), the last edge forgotten (R111), the forced advance (R115), the second (R172), the supervision expiry (R178)
and the island frame due (R180). -/
inductive Timed where
  | window | lastEdge | edgeTimer | second | supervision | island
  deriving DecidableEq, Repr

/-- A time being measured: its start on the timebase, and the limit at which its event falls (R24). -/
structure Timing where
  start : Micros
  limit : Nat
  deriving DecidableEq, Repr

/-- The time now measured for an event: none where nothing measures it. -/
def State.timing (s : State) (e : Timed) : Option Timing :=
  match e with
  | .window => s.tracker.window.map (fun w => { start := w.start, limit := w.length })
  | .lastEdge => s.tracker.lastEdge.map (fun m => { start := m, limit := 2 ^ 31 })
  | .edgeTimer => s.tracker.timer.map (fun t => { start := t.start, limit := t.limit })
  | .second => some { start := s.clock.phaseStart, limit := secondLength }
  | .supervision => s.supervision.timer.map (fun m => { start := m, limit := s.supervision.limit })
  | .island => s.supervision.islandTimer.map (fun t => { start := t.start, limit := t.period })

/-- How many µs are left to the limit (R24). A limit of 2^32 µs or more, which R24's difference modulo 2^32 never reaches,
always leaves some, so that its event never falls by itself (DESIGN CHOICE, log entry 29). -/
def State.left (s : State) (t : Timing) : Nat := t.limit - s.elapsed t.start

/-- What an event does at its moment; a second with no minute event taken first. -/
def runTimed (e : Timed) (s : State) : State :=
  match e with
  | .window => closeWindow s
  | .lastEdge => forgetEdge s
  | .edgeTimer => expireEdgeTimer s
  | .second => clockSecond false false s
  | .supervision => expireSupervision s
  | .island => islandDue s

/-- The order in which events of one microsecond are taken as it passes (log entry 1). -/
def timedOrder : List Timed := [.window, .lastEdge, .edgeTimer, .second, .supervision, .island]

/-- An event taken, with its consequences, if its moment has come. -/
def takeTimed (s : State) (e : Timed) : State :=
  if (s.timing e).map s.left = some 0 then settle (runTimed e s) else s

/-- What falls at the present microsecond and no command has taken: the filtered transitions together, then each other
event once (log entries 1 and 30). -/
def takeMicrosecond (indexFirst : Bool) (s : State) : State :=
  timedOrder.foldl takeTimed (takeTransitions indexFirst s)

/-- How many µs are left to the next filtered transition or timed event. The second is never further than its length. -/
def State.untilNext (s : State) : Nat :=
  ([s.filterWait s.inputs.toothA s.tracker.filtA, s.filterWait s.inputs.toothB s.tracker.filtB,
      s.filterWait s.inputs.index s.tracker.filtIndex].filterMap id ++
    timedOrder.filterMap (fun e => (s.timing e).map s.left)).foldl min secondLength

/-- Time passing by `n` µs with all that falls in it, each event at its own microsecond; what falls at the end is left to
the commands and to the passing of that microsecond. Every turn passes one µs at least, so a fuel of `n` suffices. -/
def passThrough (indexFirst : Bool) : Nat → Nat → State → State
  | 0, n, s => s.passTime n
  | fuel + 1, n, s =>
    let d := s.untilNext
    if n ≤ d then s.passTime n
    else passThrough indexFirst fuel (n - d - 1) ((takeMicrosecond indexFirst (s.passTime d)).passTime 1)

/-- Time passing by `n` µs with all that falls in it (R24). -/
def letPass (indexFirst : Bool) (n : Nat) (s : State) : State := passThrough indexFirst n n s

/-- A timed command (log entry 9): time passes, with all that falls in it, up to the moment of the event as it is now
measured, and the event is taken there unless what fell before it has stopped or restarted its time. -/
def bringAbout (e : Timed) (run : State → State) (s : State) : State :=
  match s.timing e with
  | none => s
  | some t =>
    let s := letPass false (s.left t) s
    if s.timing e = some t then run s else s

/-! ## The step without a command (log entry 1) -/

/-- The step on an empty queue: consequences outstanding are taken; else one µs passes with all that falls in it (log
entry 1). -/
def idle (s : State) : State := if s.due.isEmpty then letPass false 1 s else settle s

end Sys2Proof.Machine
end

