-- ==== Sys2Proof/Machine/LineEvents.lean ====
section
/-! DEFINITION. The meanings of the reset and line commands. Every command but PIN_RESET first takes the consequences
still outstanding (log entry 4); a command whose occasion is absent changes nothing else (log entry 9). -/

namespace Sys2Proof.Machine

/-- The outcome of a step of this machine. -/
abbrev Outcome := Host.Outcome State Fault Refusal

/-- PIN_RESET (R28, R173). -/
def execPinReset (service a b index : Bool) (s : State) : Outcome := .next (pinReset service a b index s)

/-- The line state of a receiving port (R1). -/
def setLine (port : RxId) (l : LineState) (s : State) : State :=
  match port with
  | .p0 => { s with rx0 := { s.rx0 with line := l } }
  | .p2 => { s with rx2 := { s.rx2 with line := l } }

/-- LINE_LOCK_GAINED (R1). -/
def execLineLockGained (port : RxId) (s : State) : Outcome := .next (setLine port .up (settle s))

/-- The loss of lock at a port: a frame being received ends at once as truncated (R1, R6). -/
def loseLock (port : RxId) (s : State) : State :=
  match port with
  | .p0 => endAtP0 true (setLine .p0 .down s)
  | .p2 => endAtP2 true [] (setLine .p2 .down s)

/-- LINE_LOCK_LOST (R1). -/
def execLineLockLost (port : RxId) (s : State) : Outcome := .next (loseLock port (settle s))

/-- A start delimiter at P0 while its line is UP: a frame still open is closed as truncated, and the new one begins (R1,
R22, R23). -/
def delimiterAtP0 (s : State) : State := if s.rx0.line = .up then startAtP0 (endAtP0 true s) else s

/-- START_DELIMITER_AT_P0 (R1, R22). -/
def execStartDelimiterAtP0 (s : State) : Outcome := .next (delimiterAtP0 (settle s))

/-- A start delimiter at P2 while its line is UP (R1). -/
def delimiterAtP2 (s : State) : State := if s.rx2.line = .up then startAtP2 (endAtP2 true [] s) else s

/-- START_DELIMITER_AT_P2 (R1). -/
def execStartDelimiterAtP2 (s : State) : Outcome := .next (delimiterAtP2 (settle s))

/-- The end delimiter of a frame being dropped (R23). -/
def dropEnd (s : State) : State := if s.rx0.mode = .dropping then endAtP0 false s else s

/-- FRAME_DROPPED (R23). -/
def execFrameDropped (s : State) : Outcome := .next (dropEnd (settle s))

/-- P1_BECOMES_IDLE (R22). -/
def execP1BecomesIdle (s : State) : Outcome := .next (becomeIdle (settle s))

end Sys2Proof.Machine
end

