-- ==== Sys2Proof/Machine/FrameEvents.lean ====
section
/-! DEFINITION. The meanings of the frame commands: bytes, ends, and the consequences of a byte (log entries 4, 9). -/

namespace Sys2Proof.Machine

/-- OUT_FRAME_START (R15). -/
def execOutFrameStart (s : State) : Outcome := .next (takeDue (fun d => d == .frameStart .out) s)

/-- RETURN_FRAME_START (R17). -/
def execReturnFrameStart (s : State) : Outcome := .next (takeDue (fun d => d == .frameStart .ret) s)

/-- SLOT_ENTRY_APPLY (R31). -/
def execSlotEntryApply (lane : Lane) (s : State) : Outcome := .next (takeDue (fun d => d == .slotApply lane) s)

/-- FRAME_OVERLENGTH_CUT (R7). -/
def execFrameOverlengthCut (lane : Lane) (s : State) : Outcome :=
  .next (takeDue (fun d => d == .overlengthCut lane) s)

/-- The end of the frame that a source gives the out lane (R8, R22). -/
def outFrameEnd (source : OutSource) (s : State) : State :=
  match source with
  | .p0 => endDelimiterAtP0 s
  | .holdBuffer => endFromHold s
  | .island => endFromIsland s

/-- OUT_FRAME_END (R8, R11, R13). -/
def execOutFrameEnd (source : OutSource) (s : State) : Outcome := .next (outFrameEnd source (settle s))

/-- RETURN_FRAME_END (R8, R12, R13). -/
def execReturnFrameEnd (order : List Block) (s : State) : Outcome := .next (endAtP2 false order (settle s))

/-- REPORT_CONTENTS_TAKEN (R20). -/
def execReportContentsTaken (s : State) : Outcome := .next (takeDue (fun d => d == .reportTaken) s)

/-- SERVICE_RESPONSE_WRITE (R19, R204). -/
def execServiceResponseWrite (s : State) : Outcome := .next (takeDue (fun d => d == .serviceWrite) s)

/-- A byte reaching a port or the out-lane engine (R1, R4, R22). -/
def frameByte (source : ByteSource) (s : State) : State :=
  match source with
  | .p0 b => byteAtP0 b s
  | .holdBuffer => byteFromHold s
  | .island => byteFromIsland s
  | .p2 b => byteAtP2 b s

/-- FRAME_BYTE (R4 to R6, R8). -/
def execFrameByte (source : ByteSource) (s : State) : Outcome := .next (frameByte source (settle s))

end Sys2Proof.Machine
end

