-- ==== Sys2Proof/Machine/Requests.lean ====
section
/-! DEFINITION. The meanings of the request commands: each hands the interpreter its request, as it would come in a
service slot of length `len` of the frame last ended on the out lane (R200, R202; log entry 7). The requests' own rules
are in Machine/Service.lean and the files it names. -/

namespace Sys2Proof.Machine

/-- IDENTIFY (R206). -/
def execIdentify (len : Nat) (s : State) : Outcome :=
  .next (handRequest len .identify (settle s))

/-- RUN (R26). -/
def execRun (len : Nat) (s : State) : Outcome :=
  .next (handRequest len .run (settle s))

/-- PASS (R26). -/
def execPass (len : Nat) (s : State) : Outcome :=
  .next (handRequest len .pass (settle s))

/-- SOFT_RESET (R207). -/
def execSoftReset (len : Nat) (s : State) : Outcome :=
  .next (handRequest len .softReset (settle s))

/-- TABLE_WRITE (R191). -/
def execTableWrite (len : Nat) (table : Byte) (start : Word) (words : List Word) (s : State) : Outcome :=
  .next (handRequest len (.tableWrite table start words) (settle s))

/-- TABLE_READ (R192). -/
def execTableRead (len : Nat) (table : Byte) (bank : Byte) (start : Word) (count : Byte) (s : State) : Outcome :=
  .next (handRequest len (.tableRead table bank start count) (settle s))

/-- COPY (R193). -/
def execCopy (len : Nat) (mask : Word) (s : State) : Outcome :=
  .next (handRequest len (.copy mask) (settle s))

/-- EXCHANGE (R194). -/
def execExchange (len : Nat) (mask : Word) (generation : Word) (s : State) : Outcome :=
  .next (handRequest len (.exchange mask generation) (settle s))

/-- LOCK (R197). -/
def execLock (len : Nat) (mask : Word) (s : State) : Outcome :=
  .next (handRequest len (.lock mask) (settle s))

/-- UNLOCK (R198). -/
def execUnlock (len : Nat) (mask : Word) (s : State) : Outcome :=
  .next (handRequest len (.unlock mask) (settle s))

/-- POINT_READ (R208). -/
def execPointRead (len : Nat) (points : List Byte) (s : State) : Outcome :=
  .next (handRequest len (.pointRead points) (settle s))

/-- POINT_FORCE (R45). -/
def execPointForce (len : Nat) (point : Byte) (value : Long) (s : State) : Outcome :=
  .next (handRequest len (.pointForce point value) (settle s))

/-- POINT_RELEASE (R46). -/
def execPointRelease (len : Nat) (point : Byte) (s : State) : Outcome :=
  .next (handRequest len (.pointRelease point) (settle s))

/-- SLOT_STATS (R209). -/
def execSlotStats (len : Nat) (first : Byte) (count : Byte) (s : State) : Outcome :=
  .next (handRequest len (.slotStats first count) (settle s))

/-- FAULT_READ (R159). -/
def execFaultRead (len : Nat) (code : Byte) (s : State) : Outcome :=
  .next (handRequest len (.faultRead code) (settle s))

/-- FAULT_CLEAR (R162). -/
def execFaultClear (len : Nat) (code : Byte) (s : State) : Outcome :=
  .next (handRequest len (.faultClear code) (settle s))

/-- FAULT_CLEAR_ALL (R163). -/
def execFaultClearAll (len : Nat) (s : State) : Outcome :=
  .next (handRequest len .faultClearAll (settle s))

/-- LOG_READ (R170). -/
def execLogRead (len : Nat) (sequence : Word) (count : Byte) (s : State) : Outcome :=
  .next (handRequest len (.logRead sequence count) (settle s))

/-- LOG_DISCARD (R171). -/
def execLogDiscard (len : Nat) (sequence : Word) (s : State) : Outcome :=
  .next (handRequest len (.logDiscard sequence) (settle s))

/-- SET_TIME (R173). -/
def execSetTime (len : Nat) (seconds : Long) (s : State) : Outcome :=
  .next (handRequest len (.setTime seconds) (settle s))

/-- SET_HEADING (R122). -/
def execSetHeading (len : Nat) (count : Word) (s : State) : Outcome :=
  .next (handRequest len (.setHeading count) (settle s))

/-- SET_TWIST (R123). -/
def execSetTwist (len : Nat) (twist : Long) (s : State) : Outcome :=
  .next (handRequest len (.setTwist twist) (settle s))

/-- YAW_MODE (R143). -/
def execYawMode (len : Nat) (mode : Byte) (s : State) : Outcome :=
  .next (handRequest len (.yawMode mode) (settle s))

/-- YAW_TARGET (R144). -/
def execYawTarget (len : Nat) (heading : Word) (choice : Byte) (s : State) : Outcome :=
  .next (handRequest len (.yawTarget heading choice) (settle s))

/-- YAW_SEEK (R145). -/
def execYawSeek (len : Nat) (s : State) : Outcome :=
  .next (handRequest len .yawSeek (settle s))

/-- ARM_SUPERVISION (R176). -/
def execArmSupervision (len : Nat) (s : State) : Outcome :=
  .next (handRequest len .armSupervision (settle s))

end Sys2Proof.Machine
end

