-- ==== Sys2Proof/Machine/TimedEvents.lean ====
section
/-! DEFINITION. The meanings of the timed commands and of their consequences. A timed command brings its moment about:
time passes up to it (log entry 9). -/

namespace Sys2Proof.Machine

/-- YAW_STEP_TIMEOUT (R130). -/
def execYawStepTimeout (s : State) : Outcome := .next (takeDue (fun d => d == .stepTimeout) s)

/-- SUPERVISION_EXPIRY (R178). -/
def execSupervisionExpiry (s : State) : Outcome := .next (bringAbout .supervision expireSupervision (settle s))

/-- ISLAND_FRAME_DUE (R180). -/
def execIslandFrameDue (s : State) : Outcome := .next (bringAbout .island islandDue (settle s))

/-- The raw levels given and held for `held` µs (R109), in which everything falls that the passing of time brings.
Transitions due now whose level the new sample takes back come before it, so that none is lost. -/
def filteredTransition (a b index : Bool) (held : Nat) (indexFirst : Bool) (s : State) : State :=
  letPass indexFirst held (sampleInputs a b index (takeBeforeSample a b index indexFirst s))

/-- FILTERED_TRANSITION (R109, R110, R120). -/
def execFilteredTransition (a b index : Bool) (held : Nat) (indexFirst : Bool) (s : State) : Outcome :=
  .next (filteredTransition a b index held indexFirst (settle s))

/-- FORCED_ADVANCE (R116). -/
def execForcedAdvance (s : State) : Outcome := .next (bringAbout .edgeTimer expireEdgeTimer (settle s))

/-- ABSORPTION_WINDOW_CLOSE (R117). -/
def execAbsorptionWindowClose (s : State) : Outcome := .next (bringAbout .window closeWindow (settle s))

/-- LAST_EDGE_FORGET (R111). -/
def execLastEdgeForget (s : State) : Outcome := .next (bringAbout .lastEdge forgetEdge (settle s))

/-- CLOCK_SECOND (R172). -/
def execClockSecond (thermalFirst decisionFirst : Bool) (s : State) : Outcome :=
  .next (bringAbout .second (clockSecond thermalFirst decisionFirst) (settle s))

/-- Whether a consequence is a minute event. -/
def Due.isMinute : Due → Bool
  | .minute _ _ => true
  | _ => false

/-- CLOCK_MINUTE (R172). -/
def execClockMinute (s : State) : Outcome := .next (takeDue Due.isMinute s)

/-- REST_BEGIN (R149). -/
def execRestBegin (s : State) : Outcome := .next (takeDue (fun d => d == .restBegin) s)

/-- REST_END (R149). -/
def execRestEnd (s : State) : Outcome := .next (takeDue (fun d => d == .restEnd) s)

/-- PUMP_EXERCISE_START (R90). -/
def execPumpExerciseStart (s : State) : Outcome := .next (takeDue (fun d => d == .exerciseStart) s)

/-- PUMP_EXERCISE_END (R90). -/
def execPumpExerciseEnd (s : State) : Outcome := .next (takeDue (fun d => d == .exerciseEnd) s)

end Sys2Proof.Machine
end

