-- ==== Sys2Proof/Machine/Dispatch.lean ====
section
/-! DEFINITION. The meaning of every command: one arm per constructor of `Instr`. -/

namespace Sys2Proof.Machine

/-- The effect of a command on the state (for a command of the queue: on the state with the queue's rest). -/
def exec (i : Instr) (s : State) : Host.Outcome State Fault Refusal :=
  match i with
  | .pinReset service toothA toothB index => Sys2Proof.Machine.execPinReset service toothA toothB index s
  | .lineLockGained port => Sys2Proof.Machine.execLineLockGained port s
  | .lineLockLost port => Sys2Proof.Machine.execLineLockLost port s
  | .startDelimiterAtP0 => Sys2Proof.Machine.execStartDelimiterAtP0 s
  | .frameDropped => Sys2Proof.Machine.execFrameDropped s
  | .p1BecomesIdle => Sys2Proof.Machine.execP1BecomesIdle s
  | .outFrameStart => Sys2Proof.Machine.execOutFrameStart s
  | .returnFrameStart => Sys2Proof.Machine.execReturnFrameStart s
  | .slotEntryApply lane => Sys2Proof.Machine.execSlotEntryApply lane s
  | .frameOverlengthCut lane => Sys2Proof.Machine.execFrameOverlengthCut lane s
  | .outFrameEnd source => Sys2Proof.Machine.execOutFrameEnd source s
  | .returnFrameEnd order => Sys2Proof.Machine.execReturnFrameEnd order s
  | .yawStepTimeout => Sys2Proof.Machine.execYawStepTimeout s
  | .reportContentsTaken => Sys2Proof.Machine.execReportContentsTaken s
  | .serviceResponseWrite => Sys2Proof.Machine.execServiceResponseWrite s
  | .supervisionExpiry => Sys2Proof.Machine.execSupervisionExpiry s
  | .islandFrameDue => Sys2Proof.Machine.execIslandFrameDue s
  | .filteredTransition toothA toothB index held indexFirst => Sys2Proof.Machine.execFilteredTransition toothA toothB index held indexFirst s
  | .forcedAdvance => Sys2Proof.Machine.execForcedAdvance s
  | .absorptionWindowClose => Sys2Proof.Machine.execAbsorptionWindowClose s
  | .lastEdgeForget => Sys2Proof.Machine.execLastEdgeForget s
  | .clockSecond thermalMinuteFirst decisionMinuteFirst => Sys2Proof.Machine.execClockSecond thermalMinuteFirst decisionMinuteFirst s
  | .clockMinute => Sys2Proof.Machine.execClockMinute s
  | .restBegin => Sys2Proof.Machine.execRestBegin s
  | .restEnd => Sys2Proof.Machine.execRestEnd s
  | .pumpExerciseStart => Sys2Proof.Machine.execPumpExerciseStart s
  | .pumpExerciseEnd => Sys2Proof.Machine.execPumpExerciseEnd s
  | .identify len => Sys2Proof.Machine.execIdentify len s
  | .run len => Sys2Proof.Machine.execRun len s
  | .pass len => Sys2Proof.Machine.execPass len s
  | .softReset len => Sys2Proof.Machine.execSoftReset len s
  | .tableWrite len table start words => Sys2Proof.Machine.execTableWrite len table start words s
  | .tableRead len table bank start count => Sys2Proof.Machine.execTableRead len table bank start count s
  | .copy len mask => Sys2Proof.Machine.execCopy len mask s
  | .exchange len mask generation => Sys2Proof.Machine.execExchange len mask generation s
  | .lock len mask => Sys2Proof.Machine.execLock len mask s
  | .unlock len mask => Sys2Proof.Machine.execUnlock len mask s
  | .pointRead len points => Sys2Proof.Machine.execPointRead len points s
  | .pointForce len point value => Sys2Proof.Machine.execPointForce len point value s
  | .pointRelease len point => Sys2Proof.Machine.execPointRelease len point s
  | .slotStats len first count => Sys2Proof.Machine.execSlotStats len first count s
  | .faultRead len code => Sys2Proof.Machine.execFaultRead len code s
  | .faultClear len code => Sys2Proof.Machine.execFaultClear len code s
  | .faultClearAll len => Sys2Proof.Machine.execFaultClearAll len s
  | .logRead len sequence count => Sys2Proof.Machine.execLogRead len sequence count s
  | .logDiscard len sequence => Sys2Proof.Machine.execLogDiscard len sequence s
  | .setTime len seconds => Sys2Proof.Machine.execSetTime len seconds s
  | .setHeading len count => Sys2Proof.Machine.execSetHeading len count s
  | .setTwist len twist => Sys2Proof.Machine.execSetTwist len twist s
  | .yawMode len mode => Sys2Proof.Machine.execYawMode len mode s
  | .yawTarget len heading choice => Sys2Proof.Machine.execYawTarget len heading choice s
  | .yawSeek len => Sys2Proof.Machine.execYawSeek len s
  | .armSupervision len => Sys2Proof.Machine.execArmSupervision len s
  | .startDelimiterAtP2 => Sys2Proof.Machine.execStartDelimiterAtP2 s
  | .frameByte source => Sys2Proof.Machine.execFrameByte source s

end Sys2Proof.Machine
end

