-- ==== Sys2Proof/Safety.lean ====
section
/-! DEFINITION. What a safe run keeps, in the terms claims use: the laws of the data book as predicates on the state, and
the words in which the statements speak of commands and answers. -/

namespace Sys2Proof.Safety

open Sys2Proof.Machine

/-! ## Words for statements -/

/-- The command that hands the interpreter a request from a slot of length `len`. -/
def requestCommand (len : Nat) : Request → Instr
  | .identify => .identify len
  | .run => .run len
  | .pass => .pass len
  | .softReset => .softReset len
  | .tableWrite t start words => .tableWrite len t start words
  | .tableRead t bank start count => .tableRead len t bank start count
  | .copy mask => .copy len mask
  | .exchange mask g => .exchange len mask g
  | .lock mask => .lock len mask
  | .unlock mask => .unlock len mask
  | .pointRead points => .pointRead len points
  | .pointForce n v => .pointForce len n v
  | .pointRelease n => .pointRelease len n
  | .slotStats first count => .slotStats len first count
  | .faultRead code => .faultRead len code
  | .faultClear code => .faultClear len code
  | .faultClearAll => .faultClearAll len
  | .logRead sequence count => .logRead len sequence count
  | .logDiscard sequence => .logDiscard len sequence
  | .setTime seconds => .setTime len seconds
  | .setHeading count => .setHeading len count
  | .setTwist twist => .setTwist len twist
  | .yawMode mode => .yawMode len mode
  | .yawTarget heading choice => .yawTarget len heading choice
  | .yawSeek => .yawSeek len
  | .armSupervision => .armSupervision len

/-- The slot of length `len` holds the request's arguments and the OK response it would give (R202, steps 2 and 3). -/
abbrev Carried (len : Nat) (r : Request) : Prop := 1 + Request.argLength r ≤ len ∧ Request.okLength r ≤ len

/-- A table word as it travels, high byte first (R211). -/
def wordBytes (w : Word) : List Byte := beBytes 2 w.toNat

/-- A four-byte field as it travels (R211). -/
def longBytes (x : Long) : List Byte := beBytes 4 x.toNat

/-- A request as its payload carries it: the kind, then the arguments (R213). -/
def requestBytes : Request → List Byte
  | .identify => [0x01]
  | .run => [0x02]
  | .pass => [0x03]
  | .softReset => [0x04]
  | .tableWrite t start words =>
    [0x10, t] ++ wordBytes start ++ [BitVec.ofNat 8 words.length] ++ words.flatMap wordBytes
  | .tableRead t bank start count => [0x11, t, bank] ++ wordBytes start ++ [count]
  | .copy mask => [0x12] ++ wordBytes mask
  | .exchange mask g => [0x13] ++ wordBytes mask ++ wordBytes g
  | .lock mask => [0x14] ++ wordBytes mask
  | .unlock mask => [0x15] ++ wordBytes mask
  | .pointRead points => [0x20, BitVec.ofNat 8 points.length] ++ points
  | .pointForce n v => [0x21, n] ++ longBytes v
  | .pointRelease n => [0x22, n]
  | .slotStats first count => [0x23, first, count]
  | .faultRead code => [0x30, code]
  | .faultClear code => [0x31, code]
  | .faultClearAll => [0x32]
  | .logRead sequence count => [0x33] ++ wordBytes sequence ++ [count]
  | .logDiscard sequence => [0x34] ++ wordBytes sequence
  | .setTime seconds => [0x35] ++ longBytes seconds
  | .setHeading count => [0x40] ++ wordBytes count
  | .setTwist twist => [0x41] ++ longBytes twist
  | .yawMode mode => [0x42, mode]
  | .yawTarget heading choice => [0x43] ++ wordBytes heading ++ [choice]
  | .yawSeek => [0x44]
  | .armSupervision => [0x50]

/-- A counted request whose count byte can hold its count (R213). -/
def requestFits : Request → Prop
  | .tableWrite _ _ words => words.length < 256
  | .pointRead points => points.length < 256
  | _ => True

/-- The kind bytes that name a request (R213). -/
def requestKinds : List Byte :=
  [0x01, 0x02, 0x03, 0x04, 0x10, 0x11, 0x12, 0x13, 0x14, 0x15, 0x20, 0x21, 0x22, 0x23, 0x30, 0x31, 0x32, 0x33, 0x34,
   0x35, 0x40, 0x41, 0x42, 0x43, 0x44, 0x50]

/-- The state with a response formed: kept in the record of the out lane's frame, if it stands in the list (R203), and
as the model's observation. Nothing else changes. -/
def answered (r : List Byte) (s : State) : State :=
  { s with
    response := some r
    flight := s.flight.map (fun x => if some x.id = s.outLane.record then { x with response := some r } else x) }

/-- The outputs that a raise or an end of a fault can write: those of the converter trip (R59, R60), of the action summary
(R165), of the parked sequencer (R128) and YAW_MODE (R138). -/
def raiseOutputs : List Nat := [32, 33, 34, 36, 37, 38, 39, 45, 59, 60, 61]

/-- From `s` to `t` at most that has changed which raises and ends of faults can change: fault records, log, spotlight and
action summary; through the converter trip L and trip seen (R59, R60); through the yaw hold the move, its claim and grant,
the edge timer, the window and the decision's answer to the end of a move (R132, R137, R145, R146); and the outputs of
`raiseOutputs`. -/
def ByFaultsOnly (s t : State) : Prop :=
  t = { s with
    faults := t.faults
    log := t.log
    spotlight := t.spotlight
    summary := t.summary
    points := t.points
    envelope := { s.envelope with limit := t.envelope.limit, tripSeen := t.envelope.tripSeen }
    sequencer := t.sequencer
    arbiter := { s.arbiter with yawClaim := t.arbiter.yawClaim, yawGrant := t.arbiter.yawGrant }
    tracker := { s.tracker with timer := t.tracker.timer, window := t.tracker.window }
    decision := { s.decision with
      mode := t.decision.mode, startDwell := t.decision.startDwell, stormEnter := t.decision.stormEnter,
      stormExit := t.decision.stormExit, blocked := t.decision.blocked } } ∧
  ∀ n, n ∉ raiseOutputs → t.point n = s.point n

/-- The record of the log that code `k` gets now (R168). -/
def logRecordNow (s : State) (k : Nat) (kind : LogKind) (context : Int) : LogRecord :=
  { sequence := s.log.next, code := k, kind := kind, seconds := s.clock.seconds, timeSet := s.clock.timeSet,
    cycle := s.prevCycle.getD 255, context := context }

/-- Whether code `k` is logged: its log enable is yes or its severity is TRIP (R155). -/
def Loggable (s : State) (k : Nat) : Prop := (s.faultEntry k).log = true ∨ (s.faultEntry k).severity = 4

/-- The log of `t` is that of `s` with one record of code `k` appended, if the code is logged (R168). A full log loses its
oldest record, LOG_OVERWRITE takes that record's sequence as context, and if it is logged itself its own record follows and
costs the next oldest (R169). -/
def LogTakes (k : Nat) (kind : LogKind) (context : Int) (s t : State) : Prop :=
  (¬ Loggable s k → t.log = s.log) ∧
  (Loggable s k →
    (s.log.records.length < 64 →
      t.log = { records := s.log.records ++ [logRecordNow s k kind context], next := s.log.next + 1 }) ∧
    (∀ oldest rest, s.log.records = oldest :: rest → rest.length = 63 →
      (t.fault fcLogOverwrite).context = oldest.sequence.toNat ∧
      (¬ Loggable s fcLogOverwrite →
        t.log = { records := rest ++ [logRecordNow s k kind context], next := s.log.next + 1 }) ∧
      (Loggable s fcLogOverwrite →
        t.log =
          { records := rest.drop 1 ++ [logRecordNow s k kind context,
              { logRecordNow s fcLogOverwrite .raised oldest.sequence.toNat with sequence := s.log.next + 1 }]
            next := s.log.next + 2 })))

/-- The log of `t` is that of `s` with a record of each code of `ks` appended in order, where they all fit (R163, R168). -/
def LogTakesAll (ks : List Nat) (kind : Nat → LogKind) (s t : State) : Prop :=
  s.log.records.length + ks.length ≤ 64 →
    t.log =
      { records := s.log.records ++ ks.mapIdx (fun i k =>
          { logRecordNow s k (kind k) (s.fault k).context with sequence := s.log.next + BitVec.ofNat 16 i })
        next := s.log.next + BitVec.ofNat 16 ks.length }

/-- The raises `raises`, in order, are what has happened to the record of event code `k` between `s` and `t`: count,
context and raise time (R160). -/
def RaisedFrom (raises : List (Nat × Int)) (k : Nat) (s t : State) : Prop :=
  (∀ before c after, raises = before ++ (k, c) :: after → (∀ x ∈ after, x.1 ≠ k) →
    (t.fault k).count = min 255 ((s.fault k).count + (raises.filter (fun x => x.1 == k)).length) ∧
    (t.fault k).context = c ∧ (t.fault k).raiseTime = s.clock.seconds) ∧
  ((∀ x ∈ raises, x.1 ≠ k) →
    (t.fault k).count = (s.fault k).count ∧ (t.fault k).context = (s.fault k).context ∧
    (t.fault k).raiseTime = (s.fault k).raiseTime)

/-- The raises of a frame's commit on lane `lane` (R11, R12, R38): the staged faults in order, then SLOT_MISSING with the
tag of each used and required entry of the lane, in the slot map of the frame's generation, whose tag the frame lacks. -/
def commitRaises (lane : Lane) (e : Engine) (s : State) : List (Nat × Int) :=
  e.staging.faults.map (fun f => (f.code, f.context)) ++
  (((List.range 48).map (slotEntry (s.boundSmt e.generation))).filter (fun x =>
      x.tag != 0 && x.tag != 255 && x.required && x.lane == lane && !e.staging.tags.contains (BitVec.ofNat 8 x.tag))).map
    (fun x => (fcSlotMissing, (x.tag : Int)))

/-- PUMP_SPEED written with `speed`, which the idle countdown follows (R44, R89). -/
def withPumpSpeed (speed : Nat) (s : State) : State :=
  { s with
    points := s.points.set 40 { value := speed, quality := .fresh, age := 0 }
    thermal := { s.thermal with idleCountdown :=
      if 0 < speed then none
      else if s.thermal.idleCountdown = none ∧ figure s.thm 22 ≠ 0 then some (figure s.thm 22)
      else s.thermal.idleCountdown } }

/-- The five outputs of the sequencer as the PARKED pattern writes them (R128). -/
def parkedPoints (points : List Point) : List Point :=
  [36, 37, 38, 39, 60].foldl (fun ps n => ps.set n { value := 0, quality := .fresh, age := 0 }) points

/-- The points with the output pattern of step `k` for the move in hand: brake, enable, direction, speed, step (R128). -/
def stepPoints (k : Nat) (s : State) : List Point :=
  let y := yawStep s.yst k
  let mask := (s.sequencer.record.map (·.driveMask)).getD 0
  let direction := (s.sequencer.record.map (·.direction)).getD 0
  [(36, (y.brake : Int)), (37, ((y.drives &&& mask &&& figure s.ycf 2 : Nat) : Int)),
   (38, if y.direction = 1 then direction else if y.direction = 2 then -direction else 0), (39, (y.speed : Int)),
   (60, (k : Int))].foldl (fun ps x => ps.set x.1 { value := x.2, quality := .fresh, age := 0 }) s.points

/-- The record in hand has come within the stop band of its target (R131). -/
def WithinStopBand (s : State) : Prop :=
  ∃ r, s.sequencer.record = some r ∧ r.remaining * r.direction ≤ ((s.stopBand * s.ppr / 3600 : Nat) : Int)

/-- The sequencer in step 0 and the tracker told of it (R128, R115). -/
def inStepZero (s : State) : State :=
  { s with
    points := parkedPoints s.points
    sequencer := { s.sequencer with step := 0, commits := 0, counts := 0 }
    tracker := { s.tracker with timer := none, window := none } }

/-- The move gone: the record cleared, phase NONE, the yaw claim removed with the grant, the start-dwell count 0 (R132,
R97, R146). -/
def moveGone (s : State) : State :=
  { s with
    sequencer := { s.sequencer with record := none, phase := .none }
    arbiter := { s.arbiter with yawClaim := none, yawGrant := none }
    decision := { s.decision with startDwell := 0 } }

/-! ## Frames (R6, R211, R212) -/

/-- A frame's bytes before its check: kind, cycle byte, slot count, total length, slots. -/
def frameBody (kind cycle : Byte) (slots : List (Byte × List Byte)) : List Byte :=
  [kind, cycle, BitVec.ofNat 8 slots.length] ++
  beBytes 2 (5 + (slots.map (fun x => 2 + x.2.length)).sum) ++
  slots.flatMap (fun x => x.1 :: BitVec.ofNat 8 x.2.length :: x.2)

/-- A frame whose framing is consistent (R6): a known kind, 1 to 40 slots that fill a total length of at most 1022. -/
def FrameFits (kind : Byte) (slots : List (Byte × List Byte)) : Prop :=
  (kind = 0x5A ∨ kind = 0xA5) ∧ 1 ≤ slots.length ∧ slots.length ≤ 40 ∧ (∀ x ∈ slots, x.2.length < 256) ∧
  5 + (slots.map (fun x => 2 + x.2.length)).sum ≤ 1022

/-- The bytes of a frame that arrived whole with a matching check (R6). -/
def FrameSound (bytes : List Byte) : Prop :=
  ∃ kind cycle slots, FrameFits kind slots ∧
    bytes = frameBody kind cycle slots ++ beBytes 2 (crc16 (frameBody kind cycle slots)).toNat

/-- `entry` is the position of the slot-map entry that slots of tag `tag` find on lane `lane`, none if there is none (R29,
R31). -/
def IsEntryFor (smt : List Word) (lane : Lane) (tag : Byte) (entry : Option Nat) : Prop :=
  (entry = none → ∀ p, p < 48 → ¬ ((slotEntry smt p).tag = tag.toNat ∧ (slotEntry smt p).lane = lane)) ∧
  (∀ p, entry = some p → p < 48 ∧ (slotEntry smt p).tag = tag.toNat ∧ (slotEntry smt p).lane = lane ∧
    ∀ q, q < p → ¬ ((slotEntry smt q).tag = tag.toNat ∧ (slotEntry smt q).lane = lane))

/-- What a byte `b` of a frame in passage on lane `lane` brings about at the same moment, from `s` to `t`: the frame start at
the fifth header byte (R4); at a slot's length byte, unless the slot would pass the declared total, the report contents of a
return frame that has none yet (R20), the writing of a last service slot of the return lane that is not empty (R19), and for
a mapped slot of an active pass the finding of its entry (R31; up to 60 bytes, log entry 10), applied at once if the slot is
empty; at a slot's last payload byte the application of the entry found (R31); else nothing. -/
def BringsDue (lane : Lane) (b : Byte) (s t : State) : Prop :=
  let e : Engine := { s.engine lane with recv := (s.engine lane).recv ++ [b] }
  (e.parse = .header → t.due = if e.recv.length = 5 then [.frameStart lane] else []) ∧
  (∀ tag, e.parse = .length tag →
    (e.total < e.recv.length + b.toNat → t.due = []) ∧
    (e.recv.length + b.toNat ≤ e.total →
      (tag = 0xFD → t.due = if lane = .ret ∧ e.report = none then [.reportTaken] else []) ∧
      (tag = 0xFE → t.due = if lane = .ret ∧ e.ordinal = e.slotCount ∧ b ≠ 0 then [.serviceWrite] else []) ∧
      (tag = 0x00 ∨ tag = 0xFF → t.due = []) ∧
      (tag ∉ [0x00, 0xFD, 0xFE, 0xFF] →
        (e.active = false ∨ 60 < b.toNat → t.due = [] ∧ (t.engine lane).entry = e.entry) ∧
        (e.active = true → b.toNat ≤ 60 → ∀ entry, IsEntryFor (s.boundSmt e.generation) lane tag entry →
          (t.engine lane).entry = (if entry = none then e.entry else entry) ∧
          t.due = if entry ≠ none ∧ b = 0 then [.slotApply lane] else [])))) ∧
  (∀ tag len left, e.parse = .payload tag len left →
    t.due = if left ≤ 1 ∧ e.entry ≠ none then [.slotApply lane] else []) ∧
  (e.parse = .tag ∨ e.parse = .check ∨ e.parse = .lost → t.due = [])

/-! ## Which word of a table fails its validation -/

/-- Entry `e` of a slot map fails one of the checks of R40. -/
def EntryFails (ws : List Word) (e : Nat) : Prop :=
  let x := slotEntry ws e
  x.tag ≠ 0x00 ∧ x.tag ≠ 0xFF ∧
  (x.tag = 0xFD ∨ x.tag = 0xFE ∨ 8 < x.fieldCount ∨
    (∃ a ∈ x.actions,
      a.kind ∉ [0, 1, 2, 3] ∨ a.width ∉ [1, 2, 4] ∨ 60 < a.displacement + a.width ∨ a.noPointA = true ∨
      (a.kind = 0 ∧ 32 ≤ a.pointA ∧ a.pointA ≤ 63) ∨ (a.kind = 2 ∧ a.noPointB = true) ∨
      (a.kind = 3 ∧ ¬ (a.noPointB = false ∧ 36 ≤ a.pointB ∧ a.pointB ≤ 47))) ∨
    ∃ d, d < e ∧ (slotEntry ws d).tag = x.tag ∧ (slotEntry ws d).lane = x.lane)

/-- Step `k` of a yaw step table fails one of the checks of R150. -/
def StepFails (ws : List Word) (k : Nat) : Prop :=
  let y := yawStep ws k
  y.brake ∉ [0, 1, 2] ∨ y.direction ∉ [0, 1, 2] ∨ y.trigger ∉ [0, 1, 2, 3, 4, 5] ∨ 1000 < y.speed ∨ 7 < y.next ∨
  7 < y.timeoutStep ∨ (y.drives ≠ 0 ∧ y.brake = 0) ∨
  ∃ chain : Nat → Nat, chain 0 = k ∧ (∀ i, chain (i + 1) = (yawStep ws (chain i)).next) ∧
    ∃ i j, i < j ∧ chain i = chain j ∧
      ∀ m, m < j → 1 ≤ chain m ∧ chain m ≤ 7 ∧ ((yawStep ws (chain m)).trigger = 5 ∨ (yawStep ws (chain m)).trigger = 2)

/-- Word `w` of an image of table `t` is the failure word of a check that fails (R40, R72, R73, R74, R94, R124, R150, R157,
R185). -/
def WordFails (t : Nat) (ws : List Word) (w : Nat) : Prop :=
  let f := figure ws
  let g := signedFigure ws
  match t with
  | 0 => ∃ e, e < 48 ∧ w = 25 * e ∧ EntryFails ws e
  | 1 =>
    (w = 0 ∧ ¬ (1 ≤ f 0 ∧ f 0 ≤ 4000)) ∨ (w = 1 ∧ (f 1 = 0 ∨ 2 ^ 12 ≤ f 1)) ∨ (w = 2 ∧ ¬ (1 ≤ f 2 ∧ f 2 ≤ 500)) ∨
    (w = 3 ∧ f 3 ≠ 32768) ∨ (4 ≤ w ∧ w ≤ 10 ∧ f (w - 1) < f w) ∨ (w = 11 ∧ 32768 < f 11) ∨
    (13 ≤ w ∧ w ≤ 15 ∧ f w = 0)
  | 2 => ∃ k, k < 8 ∧ w = 2 * k ∧ ((1 ≤ k ∧ g (2 * k) ≤ g (2 * k - 2)) ∨ 32768 < f (2 * k + 1))
  | 3 =>
    (w = 0 ∧ ¬ (f 0 < f 1 ∧ f 1 ≤ 1000 ∧ 1000 ≤ f 2 ∧ f 2 < f 3 ∧ 1 ≤ f 4 ∧ 1 ≤ f 5 ∧ f 6 ≤ 3)) ∨
    ∃ k, k < 8 ∧ w = 7 + 3 * k ∧ ((1 ≤ k ∧ f (7 + 3 * k) ≤ f (4 + 3 * k)) ∨ 32768 < f (9 + 3 * k))
  | 4 =>
    ((w = 2 ∨ w = 3 ∨ w = 23) ∧ f w = 0) ∨ (w = 4 ∧ 2000 < f 4) ∨
    (∃ k, k < 6 ∧ w = 9 + 2 * k ∧ ((1 ≤ k ∧ g (9 + 2 * k) ≤ g (7 + 2 * k)) ∨ 1000 < f (10 + 2 * k))) ∨
    ((w = 21 ∨ w = 24) ∧ ¬ (1 ≤ f w ∧ f w ≤ 1000)) ∨ ((w = 26 ∨ w = 27) ∧ g w ≤ g (w - 1)) ∨
    ∃ k, 1 ≤ k ∧ k ≤ 3 ∧ w = 27 + k ∧ (g (24 + k) ≤ g (27 + k) ∨ (2 ≤ k ∧ g (27 + k) ≤ g (26 + k)))
  | 5 =>
    (w = 0 ∧ ¬ (400 ≤ f 0 ∧ f 0 ≤ 16000)) ∨ (w = 1 ∧ f 0 ≤ f 1) ∨ (w = 2 ∧ (f 2 = 0 ∨ 2 ^ 8 ≤ f 2)) ∨
    (w = 3 ∧ 255 < f 3) ∨ (w = 4 ∧ 127 < f 4) ∨ (w = 5 ∧ ¬ (129 ≤ f 5 ∧ f 5 ≤ 1023)) ∨
    (w = 6 ∧ ¬ (1 ≤ f 6 ∧ f 6 ≤ 7)) ∨ (w = 7 ∧ 3 < f 7) ∨
    (w = 8 ∧ ¬ (1000 ≤ f 8 * 65536 + f 9 ∧ f 8 * 65536 + f 9 ≤ 10000000)) ∨ (w = 12 ∧ f 11 ≤ f 12) ∨
    (w = 13 ∧ f 13 ≤ f 11) ∨ (w = 16 ∧ f 15 ≤ f 16) ∨ ((w = 17 ∨ w = 20 ∨ w = 22 ∨ w = 23) ∧ f w = 0) ∨
    (w = 18 ∧ ¬ (1 ≤ f 18 ∧ f 18 ≤ 256)) ∨ (w = 19 ∧ ¬ (1 ≤ f 19 ∧ f 19 ≤ 1800)) ∨ (w = 21 ∧ 1800 < f 21) ∨
    ((w = 25 ∨ w = 26 ∨ w = 27) ∧ 2 ^ 8 ≤ f w)
  | 6 => ((w = 0 ∨ w = 1) ∧ ¬ (1 ≤ f w ∧ f w ≤ 7)) ∨ ∃ k, 1 ≤ k ∧ k ≤ 7 ∧ w = 2 + 5 * (k - 1) ∧ StepFails ws k
  | 7 =>
    (w < 64 ∧ (faultEntry ws w).trip = true ∧ (faultEntry ws w).latching = false) ∨
    ∃ j, j < 16 ∧ w = 64 + 4 * j ∧ (watchOf ws j).comparison ∉ [0, 1, 2]
  | _ =>
    (w = 0 ∧ ¬ (1000 ≤ f 0 * 65536 + f 1 ∧ f 0 * 65536 + f 1 ≤ 500000)) ∨
    (w = 2 ∧ ¬ (1000 ≤ f 2 * 65536 + f 3 ∧ f 2 * 65536 + f 3 ≤ 100000)) ∨ (w = 4 ∧ ¬ (1 ≤ f 4 ∧ f 4 ≤ 24)) ∨
    ∃ k, k < f 4 ∧ w = 5 + k ∧
      ((islandSlot ws k).1 = 0xFD ∨ (islandSlot ws k).1 = 0xFE ∨ 60 < (islandSlot ws k).2 ∨
        1024 < 5 + ((List.range (k + 1)).map (fun j => 2 + (islandSlot ws j).2)).sum + 2)

/-- The count of a heading target by its choice (R144, step 4): the delta from the heading count to the target count,
wrapped into the choice's range. -/
def IsTargetCount (s : State) (heading : Nat) (choice : TurnChoice) (c : Int) : Prop :=
  (s.ppr : Int) ∣ c - (((heading * s.ppr / 3600 : Nat) : Int) - s.tracker.heading) ∧
  match choice with
  | .cw => 0 ≤ c ∧ c < s.ppr
  | .ccw => -(s.ppr : Int) < c ∧ c ≤ 0
  | .short => -((s.ppr / 2 : Nat) : Int) ≤ c ∧ c < s.ppr - ((s.ppr / 2 : Nat) : Int)

/-- A move record held by the sequencer in phase WAITING with its claim registered, the planning block clear (R133, R97,
R140). -/
def withMove (r : MoveRecord) (s : State) : State :=
  { s with
    sequencer := { s.sequencer with record := some r, phase := .waiting }
    arbiter := { s.arbiter with yawClaim := some ((List.range 8).filter (fun i => r.driveMask.testBit i)).length }
    decision := { s.decision with blocked := false } }

/-- The bytes of an outgoing frame that is closed: those sent, those held but for the two taken as the incoming check, and
the check over them, complemented for a bad frame (R8). -/
def closedBytes (bad : Bool) (sent held : List Byte) : List Byte :=
  let body := sent ++ held.take (held.length - 2)
  body ++ beBytes 2 (if bad then ~~~crc16 body else crc16 body).toNat

/-- The records with the outcome of the out lane's frame set, where it took a frame start (R11, R13). -/
def withOutcome (o : FrameOutcome) (e : Engine) (l : List FlightRecord) : List FlightRecord :=
  if e.started then l.map (fun r => if some r.id = e.record then { r with outcome := o } else r) else l

/-- The state with a lane's staging set replaced (R10). -/
def staged (lane : Lane) (st : Staging) (s : State) : State :=
  match lane with
  | .out => { s with outLane := { s.outLane with staging := st } }
  | .ret => { s with retLane := { s.retLane with staging := st } }

/-- The number that the bytes of a field carry, high byte first, in two's complement where signed (R32, R211). -/
def fieldNumber (signed : Bool) (bytes : List Byte) : Int :=
  let n : Nat := bytes.foldl (fun acc b => acc * 256 + b.toNat) 0
  if signed = true ∧ 2 ^ (8 * bytes.length - 1) ≤ n then (n : Int) - (2 ^ (8 * bytes.length) : Nat) else n

/-- The field of an action in a payload (R32). -/
def fieldOf (a : FieldAction) (payload : List Byte) : List Byte := (payload.drop a.displacement).take a.width

/-- A number saturated to what an action's field can carry (R32). -/
def toField (a : FieldAction) (x : Int) : Int :=
  if a.signed then max (-((2 ^ (8 * a.width - 1) : Nat) : Int)) (min x ((2 ^ (8 * a.width - 1) : Nat) - 1))
  else max 0 (min x ((2 ^ (8 * a.width) : Nat) - 1))

/-- From `p` to `q` a payload has changed in the field of action `a` alone, which now carries `x` (R32, R34, R35). -/
def FieldReplaced (a : FieldAction) (x : Int) (p q : List Byte) : Prop :=
  q.length = p.length ∧ q.take a.displacement = p.take a.displacement ∧
  q.drop (a.displacement + a.width) = p.drop (a.displacement + a.width) ∧ fieldNumber a.signed (fieldOf a q) = x

/-- The binding that a return frame in passage has when the records `gone` have left the list: it keeps its record as it
stood (R17, R28). -/
def keptBinding (gone : List FlightRecord) (b : Binding) : Binding :=
  match b with
  | .record id => ((gone.find? (fun r => r.id == id)).map Binding.removed).getD b
  | _ => b

/-- The record that the return frame in passage is bound to, standing in the list or kept from it (R17, R19, R28). -/
def IsBoundRecord (r : FlightRecord) (s : State) : Prop :=
  s.retLane.binding = .removed r ∨
  ∃ before after : List FlightRecord,
    s.flight = before ++ r :: after ∧ s.retLane.binding = .record r.id ∧ ∀ x ∈ before, x.id ≠ r.id

/-- From `s`, with no frame arriving any more, to `t` the frame in passage on the out lane has ended bad: complemented check,
record BAD, nothing committed, one more bad end, RING_OUT_ERRORS present from four on (R8, R13, R14). -/
def OutBadEnd (s t : State) : Prop :=
  t.outBad = min 255 (s.outBad + 1) ∧ (s.faults.length = 64 → (t.condition fcOutErrors = true ↔ 4 ≤ t.outBad)) ∧
  ByFaultsOnly { s with
    p1 := { s.p1 with bytes := closedBytes true s.p1.bytes s.outLane.held, ended := true }
    outLane := s.outLane.closed
    outBad := min 255 (s.outBad + 1)
    flight := withOutcome .bad s.outLane s.flight } t

/-- The port P3 as the return lane's frame ends: a frame of kind ISLAND is not sent (R21), one that has no byte begins
here. -/
def closedP3 (bad : Bool) (s : State) : TxPort :=
  if s.retLane.kind = kindIsland then s.p3
  else { busy := false
         bytes := closedBytes bad (if s.retLane.recv = [] then [] else s.p3.bytes) s.retLane.held
         ended := true }

/-- The list without the record that the return lane's frame is bound to (R17). -/
def withoutBound (s : State) : List FlightRecord :=
  match s.retLane.binding with
  | .record id => s.flight.filter (fun r => r.id != id)
  | _ => s.flight

/-- The banks after that removal: DRAINING ends when no older record is left (R190). -/
def drainedBanks (s : State) : Banks :=
  match s.retLane.binding with
  | .record _ =>
    if s.banks.status = .draining ∧ ∀ r ∈ withoutBound s, r.generation = s.banks.generation then
      { s.banks with status := .idle }
    else s.banks
  | _ => s.banks

/-- From `s`, with no frame arriving any more, to `t` the frame in passage on the return lane has ended bad: complemented
check, record removed, nothing committed, no job updated, one more bad end, the spotlight no longer in flight (R8, R13, R14,
R167). -/
def RetBadEnd (s t : State) : Prop :=
  t.retBad = min 255 (s.retBad + 1) ∧ (s.faults.length = 64 → (t.condition fcReturnErrors = true ↔ 4 ≤ t.retBad)) ∧ t.spotlight = none ∧
  ByFaultsOnly { s with
    p3 := closedP3 true s
    retLane := s.retLane.closed
    retBad := min 255 (s.retBad + 1)
    flight := withoutBound s
    banks := drainedBanks s } t

/-- The occasion of an end on the out lane by the frame's source (R8, R22): the end delimiter at P0 of a frame passing cut
through; the held frame whose last byte has left, its end having reached the buffer; the island frame sent whole. -/
def OutEnds (source : OutSource) (truncated : Bool) (s : State) : Prop :=
  match source with
  | .p0 => s.rx0.mode = .passing ∧ truncated = false
  | .holdBuffer => s.outLane.isOpen = true ∧ s.outLane.source = .holdBuffer ∧ s.hold.bytes = [] ∧
      s.hold.overrun = false ∧ s.hold.ended = some truncated
  | .island => s.outLane.isOpen = true ∧ s.outLane.source = .island ∧ s.islandBytes = [] ∧ truncated = false

/-- The state with the source's frame no longer arriving: P0 receives none, or the buffer is EMPTY (R22). -/
def sourceDone (source : OutSource) (s : State) : State :=
  match source with
  | .p0 => { s with rx0 := { s.rx0 with mode := .none } }
  | .holdBuffer => { s with hold :=
      { occupied := false, bytes := [], stored := 0, overrun := false, ended := none, leaving := false } }
  | .island => s

/-- No filtered transition and no timed event falls within the next `n` µs, the present one the first of them (R24). -/
def QuietFor (n : Nat) (s : State) : Prop :=
  (s.inputs.toothA.level ≠ s.tracker.filtA → n ≤ s.filterWidth - s.elapsed s.inputs.toothA.since) ∧
  (s.inputs.toothB.level ≠ s.tracker.filtB → n ≤ s.filterWidth - s.elapsed s.inputs.toothB.since) ∧
  (s.inputs.index.level ≠ s.tracker.filtIndex → n ≤ s.filterWidth - s.elapsed s.inputs.index.since) ∧
  s.tracker.window.all (fun w => decide (n ≤ w.length - s.elapsed w.start)) = true ∧
  s.tracker.lastEdge.all (fun e => decide (n ≤ 2147483648 - s.elapsed e)) = true ∧
  s.tracker.timer.all (fun t => decide (n ≤ t.limit - s.elapsed t.start)) = true ∧
  n ≤ 1000000 - s.elapsed s.clock.phaseStart ∧
  s.supervision.timer.all (fun v => decide (n ≤ s.supervision.limit - s.elapsed v)) = true ∧
  s.supervision.islandTimer.all (fun i => decide (n ≤ i.period - s.elapsed i.start)) = true

/-- The next command is not PIN_RESET. -/
def NotPinReset (s : State) : Prop :=
  ∀ service a b index rest, s.pending ≠ .pinReset service a b index :: rest

/-- Whether a command first takes the consequences still outstanding: every one but PIN_RESET and the rows that are
consequences themselves (log entry 4). -/
def takesOutstanding : Instr → Bool
  | .pinReset _ _ _ _ => false
  | .outFrameStart => false
  | .returnFrameStart => false
  | .slotEntryApply _ => false
  | .frameOverlengthCut _ => false
  | .yawStepTimeout => false
  | .reportContentsTaken => false
  | .serviceResponseWrite => false
  | .clockMinute => false
  | .restBegin => false
  | .restEnd => false
  | .pumpExerciseStart => false
  | .pumpExerciseEnd => false
  | _ => true

/-! ## Laws -/

/-- Every list that stands for a fixed number of like things has that number, and every bounded list its bound (R3, R16,
R22, R41, R63, R77, R113, R159, R168, R188). -/
def Shaped (s : State) : Prop :=
  s.points.length = 256 ∧ s.entryHits.length = 48 ∧ s.faults.length = 64 ∧ s.banks.locks.length = 9 ∧
  s.banks.active.map (fun c => c.words.length) = tableSizes ∧
  s.banks.shadow.map (fun c => c.words.length) = tableSizes ∧
  s.flight.length ≤ 4 ∧ s.log.records.length ≤ 64 ∧ s.thermal.rises.length = 12 ∧
  (s.envelope.history = [] ∨ s.envelope.history.length = 8) ∧
  (s.tracker.history = [] ∨ s.tracker.history.length = 8) ∧
  s.rx0.seen.length ≤ 2 ∧ s.hold.stored ≤ 1024 ∧ s.hold.bytes.length ≤ s.hold.stored ∧
  s.outLane.recv.length ≤ 1024 ∧ s.retLane.recv.length ≤ 1024

/-- The law of the log (R168): at most 64 records with consecutive sequences, the newest the next number less one. -/
def LogLaw (s : State) : Prop :=
  s.log.records.length ≤ 64 ∧
  s.log.records.map (fun r => r.sequence) =
    (List.range s.log.records.length).map
      (fun i => s.log.next - BitVec.ofNat 16 (s.log.records.length - i))

/-- The action summary is formed over the latched codes (R164), trip seen follows its converter trip (R57, R59, R60), and
L is 0 while the converter trip is in effect (R57). -/
def ActionLaw (s : State) : Prop :=
  s.summary = s.formSummary ∧ s.envelope.tripSeen = s.summary.trip ∧
  (s.summary.trip = true → s.envelope.limit = 0)

/-- The move, its phase, its claim and its grant agree (R127, R132 to R137), a move is held only while the yaw hold is not
in effect, and the expected-edge timer runs only in a step (R115). -/
def MoveLaw (s : State) : Prop :=
  (s.sequencer.phase = .running ↔ s.sequencer.step ≠ 0) ∧
  (s.sequencer.phase = .none ↔ s.sequencer.record = none) ∧
  (s.sequencer.record.isSome = true ↔ s.arbiter.yawClaim.isSome = true) ∧
  (s.sequencer.phase = .running → s.arbiter.yawGrant.isSome = true) ∧
  (s.sequencer.record.isSome = true → s.summary.yawHold = false) ∧
  (s.tracker.timer.isSome = true → s.sequencer.step ≠ 0)

/-- A record in flight is bound to the ACTIVE generation or to the one before, and to the ACTIVE one unless the banks are
DRAINING (R189, R190). -/
def ListLaw (s : State) : Prop :=
  (∀ r ∈ s.flight, r.generation = s.banks.generation ∨ r.generation + 1 = s.banks.generation) ∧
  (s.banks.status ≠ .draining → ∀ r ∈ s.flight, r.generation = s.banks.generation)

/-- A scheduled exchange names no locked table (R194, R197). -/
def LockLaw (s : State) : Prop :=
  ∀ mask, s.banks.status = .scheduled mask → ∀ t, t < 9 → bitOf mask t = true → s.locked t = false

/-- The island timer runs exactly in ISLAND, MASTER_SILENT is present there, and a part that is not armed watches nothing
and is not in ISLAND (R175 to R180, R184). -/
def SilenceLaw (s : State) : Prop :=
  s.faults.length = 64 ∧
  (s.opState = .island ↔ s.supervision.islandTimer.isSome = true) ∧
  (s.opState = .island → s.condition fcMasterSilent = true) ∧
  (s.supervision.armed = false → s.supervision.timer = none ∧ s.opState ≠ .island)

/-- An event fault's condition is ABSENT (R154, R160), and no job output is FORCED (R44, R45). -/
def RecordLaw (s : State) : Prop :=
  (∀ k, k < 64 → levelCode k = false → s.condition k = false) ∧
  (∀ n, 32 ≤ n → n ≤ 63 → (s.point n).quality ≠ .forced)

end Sys2Proof.Safety
end

