-- ==== Sys2Proof/Certificates/Slice0/Obligations.lean ====
section
/-! DEFINITION. The statements about the part, each from the rules of spec/ that its docstring names. -/

open Sys2Proof Sys2Proof.Machine Sys2Proof.Safety

/-! ## The queue, time and reset -/

/-- One step runs the command at the front of the queue on the state with the queue's rest (the block's own interface,
log entry 1). -/
def Obligations.StepRunsTheFrontCommand : Prop :=
  ∀ (c : Instr) (rest : List Instr) (s : State),
    step { s with pending := c :: rest } = exec c { s with pending := rest }

/-- The passing of time (R24) and the model's choices of log entries 1, 4 and 9. With no command waiting and nothing
outstanding one µs passes; outstanding consequences are taken first. Taken in order they all come to an end, and a command
that is not itself a consequence acts on the state they leave. Time in which nothing falls moves the timebase alone; else it
passes to the first microsecond in which something falls, what falls there is taken, and the rest passes. In one microsecond
are taken, each with its consequences: the filtered transitions, and then, in this order, the closing window (R117), the last
edge forgotten (R111), the forced advance (R115), the second (R172), the supervision expiry (R178) and the island frame due
(R180), each if its time has passed, and once. -/
def Obligations.ConsequencesComeBeforeTimeAndCommands : Prop :=
  (∀ s : State, s.pending = [] → s.due = [] → step s = .next (letPass false 1 s)) ∧
  (∀ s : State, s.pending = [] → s.due ≠ [] → step s = .next (settle s)) ∧
  (∀ s : State, (settle s).due = []) ∧
  (∀ (c : Instr) (s : State), takesOutstanding c = true → exec c s = exec c (settle s)) ∧
  (∀ (first : Bool) (n : Nat) (s : State), QuietFor n s →
    letPass first n s = { s with timebase := s.timebase + BitVec.ofNat 32 n }) ∧
  (∀ (first : Bool) (n d : Nat) (s t : State), d < n → QuietFor d s → ¬ QuietFor (d + 1) s →
    t = takeMicrosecond first { s with timebase := s.timebase + BitVec.ofNat 32 d } →
    letPass first n s = letPass first (n - d - 1) { t with timebase := t.timebase + 1 }) ∧
  (∀ (first : Bool) (s : State) (after : Nat → State), after 0 = takeTransitions first s →
    after 1 = (if (after 0).tracker.window.any (fun w => decide (w.length ≤ (after 0).elapsed w.start)) = true
      then settle { after 0 with tracker := { (after 0).tracker with window := none } } else after 0) →
    after 2 = (if (after 1).tracker.lastEdge.any (fun e => decide (2147483648 ≤ (after 1).elapsed e)) = true
      then settle { after 1 with tracker := { (after 1).tracker with lastEdge := none } } else after 1) →
    after 3 = (if (after 2).tracker.timer.any (fun t => decide (t.limit ≤ (after 2).elapsed t.start)) = true
      then settle (forcedAdvance ((after 2).pointValue 38) (after 2)) else after 2) →
    after 4 = (if 1000000 ≤ (after 3).elapsed (after 3).clock.phaseStart
      then settle (clockSecond false false (after 3)) else after 3) →
    after 5 = (if (after 4).supervision.timer.any
        (fun v => decide ((after 4).supervision.limit ≤ (after 4).elapsed v)) = true
      then settle (expireSupervision (after 4)) else after 4) →
    after 6 = (if (after 5).supervision.islandTimer.any (fun i => decide (i.period ≤ (after 5).elapsed i.start)) = true
      then settle (islandDue (after 5)) else after 5) →
    takeMicrosecond first s = after 6)

/-- What pin reset leaves, block by block (R28, R41, R51, R77, R96, R108, R127, R138, R159, R168, R172, R175, R188), with
TIME_NOT_SET raised at the release (R173) under an all-zero FAT. That the raise shows in the points DERATE_LEVEL and
FAULT_SEV is DEDUCED, log entry 2. `State.reset` is what it leaves with SERVICE low and the three inputs high, levels that
are log entry 3's choice. -/
def Obligations.PinResetReturnsEveryBlock : Prop :=
  (∀ s : State, exec (.pinReset false true true true) s = .next { State.reset with pending := s.pending }) ∧
  ∀ (service a b index : Bool) (s : State), ∃ t, exec (.pinReset service a b index) s = .next t ∧
    t.pending = s.pending ∧ t.due = [] ∧
    (t.rx0.line = .down ∧ t.rx2.line = .down ∧ t.p1.busy = false ∧ t.p3.busy = false ∧ t.hold.occupied = false ∧
      t.outLane.isOpen = false ∧ t.retLane.isOpen = false ∧
      t.outLane.staging = { values := [], faults := [], misplaced := [], tags := [], request := none } ∧
      t.retLane.staging = { values := [], faults := [], misplaced := [], tags := [], request := none } ∧
      t.outBad = 0 ∧ t.retBad = 0 ∧ t.prevCycle = none ∧ t.flight = [] ∧ t.carrier = none ∧ t.opState = .pass ∧
      t.timebase = 0 ∧ t.strap = (if service then .service else .normal)) ∧
    ((∀ e, e < 48 → t.entryHits.getD e ⟨1, 1⟩ = { clamp := 0, short := 0 }) ∧
      (∀ n, n < 256 → n ≠ 45 → n ≠ 61 → t.point n = { value := 0, quality := .empty, age := 0 }) ∧
      t.point 45 = { value := 0, quality := .fresh, age := 0 } ∧
      t.point 61 = { value := 1, quality := .fresh, age := 0 }) ∧
    ((∀ id, id < 9 → t.active id = List.replicate (tableSize id) 0 ∧ t.shadow id = List.replicate (tableSize id) 0 ∧
        t.locked id = false) ∧
      (∀ c ∈ t.banks.active ++ t.banks.shadow, c.valid = false) ∧
      t.banks.generation = 0 ∧ t.banks.status = .idle ∧ t.banks.lastExchange = none) ∧
    t.envelope =
      { limit := 0, tripSeen := false, rideThrough := .normal, exposure := 0, swellCount := 0,
        recoveryCount := 0, lastSagFactor := 32768, exitFactor := 32768, history := [], vAvg := none } ∧
    t.thermal =
      { rises := List.replicate 12 0, seeded := false, pumpCommand := 0, fanRequest := 0,
        idleCountdown := none, exercise := none } ∧
    t.arbiter =
      { pumpClaim := 0, fanClaim := 0, yawClaim := none, pumpGrant := 0, fanGrant := 0, yawGrant := none,
        grantPumpMax := 0 } ∧
    t.tracker =
      { filtA := a, filtB := b, filtIndex := index, quadA := a, quadB := b, heading := 0,
        quality := .unreferenced, twist := 0, twistSet := false, lastEdge := none, history := [], baseTime := 0,
        timer := none, window := none, deadReckon := 0, forcedRun := 0, bounces := 0, slips := 0, slipRaised := false } ∧
    t.sequencer = { step := 0, phase := .none, record := none, commits := 0, counts := 0 } ∧
    t.decision =
      { mode := .hold, misalignment := 0, startDwell := 0, wind := none, stormEnter := 0, stormExit := 0,
        blocked := false, lastTarget := none, duty := 0, driveSeen := false, rest := none } ∧
    ((∀ k, k < 64 → k ≠ 33 → t.fault k =
        { condition := false, latch := false, pending := false, reasserted := false,
          count := 0, context := 0, raiseTime := 0 }) ∧
      t.fault 33 =
        { condition := true, latch := true, pending := false, reasserted := false, count := 1, context := 0,
          raiseTime := 0 } ∧
      t.spotlight = none ∧ t.log = { records := [], next := 0 } ∧
      t.summary = { derate := 0, yawHold := false, pumpBoost := false, trip := false, severity := 1 }) ∧
    t.clock = { seconds := 0, phaseStart := 0, timeSet := false } ∧
    t.supervision = { armed := false, limit := 0, timer := none, islandTimer := none, waiting := false }

/-! ## Requests: judging (R202) and their layout (R213)

A request command hands the interpreter its request as from a slot of its length in the frame last ended on the out lane,
with nothing outstanding: the model's choice, log entries 7 and 4. It underlies every statement about a request. -/

/-- A request whose slot is shorter than the kind byte and its arguments is refused with BAD_ARGUMENT; one whose slot is
shorter than its OK response is refused with SHORT_SLOT; nothing but the answer changes (R202, steps 2 and 3). Where SLOT_STATS
has no OK response the length taken is log entry 27's choice; that an ARM_SUPERVISION refused with SHORT_SLOT answers the
status alone is log entry 33's. -/
def Obligations.ShortSlotsAreRefused : Prop :=
  ∀ (len : Nat) (r : Request) (s : State), s.due = [] →
    (len < 1 + Request.argLength r → exec (requestCommand len r) s = .next (answered [0x03] s)) ∧
    (1 + Request.argLength r ≤ len → len < Request.okLength r →
      exec (requestCommand len r) s = .next (answered [0x09] s))

/-- A request written out as its payload, with any bytes behind its arguments, is read back as that request: no argument
is dropped or moved (R202 step 2, R211, R213). A payload is refused with BAD_KIND exactly when its byte 0 names no request
(R202, step 1). -/
def Obligations.RequestBytesDecodeToTheRequest : Prop :=
  (∀ (r : Request) (more : List Byte), requestFits r → decodeRequest (requestBytes r ++ more) = .ok r) ∧
  (∀ (kind : Byte) (args : List Byte),
    kind ∉ requestKinds ↔ decodeRequest (kind :: args) = .error .badKind)

/-! ## Requests that read

Given as commands (log entry 7) with nothing outstanding (log entry 4). -/

/-- IDENTIFY answers part number 7120, revision 1, operating state, strap mode, generation and bank state; FAULT_READ the
record of its code, refusing a code above 63. Neither changes anything but the answer (R206, R159, R213). -/
def Obligations.IdentifyAndFaultReadAnswerTheState : Prop :=
  ∀ (len : Nat) (s : State), s.due = [] →
    (9 ≤ len → exec (.identify len) s = .next (answered
      ([0x00, 0x1B, 0xD0, 0x01, BitVec.ofNat 8 s.opState.code, BitVec.ofNat 8 s.strap.code] ++
        wordBytes s.banks.generation ++ [BitVec.ofNat 8 s.banks.status.code]) s)) ∧
    (∀ code : Byte, 13 ≤ len → 63 < code.toNat → exec (.faultRead len code) s = .next (answered [0x03] s)) ∧
    (∀ code : Byte, 13 ≤ len → code.toNat ≤ 63 → exec (.faultRead len code) s = .next (answered
      ([0x00, code, BitVec.ofNat 8
          ((if (s.fault code.toNat).condition then 1 else 0) + (if (s.fault code.toNat).latch then 2 else 0) +
           (if (s.fault code.toNat).pending then 4 else 0) + (if (s.fault code.toNat).reasserted then 8 else 0))] ++
        putU 1 (s.fault code.toNat).count ++ putS 4 (s.fault code.toNat).context ++
        longBytes (s.fault code.toNat).raiseTime ++ [BitVec.ofNat 8 (s.faultEntry code.toNat).severity]) s))

/-- POINT_READ answers value, quality and age of each point named, in order; SLOT_STATS tag, lane and both counters of
each entry from the first position on, stopping after position 47. Counts outside 1 to 8 and a position above 47 are
refused; which slot length such a SLOT_STATS must have is log entry 27's choice. Neither changes anything but the answer (R208,
R209, R213). -/
def Obligations.PointReadAndSlotStatsAnswerTheState : Prop :=
  ∀ (len : Nat) (s : State), s.due = [] →
    (∀ points : List Byte, Carried len (.pointRead points) → (points.length = 0 ∨ 8 < points.length) →
      exec (.pointRead len points) s = .next (answered [0x03] s)) ∧
    (∀ points : List Byte, Carried len (.pointRead points) → 1 ≤ points.length → points.length ≤ 8 →
      exec (.pointRead len points) s = .next (answered
        (0x00 :: points.flatMap (fun n => putS 4 (s.point n.toNat).value ++
          [BitVec.ofNat 8 (s.point n.toNat).quality.code] ++ putU 1 (s.point n.toNat).age)) s)) ∧
    (∀ first count : Byte, Carried len (.slotStats first count) →
      (47 < first.toNat ∨ count.toNat = 0 ∨ 8 < count.toNat) →
      exec (.slotStats len first count) s = .next (answered [0x03] s)) ∧
    (∀ first count : Byte, Carried len (.slotStats first count) →
      first.toNat ≤ 47 → 1 ≤ count.toNat → count.toNat ≤ 8 →
      exec (.slotStats len first count) s = .next (answered
        ([0x00, BitVec.ofNat 8 (min count.toNat (48 - first.toNat))] ++
          (List.range (min count.toNat (48 - first.toNat))).flatMap (fun i =>
            [BitVec.ofNat 8 (slotEntry s.smt (first.toNat + i)).tag,
             BitVec.ofNat 8 (if (slotEntry s.smt (first.toNat + i)).lane = .ret then 1 else 0)] ++
            putU 2 (s.entryHits.getD (first.toNat + i) ⟨0, 0⟩).clamp ++
            putU 2 (s.entryHits.getD (first.toNat + i) ⟨0, 0⟩).short)) s))

/-- TABLE_READ answers the words of the named copy from the start index up to the count and the table's end, with the
copy's validity, the generation and the bank state (R192). LOG_READ answers the records from the sequence on, with the
log's oldest sequence and length (R170, R213); the oldest sequence of an empty log is open (log entry 20). Arguments out
of range are refused. Neither changes anything but the answer. -/
def Obligations.TableReadAndLogReadAnswerTheState : Prop :=
  ∀ (len : Nat) (s : State), s.due = [] →
    (∀ (t bank : Byte) (start : Word) (count : Byte), Carried len (.tableRead t bank start count) →
      (8 < t.toNat ∨ tableSize t.toNat ≤ start.toNat ∨ 1 < bank.toNat ∨ count.toNat = 0 ∨ 24 < count.toNat) →
      exec (.tableRead len t bank start count) s = .next (answered [0x03] s)) ∧
    (∀ (t bank : Byte) (start : Word) (count : Byte) (copy : TableCopy), Carried len (.tableRead t bank start count) →
      start.toNat < tableSize t.toNat → 1 ≤ count.toNat → count.toNat ≤ 24 →
      ((bank = 0 ∧ s.banks.active[t.toNat]? = some copy) ∨ (bank = 1 ∧ s.banks.shadow[t.toNat]? = some copy)) →
      exec (.tableRead len t bank start count) s = .next (answered
        ([0x00, BitVec.ofNat 8 ((copy.words.drop start.toNat).take count.toNat).length,
          BitVec.ofNat 8 (if copy.valid then 1 else 0)] ++ wordBytes s.banks.generation ++
          [BitVec.ofNat 8 s.banks.status.code] ++
          ((copy.words.drop start.toNat).take count.toNat).flatMap wordBytes) s)) ∧
    (∀ (sequence : Word) (count : Byte), Carried len (.logRead sequence count) →
      (count.toNat = 0 ∨ 3 < count.toNat) → exec (.logRead len sequence count) s = .next (answered [0x03] s)) ∧
    (∀ (sequence : Word) (count : Byte), Carried len (.logRead sequence count) → 1 ≤ count.toNat → count.toNat ≤ 3 →
      s.log.records = [] → ∃ oldest : Word,
        exec (.logRead len sequence count) s = .next (answered ([0x00] ++ wordBytes oldest ++ [0, 0]) s)) ∧
    (∀ (sequence : Word) (count : Byte) (r : LogRecord) (rest : List LogRecord), Carried len (.logRead sequence count) →
      1 ≤ count.toNat → count.toNat ≤ 3 → s.log.records = r :: rest →
      exec (.logRead len sequence count) s = .next (answered
        ([0x00] ++ wordBytes r.sequence ++ putU 1 s.log.records.length ++
          [BitVec.ofNat 8 ((s.log.records.drop (sequence - r.sequence).toNat).take count.toNat).length] ++
          ((s.log.records.drop (sequence - r.sequence).toNat).take count.toNat).flatMap (fun x =>
            wordBytes x.sequence ++ putU 1 x.code ++ [BitVec.ofNat 8 x.kind.code] ++ longBytes x.seconds ++
            [BitVec.ofNat 8 (if x.timeSet then 1 else 0)] ++ putU 1 x.cycle ++ putS 4 x.context)) s))

/-! ## Requests of the operating state and the resets

Given as commands (log entry 7) with nothing outstanding (log entry 4). -/

/-- RUN and PASS by operating state (R26): RUN in PASS needs every ACTIVE copy valid, else STATE; RUN in RUN and PASS in
PASS change nothing. In ISLAND, which a request never meets (R25), both are refused with STATE: the model's choice, log
entry 8. -/
def Obligations.RunAndPassSetTheOperatingState : Prop :=
  ∀ (len : Nat) (s : State), s.due = [] → 1 ≤ len →
    (s.opState = .pass → (∀ c ∈ s.banks.active, c.valid = true) →
      exec (.run len) s = .next (answered [0x00] { s with opState := .run })) ∧
    (s.opState = .pass → (∃ c ∈ s.banks.active, c.valid = false) →
      exec (.run len) s = .next (answered [0x04] s)) ∧
    (s.opState = .run → exec (.run len) s = .next (answered [0x00] s)) ∧
    (s.opState = .run → exec (.pass len) s = .next (answered [0x00] { s with opState := .pass })) ∧
    (s.opState = .pass → exec (.pass len) s = .next (answered [0x00] s)) ∧
    (s.opState = .island → exec (.run len) s = .next (answered [0x04] s) ∧
      exec (.pass len) s = .next (answered [0x04] s))

/-- SOFT_RESET (R207, with R28, R39, R41, R51, R77, R96, R108, R127, R138, R174, R187, R199). While the time is set every
block takes its SOFT_RESET values, the carrier is set to the cycle count of the out lane's frame and its OK response (R18),
and nothing else changes. While it is not set the same happens and then TIME_NOT_SET is raised with context 0 (R173): its
record is set, every other but LOG_OVERWRITE's is clear, and but for the clock's flag, the fault manager, trip seen and the
points its actions write (R59, R165, log entry 2) the state is the one a SOFT_RESET with the time set leaves, point by point. -/
def Obligations.SoftResetReturnsEveryBlock : Prop :=
  (∀ (len : Nat) (s : State), s.due = [] → 1 ≤ len → s.clock.timeSet = true →
      exec (.softReset len) s = .next { s with
        outLane := { s.outLane with
          staging := { values := [], faults := [], misplaced := [], tags := [], request := none } }
        retLane := { s.retLane with
          binding := keptBinding s.flight s.retLane.binding
          voided := true
          staging := { values := [], faults := [], misplaced := [], tags := [], request := none } }
        outBad := 0
        retBad := 0
        prevCycle := none
        flight := []
        carrier := some (s.outLane.cycle, [0x00])
        opState := .pass
        entryHits := List.replicate 48 { clamp := 0, short := 0 }
        points := List.replicate 256 { value := 0, quality := .empty, age := 0 }
        banks := { s.banks with status := if s.banks.status = .draining then .idle else s.banks.status }
        envelope := { limit := 0, tripSeen := false, rideThrough := .normal, exposure := 0, swellCount := 0,
                      recoveryCount := 0, lastSagFactor := 32768, exitFactor := 32768, history := [], vAvg := none }
        thermal := { rises := List.replicate 12 0, seeded := false, pumpCommand := 0, fanRequest := 0,
                     idleCountdown := none, exercise := none }
        arbiter := { pumpClaim := 0, fanClaim := 0, yawClaim := none, pumpGrant := 0, fanGrant := 0, yawGrant := none,
                     grantPumpMax := 0 }
        tracker := { s.tracker with
          lastEdge := none, history := [], baseTime := 0, timer := none, window := none, deadReckon := 0, forcedRun := 0,
          bounces := 0, slips := 0, slipRaised := false }
        sequencer := { step := 0, phase := .none, record := none, commits := 0, counts := 0 }
        decision := { mode := .hold, misalignment := 0, startDwell := 0, wind := none, stormEnter := 0, stormExit := 0,
                      blocked := false, lastTarget := none, duty := 0, driveSeen := false, rest := none }
        faults := List.replicate 64
          { condition := false, latch := false, pending := false, reasserted := false, count := 0, context := 0,
            raiseTime := 0 }
        spotlight := none
        summary := { derate := 0, yawHold := false, pumpBoost := false, trip := false, severity := 0 }
        supervision := { s.supervision with
          timer := if s.supervision.armed then some s.timebase else none, islandTimer := none, waiting := false }
        response := some [0x00] }) ∧
  (∀ (len : Nat) (s : State), s.due = [] → 1 ≤ len → s.clock.timeSet = false →
      ∃ u t, exec (.softReset len) { s with clock := { s.clock with timeSet := true } } = .next u ∧
        exec (.softReset len) s = .next t ∧
        (t.fault 33).condition = true ∧ (t.fault 33).latch = true ∧ (t.fault 33).count = 1 ∧ (t.fault 33).context = 0 ∧
        (t.fault 33).raiseTime = s.clock.seconds ∧
        (∀ k, k < 64 → k ≠ 33 → k ≠ 34 → t.fault k = u.fault k) ∧
        t.summary = t.formSummary ∧
        (∀ n, n ∉ [32, 33, 34, 45, 61] → t.point n = u.point n) ∧
        (t.summary.trip = false → ∀ n, n ∈ [32, 33, 34] → t.point n = u.point n) ∧
        (t.summary.trip = true → t.point 32 = { value := 0, quality := .fresh, age := 0 } ∧
          t.point 33 = { value := 0, quality := .fresh, age := 0 } ∧
          t.point 34 = { value := 1, quality := .fresh, age := 0 }) ∧
        t.point 45 = { value := t.summary.derate, quality := .fresh, age := 0 } ∧
        t.point 61 = { value := t.summary.severity, quality := .fresh, age := 0 } ∧
        t = { u with clock := s.clock, faults := t.faults, log := t.log, summary := t.summary, points := t.points,
                     envelope := { u.envelope with tripSeen := t.summary.trip } })

/-! ## Requests on the banks

Given as commands (log entry 7) with nothing outstanding (log entry 4); the order of a swap's hand-overs beyond its rules is
log entry 15's, its plain divisions log entry 22's. -/

/-- TABLE_WRITE taken (R191, step 4): the words go into the SHADOW copy from the start index up to the end of the page of
32 words and of the table, the copy's flag becomes invalid, and the answer carries the number written. Every other word,
copy and block is unchanged. -/
def Obligations.TableWriteWritesOnePageOfShadow : Prop :=
  ∀ (len : Nat) (t : Byte) (start : Word) (words : List Word) (s : State), s.due = [] →
    Carried len (.tableWrite t start words) → t.toNat < 9 → start.toNat < tableSize t.toNat → 1 ≤ words.length →
    words.length ≤ 27 → s.locked t.toNat = false → s.banks.status = .idle → s.banks.shadow.length = 9 →
    (s.shadow t.toNat).length = tableSize t.toNat →
    ∃ (n : Nat) (new : List Word), n = min words.length (min (32 - start.toNat % 32) (tableSize t.toNat - start.toNat)) ∧
      new.length = tableSize t.toNat ∧
      (∀ i, i < tableSize t.toNat → new.getD i 0 =
        if start.toNat ≤ i ∧ i < start.toNat + n then words.getD (i - start.toNat) 0 else (s.shadow t.toNat).getD i 0) ∧
      exec (.tableWrite len t start words) s = .next (answered [0x00, BitVec.ofNat 8 n]
        { s with banks := { s.banks with shadow := s.banks.shadow.set t.toNat { words := new, valid := false } } })

/-- The refusals of TABLE_WRITE and COPY in their order (R191, R193, and chapter 10.2 for the table id and the mask):
BAD_ARGUMENT; LOCKED with LOCK_VIOLATION and the mask of the locked tables named; BUSY while an exchange is scheduled or
draining. But for the raise nothing changes. -/
def Obligations.TableWriteAndCopyRefusals : Prop :=
  ∀ (len : Nat) (s : State), s.due = [] →
    (∀ (t : Byte) (start : Word) (words : List Word), Carried len (.tableWrite t start words) →
      (8 < t.toNat ∨ tableSize t.toNat ≤ start.toNat ∨ words.length = 0 ∨ 27 < words.length →
        exec (.tableWrite len t start words) s = .next (answered [0x03] s)) ∧
      (t.toNat < 9 → start.toNat < tableSize t.toNat → 1 ≤ words.length → words.length ≤ 27 →
        (s.locked t.toNat = true →
          exec (.tableWrite len t start words) s =
            .next (answered [0x05] (raise fcLockViolation ((2 ^ t.toNat : Nat) : Int) s))) ∧
        (s.locked t.toNat = false → s.banks.status ≠ .idle →
          exec (.tableWrite len t start words) s = .next (answered [0x06] s)))) ∧
    (∀ mask : Word, Carried len (.copy mask) →
      (mask.toNat = 0 ∨ 512 ≤ mask.toNat → exec (.copy len mask) s = .next (answered [0x03] s)) ∧
      (mask.toNat ≠ 0 → mask.toNat < 512 →
        ((∃ t, t < 9 ∧ bitOf mask t = true ∧ s.locked t = true) →
          exec (.copy len mask) s = .next (answered [0x05]
            (raise fcLockViolation (((List.range 9).map (fun t =>
              if bitOf mask t && s.locked t then 2 ^ t else 0)).sum : Nat) s))) ∧
        ((∀ t, t < 9 → bitOf mask t = true → s.locked t = false) → s.banks.status ≠ .idle →
          exec (.copy len mask) s = .next (answered [0x06] s))))

/-- COPY taken (R193): for each table of the mask the SHADOW copy, words and flag, becomes the ACTIVE one; every other copy
and block is unchanged. -/
def Obligations.CopyTakesActiveIntoShadow : Prop :=
  ∀ (len : Nat) (mask : Word) (s : State), s.due = [] → Carried len (.copy mask) → mask.toNat ≠ 0 → mask.toNat < 512 →
    (∀ t, t < 9 → bitOf mask t = true → s.locked t = false) → s.banks.status = .idle →
    s.banks.active.length = 9 → s.banks.shadow.length = 9 →
    ∃ new : List TableCopy, new.length = 9 ∧
      (∀ t, t < 9 → new[t]? = if bitOf mask t then s.banks.active[t]? else s.banks.shadow[t]?) ∧
      exec (.copy len mask) s = .next (answered [0x00] { s with banks := { s.banks with shadow := new } })

/-- EXCHANGE accepted or recognised as a repeat (R194, cases 1 and 7): an accepted one leaves SCHEDULED with the mask and
the last exchange; a repeat changes nothing; both answer the generation that the swap gives, with the bank state. -/
def Obligations.ExchangeIsScheduledOrRecognised : Prop :=
  ∀ (len : Nat) (mask g : Word) (s : State), s.due = [] → Carried len (.exchange mask g) → mask.toNat ≠ 0 →
    mask.toNat < 512 →
    (s.banks.lastExchange = some { mask := mask, fromGeneration := g } →
      (s.banks.generation = g + 1 ∨ s.banks.status = .scheduled mask) →
      exec (.exchange len mask g) s =
        .next (answered ([0x00] ++ wordBytes (g + 1) ++ [BitVec.ofNat 8 s.banks.status.code]) s)) ∧
    (¬ (s.banks.lastExchange = some { mask := mask, fromGeneration := g } ∧
        (s.banks.generation = g + 1 ∨ s.banks.status = .scheduled mask)) →
      (∀ t, t < 9 → bitOf mask t = true → s.locked t = false) → s.banks.status = .idle → g = s.banks.generation →
      ((bitOf mask 5 = true ∨ bitOf mask 6 = true) → s.sequencer.step = 0 ∧ s.sequencer.phase = .none) →
      (∀ t, t < 9 → bitOf mask t = true → validateTable t (s.shadow t) = none) →
      exec (.exchange len mask g) s = .next (answered ([0x00] ++ wordBytes (g + 1) ++ [1])
        { s with banks := { s.banks with
            status := .scheduled mask, lastExchange := some { mask := mask, fromGeneration := g } } }))

/-- The refusals of an EXCHANGE that is no repeat, in their order (R194, cases 2 to 6; R195): LOCKED with LOCK_VIOLATION,
BUSY, STATE for the generation, STATE for a yaw table while the sequencer moves, INVALID with table and word of the first
failure by table id. But for the raise nothing changes. The failure of a table is the lowest word index at which a check of
its owner fails (R40, R72, R73, R74, R94, R124, R150, R157, R185); a table none of whose checks fails passes. -/
def Obligations.ExchangeRefusals : Prop :=
  (∀ (t : Nat) (ws : List Word), t < 9 →
    (validateTable t ws = none ↔ ∀ w, ¬ WordFails t ws w) ∧
    ∀ w, validateTable t ws = some w ↔ WordFails t ws w ∧ ∀ v, v < w → ¬ WordFails t ws v) ∧
  ∀ (len : Nat) (mask g : Word) (s : State), s.due = [] → Carried len (.exchange mask g) →
    (mask.toNat = 0 ∨ 512 ≤ mask.toNat → exec (.exchange len mask g) s = .next (answered [0x03] s)) ∧
    (mask.toNat ≠ 0 → mask.toNat < 512 →
      ¬ (s.banks.lastExchange = some { mask := mask, fromGeneration := g } ∧
        (s.banks.generation = g + 1 ∨ s.banks.status = .scheduled mask)) →
      ((∃ t, t < 9 ∧ bitOf mask t = true ∧ s.locked t = true) →
        exec (.exchange len mask g) s = .next (answered [0x05]
          (raise fcLockViolation (((List.range 9).map (fun t =>
            if bitOf mask t && s.locked t then 2 ^ t else 0)).sum : Nat) s))) ∧
      ((∀ t, t < 9 → bitOf mask t = true → s.locked t = false) →
        (s.banks.status ≠ .idle → exec (.exchange len mask g) s = .next (answered [0x06] s)) ∧
        (s.banks.status = .idle →
          (g ≠ s.banks.generation ∨
            ((bitOf mask 5 = true ∨ bitOf mask 6 = true) ∧ (s.sequencer.step ≠ 0 ∨ s.sequencer.phase ≠ .none)) →
            exec (.exchange len mask g) s = .next (answered [0x04] s)) ∧
          (g = s.banks.generation →
            ((bitOf mask 5 = true ∨ bitOf mask 6 = true) → s.sequencer.step = 0 ∧ s.sequencer.phase = .none) →
            ∀ (t w : Nat), t < 9 → bitOf mask t = true → validateTable t (s.shadow t) = some w →
              (∀ u, u < t → bitOf mask u = true → validateTable u (s.shadow u) = none) →
              exec (.exchange len mask g) s = .next (answered ([0x07, BitVec.ofNat 8 t] ++ putU 2 w) s)))))

/-- The swap at an out-lane frame start that finds an exchange SCHEDULED (R196, R39): the copies of each table of the mask
change places, the new ACTIVE flag is valid, the generation goes up by one, and the banks drain exactly when every record
in flight, one at least, is of the generation before. The entry counters are cleared if SMT is swapped. Then the owners take
their tables. PLT (R106): the grant pump_kw_max follows, the grants stand, and PUMP_SPEED is lowered to what the grant pays
for. YCF (R125, R147): with PPR unchanged the base time is recomputed, with PPR changed the heading is reduced, heading and
twist lose their reference and the outputs of R121 are written; YAW_TRACK_LOST and then both twist conditions are judged, and
a limit that becomes present ends a move. FAT (R158): under SELF_CLEARING a latch without its condition clears, a watch that
is OFF ends, ENDED is logged in their order, and the summary is recomputed once (log entry 24). -/
def Obligations.SwapChangesPlacesOfTheCopies : Prop :=
  (∀ (mask : Word) (s : State), s.banks.status = .scheduled mask → s.banks.active.length = 9 →
    s.banks.shadow.length = 9 →
    (swapIfScheduled s).banks.generation = s.banks.generation + 1 ∧
    ((swapIfScheduled s).banks.status =
      if s.flight ≠ [] ∧ ∀ r ∈ s.flight, r.generation = s.banks.generation then .draining else .idle) ∧
    (∀ t, t < 9 → bitOf mask t = true →
      (swapIfScheduled s).active t = s.shadow t ∧ (swapIfScheduled s).shadow t = s.active t ∧
      ((swapIfScheduled s).banks.active.getD t ⟨[], false⟩).valid = true ∧
      ((swapIfScheduled s).banks.shadow.getD t ⟨[], false⟩).valid = (s.banks.active.getD t ⟨[], false⟩).valid) ∧
    (∀ t, t < 9 → bitOf mask t = false →
      (swapIfScheduled s).banks.active[t]? = s.banks.active[t]? ∧
      (swapIfScheduled s).banks.shadow[t]? = s.banks.shadow[t]?) ∧
    (swapIfScheduled s).banks.locks = s.banks.locks ∧
    (swapIfScheduled s).banks.lastExchange = s.banks.lastExchange ∧
    (swapIfScheduled s).entryHits =
      (if bitOf mask 0 then List.replicate 48 { clamp := 0, short := 0 } else s.entryHits) ∧
    (∀ u v w : State,
      u = { s with banks := (swapIfScheduled s).banks, entryHits := (swapIfScheduled s).entryHits } →
      v = (if bitOf mask 1 then arbiterPltSwap u else u) →
      w = (if bitOf mask 5 then judgeTwist (trackerYcfSwap s.ppr v) else v) →
      swapIfScheduled s = if bitOf mask 7 then fatSwap w else w)) ∧
  (∀ (s u : State) (speed : Nat), u = { s with arbiter := { s.arbiter with grantPumpMax := figure s.plt 13 } } →
    speed = s.arbiter.pumpGrant * 1000 / figure s.plt 13 →
    ((s.point 40).value ≤ speed → arbiterPltSwap s = u) ∧
    ((speed : Int) < (s.point 40).value → arbiterPltSwap s = withPumpSpeed speed u)) ∧
  (∀ (ppr base : Nat) (s t : State), t = trackerYcfSwap ppr s → s.faults.length = 64 →
    base = (if s.tracker.history = [] then 0
      else (s.tracker.history.take (2 ^ figure s.ycf 7)).sum / 2 ^ figure s.ycf 7) →
    (t.condition fcTrackLost = true ↔ s.forcedLimit ≤ t.tracker.forcedRun) ∧
    (s.ppr = ppr → ByFaultsOnly { s with tracker := { s.tracker with baseTime := base } } t) ∧
    (s.ppr ≠ ppr → s.ppr ≠ 0 → ∀ heading : Nat, heading = s.tracker.heading % s.ppr →
      ByFaultsOnly { s with
        tracker := { s.tracker with
          baseTime := base, heading := heading, quality := .unreferenced, twistSet := false, deadReckon := 0,
          forcedRun := 0, window := none }
        points := ((s.points.set 42 { value := ((heading * 3600 / s.ppr : Nat) : Int), quality := .fresh, age := 0 }).set
          43 { value := s.tracker.twist, quality := .fresh, age := 0 }).set 63
          { value := 0, quality := .fresh, age := 0 } } t)) ∧
  (∀ s t : State, t = judgeTwist s → s.faults.length = 64 →
    (t.condition fcTwistWarn = true ↔ s.tracker.twistSet = true ∧ s.unwindStart ≤ (s.tracker.twist.natAbs : Int)) ∧
    (t.condition fcTwistLimit = true ↔
      (s.tracker.twistSet = true ∧ s.twistHard ≤ (s.tracker.twist.natAbs : Int)) ∨ s.decision.blocked = true) ∧
    (s.condition fcTwistLimit = false → t.condition fcTwistLimit = true →
      (s.sequencer.phase = .none ↔ s.sequencer.record = none) →
      t.sequencer.record = none ∧ t.sequencer.phase = .none) ∧
    ByFaultsOnly s t) ∧
  (∀ s t : State, t = fatSwap s → s.faults.length = 64 →
    (∀ k, k < 64 → k ≠ 31 → k ≠ 34 →
      (¬ (48 ≤ k ∧ (watchOf s.fat (k - 48)).comparison = 0 ∧ (s.fault k).condition = true) →
        t.fault k = { s.fault k with
          latch := (s.fault k).latch && ((s.faultEntry k).latching || (s.fault k).condition) }) ∧
      (48 ≤ k → (watchOf s.fat (k - 48)).comparison = 0 → (s.fault k).condition = true →
        t.fault k = { s.fault k with
          condition := false, reasserted := false, latch := (s.fault k).latch && (s.faultEntry k).latching })) ∧
    t.summary = t.formSummary ∧ ByFaultsOnly s t ∧
    (s.summary.yawHold = false → t.summary.yawHold = true →
      (s.sequencer.phase = .none ↔ s.sequencer.record = none) → t.sequencer.record = none) ∧
    (s.sequencer.phase = .none → ∀ ks : List Nat,
      ks = ((List.range 64).filter (fun k => (s.fault k).latch && !(s.fault k).condition)) ++
          ((List.range 16).map (48 + ·)).filter (fun k =>
            (s.fault k).condition && decide ((watchOf s.fat (k - 48)).comparison = 0)) →
      LogTakesAll (ks.filter (fun k => !(s.faultEntry k).latching && ((s.faultEntry k).log ||
        decide ((s.faultEntry k).severity = 4)))) (fun _ => .ended) s t))

/-- LOCK sets the locks of the mask's tables unless an exchange is scheduled (R197); UNLOCK clears them in strap mode
SERVICE and is otherwise refused with LOCKED and LOCK_VIOLATION (R198). Both answer the lock set; a mask of 0 or above
bit 8 is refused. No other state changes but by the raise. -/
def Obligations.LockAndUnlockSetTheLocks : Prop :=
  ∀ (len : Nat) (mask : Word) (s : State), s.due = [] → Carried len (.lock mask) →
    (mask.toNat = 0 ∨ 512 ≤ mask.toNat → exec (.lock len mask) s = .next (answered [0x03] s) ∧
      exec (.unlock len mask) s = .next (answered [0x03] s)) ∧
    (mask.toNat ≠ 0 → mask.toNat < 512 → s.banks.locks.length = 9 →
      (∀ m, s.banks.status = .scheduled m → exec (.lock len mask) s = .next (answered [0x06] s)) ∧
      ((∀ m, s.banks.status ≠ .scheduled m) → ∃ l : List Bool, l.length = 9 ∧
        (∀ t, t < 9 → l.getD t false = (s.locked t || bitOf mask t)) ∧
        exec (.lock len mask) s = .next (answered
          ([0x00] ++ putU 2 ((List.range 9).map (fun t => if l.getD t false then 2 ^ t else 0)).sum)
          { s with banks := { s.banks with locks := l } })) ∧
      (s.strap = .service → ∃ l : List Bool, l.length = 9 ∧
        (∀ t, t < 9 → l.getD t false = (s.locked t && !bitOf mask t)) ∧
        exec (.unlock len mask) s = .next (answered
          ([0x00] ++ putU 2 ((List.range 9).map (fun t => if l.getD t false then 2 ^ t else 0)).sum)
          { s with banks := { s.banks with locks := l } })) ∧
      (s.strap = .normal → exec (.unlock len mask) s =
        .next (answered [0x05] (raise fcLockViolation mask.toNat s))))

/-! ## Requests on points, faults, log and clock

Given as commands (log entry 7) with nothing outstanding (log entry 4). -/

/-- POINT_FORCE (R45): SERVICE_ONLY for an input in strap mode NORMAL, BAD_ARGUMENT for a job output; otherwise the point
becomes FORCED with the value given and age 0, POINT_FORCED is present (R49) and STALE_INPUT present exactly while an input
with a limit other than 255 is STALE (R48). Every other point but the outputs of a fault's actions, and all state that a
raise leaves alone, is unchanged.
POINT_RELEASE (R46): a FORCED point becomes STALE with its value and age kept, and POINT_FORCED stays present exactly
while another point is FORCED (R49) and STALE_INPUT present exactly while an input with a limit other than 255 is STALE,
raised with the lowest such input's number (R48); a point that is not FORCED is left alone, and nothing else changes. -/
def Obligations.PointForceAndReleaseSetTheRecord : Prop :=
  (∀ (len : Nat) (n : Byte) (v : Long) (s : State), s.due = [] → Carried len (.pointForce n v) →
      s.points.length = 256 → s.faults.length = 64 →
      (n.toNat ≤ 31 → s.strap = .normal → exec (.pointForce len n v) s = .next (answered [0x08] s)) ∧
      (32 ≤ n.toNat → n.toNat ≤ 63 → exec (.pointForce len n v) s = .next (answered [0x03] s)) ∧
      ((n.toNat ≤ 31 ∧ s.strap = .service) ∨ 64 ≤ n.toNat →
        ∃ t, exec (.pointForce len n v) s = .next (answered [0x00] t) ∧
          t.point n.toNat = { value := v.toInt, quality := .forced, age := 0 } ∧
          (s.condition fcPointForced = false → (t.fault fcPointForced).context = n.toNat) ∧
          t.condition fcPointForced = true ∧
          (t.condition fcStaleInput = true ↔
            ∃ m, m < 32 ∧ (t.point m).quality = .stale ∧ stalenessLimit s.smt m ≠ 255) ∧
          ByFaultsOnly { s with points := s.points.set n.toNat { value := v.toInt, quality := .forced, age := 0 } } t)) ∧
  (∀ (len : Nat) (n : Byte) (s : State), s.due = [] → Carried len (.pointRelease n) → s.points.length = 256 →
      s.faults.length = 64 →
      ((s.point n.toNat).quality ≠ .forced → exec (.pointRelease len n) s = .next (answered [0x00] s)) ∧
      ((s.point n.toNat).quality = .forced → (n.toNat ≤ 31 ∨ 64 ≤ n.toNat) →
        ∃ t, exec (.pointRelease len n) s = .next (answered [0x00] t) ∧
          t.point n.toNat = { s.point n.toNat with quality := .stale } ∧
          (t.condition fcPointForced = true ↔ ∃ m, m < 256 ∧ m ≠ n.toNat ∧ (s.point m).quality = .forced) ∧
          (t.condition fcStaleInput = true ↔
            ∃ m, m < 32 ∧ (t.point m).quality = .stale ∧ stalenessLimit s.smt m ≠ 255) ∧
          (∀ m, m < 32 → (t.point m).quality = .stale → stalenessLimit s.smt m ≠ 255 →
            (∀ j, j < m → ¬ ((t.point j).quality = .stale ∧ stalenessLimit s.smt j ≠ 255)) →
            s.condition fcStaleInput = false → (t.fault fcStaleInput).context = m) ∧
          ByFaultsOnly { s with points := s.points.set n.toNat { s.point n.toNat with quality := .stale } } t))

/-- FAULT_CLEAR by the record of its code (R162), the action summary standing as R164 forms it: a code above 63 is refused;
with the condition ABSENT latch and pending clear; with it PRESENT the code is reasserted, counted, stamped and, if
reportable, pending; otherwise nothing changes. CLEARED or REASSERTED is logged with the record's context if the code is
loggable (R168, R169). While the log is full the clear's own record can raise LOG_OVERWRITE (R169) and its actions
YAW_SEEK_FAILED, so codes 34 and 31, and the log of a part that holds a move, are then not spoken of. -/
def Obligations.FaultClearActsByTheRecord : Prop :=
  ∀ (len : Nat) (k : Byte) (s : State), s.due = [] → Carried len (.faultClear k) →
    (63 < k.toNat → exec (.faultClear len k) s = .next (answered [0x03] s)) ∧
    (k.toNat ≤ 63 → s.faults.length = 64 → s.summary = s.formSummary →
      ((((s.fault k.toNat).condition = false ∧ (s.fault k.toNat).latch = false ∧ (s.fault k.toNat).pending = false) ∨
          ((s.fault k.toNat).condition = true ∧ (s.fault k.toNat).reasserted = true)) →
        exec (.faultClear len k) s = .next (answered [0x00] s)) ∧
      ((s.log.records.length < 64 ∨ (k.toNat ≠ 31 ∧ k.toNat ≠ 34)) →
        ((s.fault k.toNat).condition = false →
          ((s.fault k.toNat).latch = true ∨ (s.fault k.toNat).pending = true) →
          ∃ t, exec (.faultClear len k) s = .next (answered [0x00] t) ∧
            t.fault k.toNat = { s.fault k.toNat with latch := false, pending := false } ∧ ByFaultsOnly s t ∧
            (s.log.records.length < 64 ∨ s.sequencer.phase = .none →
              LogTakes k.toNat .cleared (s.fault k.toNat).context s t)) ∧
        ((s.fault k.toNat).condition = true → (s.fault k.toNat).reasserted = false →
          ∃ t, exec (.faultClear len k) s = .next (answered [0x00] t) ∧
            t.fault k.toNat = { s.fault k.toNat with
              reasserted := true
              count := min 255 ((s.fault k.toNat).count + 1)
              raiseTime := s.clock.seconds
              pending := (s.fault k.toNat).pending || (s.faultEntry k.toNat).reportable } ∧ ByFaultsOnly s t ∧
            (s.log.records.length < 64 ∨ s.sequencer.phase = .none →
              LogTakes k.toNat .reasserted (s.fault k.toNat).context s t))))

/-- FAULT_CLEAR_ALL applies the outcomes of FAULT_CLEAR to every code (R163, R162) and logs CLEARED and REASSERTED of the
loggable ones in order of code; codes 34 and 31, which the log's overflow can raise in the same event, and a log that
overflows are not spoken of. -/
def Obligations.FaultClearAllClearsEveryCode : Prop :=
  ∀ (len : Nat) (s : State), s.due = [] → Carried len .faultClearAll → s.faults.length = 64 →
    ∃ t, exec (.faultClearAll len) s = .next (answered [0x00] t) ∧ ByFaultsOnly s t ∧
      (∀ k, k < 64 → k ≠ 31 → k ≠ 34 →
        ((s.fault k).condition = false → t.fault k = { s.fault k with latch := false, pending := false }) ∧
        ((s.fault k).condition = true → (s.fault k).reasserted = true → t.fault k = s.fault k) ∧
        ((s.fault k).condition = true → (s.fault k).reasserted = false → t.fault k = { s.fault k with
          reasserted := true
          count := min 255 ((s.fault k).count + 1)
          raiseTime := s.clock.seconds
          pending := (s.fault k).pending || (s.faultEntry k).reportable })) ∧
      (s.summary = s.formSummary ∨ s.sequencer.phase = .none → LogTakesAll
        ((List.range 64).filter (fun k => ((s.faultEntry k).log || decide ((s.faultEntry k).severity = 4)) &&
          (if (s.fault k).condition then !(s.fault k).reasserted else (s.fault k).latch || (s.fault k).pending)))
        (fun k => if (s.fault k).condition then .reasserted else .cleared) s t)

/-- LOG_DISCARD (R171): with the offset of the sequence from the oldest record's, modulo 65536, less than the number of
records, the oldest offset + 1 are removed; otherwise none; the next sequence stands. In a log that keeps its law a
sequence removes through its own record, one that no record has removes nothing, and a repeat removes nothing more. The
answer carries the oldest sequence, which is open for an empty log (log entry 20), and the record count. -/
def Obligations.LogDiscardRemovesThroughTheSequence : Prop :=
  ∀ (len : Nat) (q : Word) (s : State), s.due = [] → Carried len (.logDiscard q) → LogLaw s →
    ∃ (kept : List LogRecord) (oldest : Word),
      exec (.logDiscard len q) s = .next (answered ([0x00] ++ wordBytes oldest ++ putU 1 kept.length)
        { s with log := { s.log with records := kept } }) ∧
      (∀ r rest, kept = r :: rest → oldest = r.sequence) ∧
      (∀ r rest, s.log.records = r :: rest →
        kept = if (q - r.sequence).toNat < s.log.records.length then s.log.records.drop ((q - r.sequence).toNat + 1)
          else s.log.records) ∧
      (∀ before r after, s.log.records = before ++ r :: after → r.sequence = q → kept = after) ∧
      ((∀ r ∈ s.log.records, r.sequence ≠ q) → kept = s.log.records) ∧
      (∀ t, exec (.logDiscard len q) { s with log := { s.log with records := kept } } = .next t →
        t.log = { s.log with records := kept })

/-- SET_TIME (R173) sets the seconds, the time-set flag and the phase start, and ends TIME_NOT_SET; while that is absent
nothing else changes. -/
def Obligations.SetTimeSetsTheClock : Prop :=
  ∀ (len : Nat) (seconds : Long) (s : State), s.due = [] → Carried len (.setTime seconds) →
    (s.condition fcTimeNotSet = false → exec (.setTime len seconds) s = .next (answered [0x00]
      { s with clock := { seconds := seconds, phaseStart := s.timebase, timeSet := true } })) ∧
    ∃ t, exec (.setTime len seconds) s = .next (answered [0x00] t) ∧ t.condition fcTimeNotSet = false ∧
      ByFaultsOnly { s with clock := { seconds := seconds, phaseStart := s.timebase, timeSet := true } } t

/-! ## Requests of the yaw blocks and of supervision

Given as commands (log entry 7) with nothing outstanding (log entry 4). -/

/-- SET_HEADING (R122): a count not less than PPR is refused with BAD_ARGUMENT, a step other than 0 with STATE; otherwise
heading count and quality are set, the dead-reckon and forced counts and the window cleared, the outputs of R121 written,
and, the forced limit being 1 or more as its validation has it (R124), YAW_TRACK_LOST is absent where the forced count was
not 0 (log entry 14). The twist and all else but a fault's effects stand.
SET_TWIST (R123): the most negative value is refused with BAD_ARGUMENT, a step other than 0 with STATE; otherwise the
twist is set as given with quality SET, the outputs of R121 are written, and the twist conditions are judged on it (R147).
Heading count and quality and all else but a fault's effects stand. -/
def Obligations.SetHeadingAndTwistSetTheTracker : Prop :=
  (∀ (len : Nat) (count : Word) (s : State), s.due = [] → Carried len (.setHeading count) →
      (s.ppr ≤ count.toNat → exec (.setHeading len count) s = .next (answered [0x03] s)) ∧
      (count.toNat < s.ppr → s.sequencer.step ≠ 0 → exec (.setHeading len count) s = .next (answered [0x04] s)) ∧
      (count.toNat < s.ppr → s.sequencer.step = 0 → 1 ≤ s.forcedLimit → ∀ u : State,
        u = { s with
          tracker := { s.tracker with
            heading := count.toNat, quality := .referenced, deadReckon := 0, forcedRun := 0, window := none }
          points := ((s.points.set 42 { value := ((count.toNat * 3600 / s.ppr : Nat) : Int), quality := .fresh, age := 0 }).set
            43 { value := s.tracker.twist, quality := .fresh, age := 0 }).set
            63 { value := 1, quality := .fresh, age := 0 } } →
        (s.tracker.forcedRun = 0 → exec (.setHeading len count) s = .next (answered [0x00] u)) ∧
        (s.tracker.forcedRun ≠ 0 → ∃ t, exec (.setHeading len count) s = .next (answered [0x00] t) ∧
          t.condition fcTrackLost = false ∧ ByFaultsOnly u t))) ∧
  (∀ (len : Nat) (v : Long) (s : State), s.due = [] → Carried len (.setTwist v) → s.faults.length = 64 →
      (v.toInt = -2147483648 → exec (.setTwist len v) s = .next (answered [0x03] s)) ∧
      (v.toInt ≠ -2147483648 → s.sequencer.step ≠ 0 → exec (.setTwist len v) s = .next (answered [0x04] s)) ∧
      (v.toInt ≠ -2147483648 → s.sequencer.step = 0 → s.ppr ≠ 0 →
        ∃ t, exec (.setTwist len v) s = .next (answered [0x00] t) ∧
          (t.condition fcTwistWarn = true ↔ s.unwindStart ≤ (v.toInt.natAbs : Int)) ∧
          (t.condition fcTwistLimit = true ↔ s.twistHard ≤ (v.toInt.natAbs : Int) ∨ s.decision.blocked = true) ∧
          ByFaultsOnly { s with
            tracker := { s.tracker with twist := v.toInt, twistSet := true }
            points := ((s.points.set 42
                { value := ((s.tracker.heading * 3600 / s.ppr : Nat) : Int), quality := .fresh, age := 0 }).set
              43 { value := v.toInt, quality := .fresh, age := 0 }).set
              63 { value := s.tracker.quality.code, quality := .fresh, age := 0 } } t))

/-- YAW_MODE (R143): a value other than HOLD, AUTO and MANUAL is refused; the mode held (AUTO counting as held in UNWIND and
STORM) changes nothing; any other sets and writes the mode, clears the start-dwell and storm counts and the planning block,
stops the move (R135) and, leaving STORM, ends STORM_MODE. Where neither STORM is left nor a twist condition that is judged
changes presence (R147), the stop is: nothing in NONE or in a stop-sequence step, an entry into the stop-entry step in
another step, the end of a waiting or parked move. -/
def Obligations.YawModeSetsTheModeAndStops : Prop :=
  ∀ (len : Nat) (m : Byte) (s : State), s.due = [] → Carried len (.yawMode m) →
    (m ≠ 0 → m ≠ 1 → m ≠ 4 → exec (.yawMode len m) s = .next (answered [0x03] s)) ∧
    (∀ wanted : YawMode, (m = 0 ∧ wanted = .hold) ∨ (m = 1 ∧ wanted = .auto) ∨ (m = 4 ∧ wanted = .manual) →
      (s.decision.mode = wanted ∨ (wanted = .auto ∧ (s.decision.mode = .unwind ∨ s.decision.mode = .storm)) →
        exec (.yawMode len m) s = .next (answered [0x00] s)) ∧
      (s.decision.mode ≠ wanted → ¬ (wanted = .auto ∧ (s.decision.mode = .unwind ∨ s.decision.mode = .storm)) →
        (∃ t, exec (.yawMode len m) s = .next (answered [0x00] t) ∧ t.decision.mode = wanted ∧
          t.decision.startDwell = 0 ∧ t.decision.stormEnter = 0 ∧ t.decision.stormExit = 0 ∧
          t.decision.blocked = false ∧
          (s.decision.mode = .storm → t.condition fcStormMode = false)) ∧
        (s.decision.mode ≠ .storm →
          s.condition fcTwistLimit = (s.tracker.twistSet && decide (s.twistHard ≤ (s.tracker.twist.natAbs : Int))) →
          (s.decision.blocked = true → s.condition fcTwistWarn =
            (s.tracker.twistSet && decide (s.unwindStart ≤ (s.tracker.twist.natAbs : Int)))) →
          ∀ u : State, u = { s with
              decision := { s.decision with
                mode := wanted, stormEnter := 0, stormExit := 0, startDwell := 0, blocked := false }
              points := s.points.set 59 { value := (m.toNat : Int), quality := .fresh, age := 0 } } →
            ((s.sequencer.phase = .none ∨
                (s.sequencer.phase = .running ∧ (yawStep s.yst s.sequencer.step).stop = true)) →
              exec (.yawMode len m) s = .next (answered [0x00] u)) ∧
            (s.sequencer.phase = .running → (yawStep s.yst s.sequencer.step).stop = false →
              exec (.yawMode len m) s = .next (answered [0x00] (enterStep s.stopEntryStep u))) ∧
            (s.sequencer.phase = .waiting ∨ s.sequencer.phase = .parked →
              exec (.yawMode len m) s = .next (answered [0x00] (endMove .stopped u))))))

/-- YAW_TARGET's refusals and the cases that plan nothing (R144, steps 1 to 5): BAD_ARGUMENT for a heading above 3599 or
another choice; a repeat of the target of the MANUAL move held changes nothing; STATE for another mode, a move held or the
yaw hold; BUSY for a yaw exchange pending; STATE with YAW_NOT_READY for an unready heading or twist; and a target within the
stop band is kept as the last manual target and plans nothing. -/
def Obligations.YawTargetJudgesInOrder : Prop :=
  ∀ (len : Nat) (heading : Word) (choice : Byte) (s : State), s.due = [] → Carried len (.yawTarget heading choice) →
    (3599 < heading.toNat ∨ 2 < choice.toNat →
      exec (.yawTarget len heading choice) s = .next (answered [0x03] s)) ∧
    (∀ way : TurnChoice, heading.toNat ≤ 3599 →
      (choice = 0 ∧ way = .cw) ∨ (choice = 1 ∧ way = .ccw) ∨ (choice = 2 ∧ way = .short) →
      (s.decision.mode = .manual ∧ s.sequencer.record.isSome = true ∧
          s.decision.lastTarget = some { heading := heading.toNat, choice := way } →
        exec (.yawTarget len heading choice) s = .next (answered [0x00] s)) ∧
      (s.decision.mode ≠ .manual ∨ s.summary.yawHold = true ∧ s.sequencer.record = none ∨
          (s.sequencer.record.isSome = true ∧
            s.decision.lastTarget ≠ some { heading := heading.toNat, choice := way }) →
        exec (.yawTarget len heading choice) s = .next (answered [0x04] s)) ∧
      (s.decision.mode = .manual → s.sequencer.record = none → s.summary.yawHold = false →
        (s.yawExchangePending = true → exec (.yawTarget len heading choice) s = .next (answered [0x06] s)) ∧
        (s.yawExchangePending = false →
          (s.tracker.quality = .unreferenced ∨ s.tracker.twistSet = false →
            exec (.yawTarget len heading choice) s = .next (answered [0x04] (raise fcNotReady
              ((if s.tracker.quality = .unreferenced then 1 else 0) + (if s.tracker.twistSet then 0 else 2)) s))) ∧
          (s.tracker.quality ≠ .unreferenced → s.tracker.twistSet = true → s.ppr ≠ 0 →
            ∀ c : Int, IsTargetCount s heading.toNat way c →
              (c.natAbs : Int) ≤ ((s.stopBand * s.ppr / 3600 : Nat) : Int) →
              exec (.yawTarget len heading choice) s = .next (answered [0x00]
                { s with decision := { s.decision with
                    lastTarget := some { heading := heading.toNat, choice := way } } })))))

/-- YAW_TARGET beyond the stop band (R144 steps 5 and 6, R140, R133), in mode MANUAL and ready, with no move, hold or yaw
exchange and the planning block's end changing no twist condition (R147): the target count, or for SHORT the other way round,
is taken if it keeps the planned end within twist hard, and the move is handed to the sequencer; else the request is refused
with STATE and the planning block set.
The planning of a decision update. The update refreshes YAW_MODE, filters wind and misalignment where the commit wrote the
point or it is FORCED and counts the storm (R138, R139, R142), then judges the twist conditions, changes the mode and plans.
The mode changes by the table of R142. In AUTO and STORM a wind direction taken counts the start dwell and plans the latest
misalignment; in UNWIND the unwinding move is planned (R141, R142). A plan judges its conditions in order (R140): a count of
0, a closed planning, readiness, and for all but UNWIND the twist both ways round. -/
def Obligations.YawTargetPlansTheMove : Prop :=
  (∀ (len : Nat) (heading : Word) (choice : Byte) (way : TurnChoice) (s : State) (c : Int), s.due = [] →
    Carried len (.yawTarget heading choice) → heading.toNat ≤ 3599 →
    (choice = 0 ∧ way = .cw) ∨ (choice = 1 ∧ way = .ccw) ∨ (choice = 2 ∧ way = .short) →
    s.decision.mode = .manual → s.sequencer.record = none → s.sequencer.phase = .none → s.summary.yawHold = false →
    s.yawExchangePending = false → s.tracker.quality ≠ .unreferenced → s.tracker.twistSet = true → s.ppr ≠ 0 →
    s.condition fcTwistLimit = decide (s.twistHard ≤ (s.tracker.twist.natAbs : Int)) →
    (s.decision.blocked = true → s.condition fcTwistWarn = decide (s.unwindStart ≤ (s.tracker.twist.natAbs : Int))) →
    IsTargetCount s heading.toNat way c → ((s.stopBand * s.ppr / 3600 : Nat) : Int) < (c.natAbs : Int) →
    (∀ d : Int,
      ((((s.tracker.twist + c).natAbs : Int) < s.twistHard ∧ d = c) ∨
        (way = .short ∧ s.twistHard ≤ ((s.tracker.twist + c).natAbs : Int) ∧
          d = (if 0 < c then c - s.ppr else c + s.ppr) ∧ ((s.tracker.twist + d).natAbs : Int) < s.twistHard)) →
      exec (.yawTarget len heading choice) s = .next (answered [0x00]
        (withMove { direction := if 0 < d then 1 else -1, remaining := d, target := .heading, mode := .manual,
                    driveMask := figure s.ycf 27 &&& figure s.ycf 2 }
          { s with decision := { s.decision with
              lastTarget := some { heading := heading.toNat, choice := way } } }))) ∧
    (s.twistHard ≤ ((s.tracker.twist + c).natAbs : Int) →
      (way = .short → s.twistHard ≤ ((s.tracker.twist + (if 0 < c then c - s.ppr else c + s.ppr)).natAbs : Int)) →
      ∃ t, exec (.yawTarget len heading choice) s = .next (answered [0x04] t) ∧ t.decision.blocked = true ∧
        t.sequencer = s.sequencer ∧ ByFaultsOnly { s with decision := { s.decision with blocked := true } } t)) ∧
  (∀ (written : List Nat) (s : State) (wind direction : Bool) (v e : Int), v = (s.point 5).value →
    (wind = true ↔ 5 ∈ written ∨ (s.point 5).quality = .forced) →
    (direction = true ↔ 4 ∈ written ∨ (s.point 4).quality = .forced) →
    -1800 ≤ e → e ≤ 1799 → 3600 ∣ e - ((s.point 4).value - (s.point 42).value) →
    decisionUpdate written s = planning direction (modeChanges wind (judgeTwist { s with
      points := s.points.set 59 { value := s.decision.mode.code, quality := .fresh, age := 0 }
      decision := { s.decision with
        wind := if wind then some (match s.decision.wind with
            | none => v
            | some w => w + Int.tdiv ((v - w) * s.beta) 256) else s.decision.wind
        stormEnter := if wind then (if s.stormEnterSpeed ≤ v then min 65535 (s.decision.stormEnter + 1) else 0)
          else s.decision.stormEnter
        stormExit := if wind then (if v < s.stormExitSpeed then min 65535 (s.decision.stormExit + 1) else 0)
          else s.decision.stormExit
        misalignment := if direction then
            s.decision.misalignment + Int.tdiv ((e - s.decision.misalignment) * s.beta) 256
          else s.decision.misalignment } }))) ∧
  (∀ (wind : Bool) (s t : State) (v twist : Int) (changed : YawMode → State), t = modeChanges wind s →
    v = (s.point 5).value → twist = (s.tracker.twist.natAbs : Int) →
    (∀ m, changed m = { s with
      decision := { s.decision with mode := m, stormEnter := 0, stormExit := 0 }
      points := s.points.set 59 { value := m.code, quality := .fresh, age := 0 } }) →
    ∀ storm unwind : Prop, (storm ↔ wind = true ∧ s.stormEnterSpeed ≤ v ∧ s.stormDwell ≤ s.decision.stormEnter) →
    (unwind ↔ s.sequencer.phase = .none ∧ s.tracker.twistSet = true ∧ s.unwindStart ≤ twist ∧
      ∃ w, s.decision.wind = some w ∧ w < s.unwindWindMax) →
    (s.decision.mode = .auto →
      (storm → t.decision.mode = .storm ∧ ByFaultsOnly (changed .storm) t ∧
        (s.faults.length = 64 → t.condition fcStormMode = true ∧
          (s.condition fcStormMode = false → (t.fault fcStormMode).context = v))) ∧
      (¬ storm → unwind → t = changed .unwind) ∧ (¬ storm → ¬ unwind → t = s)) ∧
    (s.decision.mode = .storm →
      (wind = true ∧ v < s.stormExitSpeed ∧ s.stormDwell ≤ s.decision.stormExit →
        t.decision.mode = .auto ∧ t.condition fcStormMode = false ∧ ByFaultsOnly (changed .auto) t) ∧
      (¬ (wind = true ∧ v < s.stormExitSpeed ∧ s.stormDwell ≤ s.decision.stormExit) → t = s)) ∧
    (s.decision.mode = .unwind →
      (s.sequencer.phase = .none ∧ twist ≤ s.unwindEnd → t = changed .auto) ∧
      (¬ (s.sequencer.phase = .none ∧ twist ≤ s.unwindEnd) → t = s)) ∧
    (s.decision.mode ∉ [.auto, .storm, .unwind] → t = s)) ∧
  (∀ (direction : Bool) (s : State) (e : Int) (count : Nat) (dwell : Nat → State),
    -1800 ≤ e → e ≤ 1799 → 3600 ∣ e - ((s.point 4).value - (s.point 42).value) →
    count = min 65535 (s.decision.startDwell + 1) →
    (∀ n, dwell n = { s with decision := { s.decision with startDwell := n } }) →
    (s.decision.mode = .auto ∨ s.decision.mode = .storm →
      (direction = false → planning direction s = s) ∧
      (direction = true →
        (s.sequencer.record.isSome = true ∨ (s.decision.rest.isSome = true ∧ s.decision.mode = .auto) ∨
            (s.decision.misalignment.natAbs : Int) < s.startThreshold →
          planning direction s = dwell 0) ∧
        (s.sequencer.record = none → (s.decision.rest = none ∨ s.decision.mode = .storm) →
          s.startThreshold ≤ (s.decision.misalignment.natAbs : Int) →
          (count < (if s.decision.mode = .storm then 1 else s.startDwellLimit) → planning direction s = dwell count) ∧
          ((if s.decision.mode = .storm then 1 else s.startDwellLimit) ≤ count → ∃ u,
            u = planMove (Int.tdiv (e * s.ppr) 3600) .heading false (dwell count) ∧
            planning direction s = { u with decision := { u.decision with startDwell := 0 } })))) ∧
    (s.decision.mode = .unwind →
      (s.sequencer.phase = .none → s.decision.rest = none → planning direction s =
        planMove (-s.tracker.twist.sign * ((s.tracker.twist.natAbs : Int) - s.unwindEnd)) .twist true s) ∧
      (s.sequencer.phase ≠ .none ∨ s.decision.rest.isSome = true → planning direction s = s)) ∧
    (s.decision.mode ∉ [.auto, .storm, .unwind] → planning direction s = s)) ∧
  (∀ (c other : Int) (target : TargetKind) (exempt : Bool) (s t : State), t = planMove c target exempt s →
    other = (if 0 < c then c - s.ppr else c + s.ppr) →
    (c = 0 ∨ s.sequencer.phase ≠ .none ∨ s.summary.yawHold = true ∨ s.yawExchangePending = true → t = s) ∧
    (c ≠ 0 → s.sequencer.phase = .none → s.summary.yawHold = false → s.yawExchangePending = false →
      (s.tracker.quality = .unreferenced ∨ s.tracker.twistSet = false → t = raise fcNotReady
        ((if s.tracker.quality = .unreferenced then 1 else 0) + (if s.tracker.twistSet then 0 else 2)) s) ∧
      (s.tracker.quality ≠ .unreferenced → s.tracker.twistSet = true →
        (s.condition fcTwistLimit = decide (s.twistHard ≤ (s.tracker.twist.natAbs : Int)) →
          (s.decision.blocked = true →
            s.condition fcTwistWarn = decide (s.unwindStart ≤ (s.tracker.twist.natAbs : Int))) →
          ∀ way : Int,
            (exempt = true ∧ way = c) ∨
              (exempt = false ∧ ((s.tracker.twist + c).natAbs : Int) < s.twistHard ∧ way = c) ∨
              (exempt = false ∧ s.twistHard ≤ ((s.tracker.twist + c).natAbs : Int) ∧
                ((s.tracker.twist + other).natAbs : Int) < s.twistHard ∧ way = other) →
            t = withMove { direction := if 0 < way then 1 else -1, remaining := way, target := target,
                           mode := s.decision.mode,
                           driveMask := figure s.ycf (match s.decision.mode with
                             | .storm => 26 | .manual => 27 | .seek => 27 | _ => 25) &&& figure s.ycf 2 } s) ∧
        (exempt = false → s.twistHard ≤ ((s.tracker.twist + c).natAbs : Int) →
          s.twistHard ≤ ((s.tracker.twist + other).natAbs : Int) →
          t.decision.blocked = true ∧ t.sequencer = s.sequencer ∧
          (s.faults.length = 64 → t.condition fcTwistLimit = true) ∧
          ByFaultsOnly { s with decision := { s.decision with blocked := true } } t))))

/-- YAW_SEEK (R145): nothing in SEEK; STATE for a move held or the yaw hold; BUSY for a yaw exchange pending; STATE with
YAW_NOT_READY, context 2, for an unset twist; otherwise, the planning block's end changing no twist condition (R147) and the
mode not STORM, a move of floor(PPR × 11 / 10) counts, clockwise if that keeps within twist hard, else counter-clockwise, is
handed to the sequencer in mode SEEK; if neither keeps within, STATE and the planning block. -/
def Obligations.YawSeekPlansOneTurn : Prop :=
  ∀ (len : Nat) (s : State), s.due = [] → Carried len .yawSeek →
    (s.decision.mode = .seek → exec (.yawSeek len) s = .next (answered [0x00] s)) ∧
    (s.decision.mode ≠ .seek →
      (s.sequencer.record.isSome = true ∨ s.summary.yawHold = true →
        exec (.yawSeek len) s = .next (answered [0x04] s)) ∧
      (s.sequencer.record = none → s.summary.yawHold = false →
        (s.yawExchangePending = true → exec (.yawSeek len) s = .next (answered [0x06] s)) ∧
        (s.yawExchangePending = false →
          (s.tracker.twistSet = false →
            exec (.yawSeek len) s = .next (answered [0x04] (raise fcNotReady 2 s))) ∧
          (s.tracker.twistSet = true → s.decision.mode ≠ .storm → s.sequencer.phase = .none →
            s.condition fcTwistLimit = decide (s.twistHard ≤ (s.tracker.twist.natAbs : Int)) →
            (s.decision.blocked = true →
              s.condition fcTwistWarn = decide (s.unwindStart ≤ (s.tracker.twist.natAbs : Int))) →
            ∀ n : Int, n = ((s.ppr * 11 / 10 : Nat) : Int) →
              (∀ d : Int,
                ((((s.tracker.twist + n).natAbs : Int) < s.twistHard ∧ d = n) ∨
                  (s.twistHard ≤ ((s.tracker.twist + n).natAbs : Int) ∧ d = -n ∧
                    ((s.tracker.twist - n).natAbs : Int) < s.twistHard)) →
                exec (.yawSeek len) s = .next (answered [0x00]
                  (withMove { direction := if 0 < d then 1 else -1, remaining := d, target := .heading, mode := .seek,
                              driveMask := figure s.ycf 27 &&& figure s.ycf 2 }
                    { s with
                      decision := { s.decision with mode := .seek, stormEnter := 0, stormExit := 0 }
                      points := s.points.set 59 { value := 5, quality := .fresh, age := 0 } }))) ∧
              (s.twistHard ≤ ((s.tracker.twist + n).natAbs : Int) →
                s.twistHard ≤ ((s.tracker.twist - n).natAbs : Int) →
                ∃ t, exec (.yawSeek len) s = .next (answered [0x04] t) ∧ t.decision.blocked = true ∧
                  t.decision.mode = s.decision.mode ∧ t.sequencer = s.sequencer ∧
                  ByFaultsOnly { s with decision := { s.decision with blocked := true } } t)))))

/-- ARM_SUPERVISION (R176): once armed a repeat changes nothing; in PASS it is refused with STATE; otherwise it arms,
captures the supervision limit of the ACTIVE ITP and starts the timer. Each of these answers carries the captured limit; that
one from a slot too short for it does not is log entry 33's choice. -/
def Obligations.ArmSupervisionCapturesTheLimit : Prop :=
  ∀ (len : Nat) (s : State), s.due = [] → Carried len .armSupervision →
    (s.supervision.armed = true →
      exec (.armSupervision len) s = .next (answered ([0x00] ++ putU 4 s.supervision.limit) s)) ∧
    (s.supervision.armed = false → s.opState = .pass →
      exec (.armSupervision len) s = .next (answered ([0x04] ++ putU 4 s.supervision.limit) s)) ∧
    (s.supervision.armed = false → s.opState ≠ .pass → ∀ limit : Nat,
      limit = figure s.itp 0 * 65536 + figure s.itp 1 →
      exec (.armSupervision len) s = .next (answered ([0x00] ++ putU 4 limit)
        { s with supervision := { s.supervision with armed := true, limit := limit, timer := some s.timebase } }))

/-! ## Ports and the P1 arbiter

What an event brings about at the same moment, where the table has a row for it, stands in the list `due` behind it (log
entry 4); the statements of this and the following groups are made where nothing is outstanding, or where their own
consequence alone is. -/

/-- LINE_LOCK_GAINED and LINE_LOCK_LOST (R1): the line state changes; on a loss a frame in passage ends at once as
truncated, which is a bad end; a frame arriving in the hold buffer gets its end there, truncated (R22), and where it has been
cut on P1 already (R7) the buffer becomes EMPTY and an IDLE P1 takes what waits; a dropped frame ends with RING_OVERRUN, its
cycle count the context, or 0 if fewer than two bytes arrived (R23, log entry 17). With no frame arriving nothing else
changes. -/
def Obligations.LineLockSetsTheLineAndTruncates : Prop :=
  ∀ s : State, s.due = [] →
    exec (.lineLockGained .p0) s = .next { s with rx0 := { s.rx0 with line := .up } } ∧
    exec (.lineLockGained .p2) s = .next { s with rx2 := { s.rx2 with line := .up } } ∧
    (s.rx0.mode = .none ∨ s.rx0.mode = .discarding →
      exec (.lineLockLost .p0) s = .next { s with rx0 := { s.rx0 with line := .down, mode := .none } }) ∧
    (s.rx0.mode = .passing → ∃ t, exec (.lineLockLost .p0) s = .next t ∧
      OutBadEnd { s with rx0 := { s.rx0 with line := .down, mode := .none } } t) ∧
    (s.rx0.mode = .buffering → s.hold.leaving = false →
      exec (.lineLockLost .p0) s = .next { s with
        rx0 := { s.rx0 with line := .down, mode := .none }, hold := { s.hold with ended := some true } }) ∧
    (s.rx0.mode = .buffering → s.hold.leaving = true →
      (s.outLane.isOpen = true → s.outLane.source = .holdBuffer →
        exec (.lineLockLost .p0) s = .next { s with
          rx0 := { s.rx0 with line := .down, mode := .none }, hold := { s.hold with ended := some true } }) ∧
      (s.outLane.isOpen = false ∨ s.outLane.source ≠ .holdBuffer → ∀ u : State, u = { s with
          rx0 := { s.rx0 with line := .down, mode := .none }
          hold := { occupied := false, bytes := [], stored := 0, overrun := false, ended := none, leaving := false } } →
        (s.p1.busy = true ∨ s.supervision.waiting = false → exec (.lineLockLost .p0) s = .next u) ∧
        (s.p1.busy = false → s.supervision.waiting = true → s.opState ≠ .island →
          exec (.lineLockLost .p0) s = .next { u with supervision := { s.supervision with waiting := false } }) ∧
        (s.p1.busy = false → s.supervision.waiting = true → s.opState = .island →
          exec (.lineLockLost .p0) s = .next { u with
            p1 := { busy := true, bytes := [], ended := false }
            outLane := s.outLane.opened .island
            islandBytes := islandFrame s.itp s.islandCycle ++ checkBytes (crc16 (islandFrame s.itp s.islandCycle))
            supervision := { s.supervision with waiting := false } }))) ∧
    (s.rx0.mode = .dropping → ∀ c : Nat,
      c = (if 2 ≤ s.rx0.seen.length then (s.rx0.seen.getD 1 0).toNat % 128 else 0) →
      exec (.lineLockLost .p0) s =
        .next (raise fcOverrun c { s with rx0 := { line := .down, mode := .none, seen := [] } })) ∧
    (s.rx2.mode ≠ .passing →
      exec (.lineLockLost .p2) s = .next { s with rx2 := { s.rx2 with line := .down, mode := .none } }) ∧
    (s.rx2.mode = .passing → ∃ t, exec (.lineLockLost .p2) s = .next t ∧
      RetBadEnd { s with rx2 := { s.rx2 with line := .down, mode := .none } } t)

/-- A start delimiter (R1, R22, R23). At P0 while its line is UP and no frame is arriving: dropped if the hold buffer is
OCCUPIED, taken into it if P1 is BUSY, else cut through to P1, which is BUSY from this moment on (log entry 16; R22 has it so
from the first byte sent). At P2: opened on the return lane. A frame still arriving is closed as truncated first. While the
line is DOWN nothing happens.
FRAME_DROPPED (R23): at the end delimiter of a frame being dropped RING_OVERRUN is raised with the frame's cycle count,
or 0 if fewer than two bytes arrived; the frame reaches no engine. With none being dropped nothing happens (log entry 9). -/
def Obligations.StartDelimiterIsArbitratedOrDropped : Prop :=
  (∀ s : State, s.due = [] →
      (s.rx0.line = .down → exec .startDelimiterAtP0 s = .next s) ∧
      (s.rx0.line = .up → (s.rx0.mode = .none ∨ s.rx0.mode = .discarding) →
        (s.hold.occupied = true →
          exec .startDelimiterAtP0 s = .next { s with rx0 := { s.rx0 with mode := .dropping, seen := [] } }) ∧
        (s.hold.occupied = false → s.p1.busy = true →
          exec .startDelimiterAtP0 s = .next { s with
            rx0 := { s.rx0 with mode := .buffering }
            hold := { occupied := true, bytes := [], stored := 0, overrun := false, ended := none, leaving := false } }) ∧
        (s.hold.occupied = false → s.p1.busy = false →
          exec .startDelimiterAtP0 s = .next { s with
            rx0 := { s.rx0 with mode := .passing }
            p1 := { busy := true, bytes := [], ended := false }
            outLane := s.outLane.opened .p0 })) ∧
      (s.rx0.line = .up → s.rx0.mode = .passing →
        ∃ u, OutBadEnd { s with rx0 := { s.rx0 with mode := .none } } u ∧
          exec .startDelimiterAtP0 s = exec .startDelimiterAtP0 u) ∧
      (s.rx0.line = .up → s.rx0.mode = .buffering → s.hold.occupied = true → s.hold.leaving = false →
        exec .startDelimiterAtP0 s = .next { s with
          rx0 := { s.rx0 with mode := .dropping, seen := [] }, hold := { s.hold with ended := some true } }) ∧
      (s.rx2.line = .down → exec .startDelimiterAtP2 s = .next s) ∧
      (s.rx2.line = .up → s.rx2.mode ≠ .passing →
        exec .startDelimiterAtP2 s = .next { s with
          rx2 := { s.rx2 with mode := .passing }, retLane := s.retLane.opened .p0 }) ∧
      (s.rx2.line = .up → s.rx2.mode = .passing →
        ∃ u, RetBadEnd { s with rx2 := { s.rx2 with mode := .none } } u ∧
          exec .startDelimiterAtP2 s = .next { u with
            rx2 := { u.rx2 with mode := .passing }, retLane := u.retLane.opened .p0 })) ∧
  (∀ s : State, s.due = [] →
      (s.rx0.mode ≠ .dropping → exec .frameDropped s = .next s) ∧
      (s.rx0.mode = .dropping → ∀ c : Nat,
        c = (if 2 ≤ s.rx0.seen.length then (s.rx0.seen.getD 1 0).toNat % 128 else 0) →
        exec .frameDropped s = .next (raise fcOverrun c { s with rx0 := { s.rx0 with mode := .none, seen := [] } })))

/-- P1 becoming IDLE (R22): a held frame that has not begun begins through the out-lane engine; else, the buffer EMPTY, a
waiting island frame begins in ISLAND and is abandoned in any other state. P1 is BUSY again as the frame begins (log entry
16). While P1 is IDLE, or has not sent its end delimiter, the command has no occasion and nothing happens (log entry 9).
The bytes of an island frame before its check are those of a frame of kind ISLAND with the template's slots in order, each
with its tag and its length of zero bytes (R181, R185). -/
def Obligations.IdleP1TakesItsNextFrame : Prop :=
  (∀ (itp : List Word) (cycle : Nat), islandFrame itp cycle =
    frameBody 0xA5 (BitVec.ofNat 8 cycle) ((List.range (figure itp 4)).map (fun k =>
      (BitVec.ofNat 8 (figure itp (5 + k) / 256), List.replicate (figure itp (5 + k) % 256) 0)))) ∧
  ∀ s : State, s.due = [] →
    (s.p1.busy = false ∨ s.p1.ended = false → exec .p1BecomesIdle s = .next s) ∧
    (s.p1.busy = true → s.p1.ended = true →
      (s.hold.occupied = true → s.hold.leaving = false →
        exec .p1BecomesIdle s = .next { s with
          p1 := { busy := true, bytes := [], ended := false }
          hold := { s.hold with leaving := true }
          outLane := s.outLane.opened .holdBuffer }) ∧
      (s.hold.occupied = true → s.hold.leaving = true →
        exec .p1BecomesIdle s = .next { s with p1 := { s.p1 with busy := false } }) ∧
      (s.hold.occupied = false → s.supervision.waiting = false →
        exec .p1BecomesIdle s = .next { s with p1 := { s.p1 with busy := false } }) ∧
      (s.hold.occupied = false → s.supervision.waiting = true → s.opState ≠ .island →
        exec .p1BecomesIdle s = .next { s with
          p1 := { s.p1 with busy := false }, supervision := { s.supervision with waiting := false } }) ∧
      (s.hold.occupied = false → s.supervision.waiting = true → s.opState = .island →
        exec .p1BecomesIdle s = .next { s with
          p1 := { busy := true, bytes := [], ended := false }
          outLane := s.outLane.opened .island
          islandBytes := islandFrame s.itp s.islandCycle ++ checkBytes (crc16 (islandFrame s.itp s.islandCycle))
          supervision := { s.supervision with waiting := false } }))

/-! ## Bytes of a frame -/

/-- A byte of a frame in passage on the out lane (R4, R7, R8): it is received; behind it all but the two bytes held last, or
those in the slot buffer, go to P1, so that sent and held bytes together grow by exactly this byte; the fifth byte of a frame
of kind CYCLE or ISLAND brings the frame start, the 1025th the cut, and BringsDue says when a slot's entry falls due (R31; its 60 bytes are log entry 10's). Bytes from the hold buffer and of an island frame are
taken from their front in the same way. Nothing outside P1, the engine and what follows at once changes.
Fed a frame byte by byte, an engine of either lane finds it sound exactly when it is one (R6); of a frame whose framing is
consistent it finds each slot's length byte and last payload byte (R5), and notes every misplaced service slot by its
ordinal, in an active pass every tag, and on the out lane the request in a last service slot of 1 to 60 bytes of a frame of
kind CYCLE (R10, R19, R201). -/
def Obligations.OutLaneByteIsHeldBackAndForwarded : Prop :=
  (∀ (source : ByteSource) (b : Byte) (s u : State), s.due = [] →
    ((source = .p0 b ∧ s.rx0.mode = .passing ∧ u = s) ∨
      (source = .holdBuffer ∧ s.outLane.isOpen = true ∧ s.outLane.source = .holdBuffer ∧
        ∃ rest, s.hold.bytes = b :: rest ∧ u = { s with hold := { s.hold with bytes := rest } }) ∨
      (source = .island ∧ s.outLane.isOpen = true ∧ s.outLane.source = .island ∧
        ∃ rest, s.islandBytes = b :: rest ∧ u = { s with islandBytes := rest })) →
    exec (.frameByte source) s = .next (feedByte .out b u) ∧
    (1024 ≤ s.outLane.recv.length →
      exec (.frameByte source) s = .next { u with due := [.overlengthCut .out] }) ∧
    (s.outLane.recv.length < 1024 → ∃ t, exec (.frameByte source) s = .next t ∧
      t.outLane.recv = s.outLane.recv ++ [b] ∧
      t.p1.bytes ++ t.outLane.held = s.p1.bytes ++ s.outLane.held ++ [s.outLane.overlay.headD b] ∧
      t.outLane.held.length = min (s.outLane.held.length + 1) (max 2 t.outLane.buffered) ∧
      (s.outLane.recv.length = 4 → s.outLane.parse = .header → t.due = [.frameStart .out]) ∧
      BringsDue .out b s t ∧
      t = { u with p1 := { s.p1 with bytes := t.p1.bytes }, outLane := t.outLane, due := t.due })) ∧
  (∀ (lane : Lane) (source : OutSource) (active : Bool) (s u : State) (f : List Byte → Engine),
    u = s.setEngine lane { (s.engine lane).opened source with active := active } →
    (∀ bytes, f bytes = (bytes.foldl (fun v b => feedByte lane b v) u).engine lane) →
    (∀ bytes : List Byte, bytes.length ≤ 1024 → ((f bytes).sound = true ↔ FrameSound bytes)) ∧
    (∀ (kind cycle : Byte) (slots : List (Byte × List Byte)) (e : Engine), FrameFits kind slots →
      e = f (frameBody kind cycle slots) →
      e.staging.misplaced = ((List.range slots.length).filter (fun i =>
        decide (i + 1 < slots.length) && (slots.map Prod.fst)[i]? == some 0xFE)).map (· + 1) ∧
      (∀ tag, tag ∈ e.staging.tags ↔ active = true ∧ tag ∈ slots.map Prod.fst) ∧
      (∀ before tag payload after n, slots = before ++ (tag, payload) :: after →
        n = 5 + (before.map (fun x => 2 + x.2.length)).sum →
        (f ((frameBody kind cycle slots).take (n + 1))).parse = .length tag ∧
        (f ((frameBody kind cycle slots).take (n + 1))).ordinal = before.length + 1 ∧
        (payload ≠ [] → (f ((frameBody kind cycle slots).take (n + 1 + payload.length))).parse =
          .payload tag payload.length 1)) ∧
      (∀ before tag payload, slots = before ++ [(tag, payload)] →
        e.staging.request =
          if lane = .out ∧ kind = 0x5A ∧ tag = 0xFE ∧ 1 ≤ payload.length ∧ payload.length ≤ 60 then some payload
          else none)))

/-- A byte at P2 in a frame in passage (R4, R7, R8, R21): as on the out lane, to P3, which begins the frame at its first byte
and sends nothing of a frame of kind ISLAND; BringsDue says when report contents, service response and a slot's entry fall
due (R19, R20, R31, log entry 10). Bytes at a port that drops or discards a frame, or fills the hold buffer (R22,
R23, R7), reach no engine; a byte where no frame arrives has no occasion and changes nothing (log entry 9). -/
def Obligations.OtherBytesGoToP3OrTheBufferOrNowhere : Prop :=
  ∀ (b : Byte) (s : State), s.due = [] →
    (s.rx2.mode ≠ .passing → exec (.frameByte (.p2 b)) s = .next s) ∧
    (s.rx2.mode = .passing → 1024 ≤ s.retLane.recv.length →
      exec (.frameByte (.p2 b)) s = .next { s with due := [.overlengthCut .ret] }) ∧
    (s.rx2.mode = .passing → s.retLane.recv.length < 1024 → ∃ t, exec (.frameByte (.p2 b)) s = .next t ∧
      t.retLane.recv = s.retLane.recv ++ [b] ∧
      (t.retLane.kind ≠ kindIsland → t.p3.bytes ++ t.retLane.held =
        (if s.retLane.recv = [] then [] else s.p3.bytes) ++ s.retLane.held ++ [s.retLane.overlay.headD b]) ∧
      (t.retLane.kind = kindIsland → t.p3 = s.p3) ∧
      t.retLane.held.length = min (s.retLane.held.length + 1) (max 2 t.retLane.buffered) ∧
      BringsDue .ret b s t ∧
      t = { s with p3 := t.p3, retLane := t.retLane, due := t.due }) ∧
    (s.rx0.mode = .none ∨ s.rx0.mode = .discarding → exec (.frameByte (.p0 b)) s = .next s) ∧
    (s.rx0.mode = .dropping → exec (.frameByte (.p0 b)) s =
      .next { s with rx0 := { s.rx0 with seen := (s.rx0.seen ++ [b]).take 2 } }) ∧
    (s.rx0.mode = .buffering → s.hold.stored < 1024 → exec (.frameByte (.p0 b)) s =
      .next { s with hold := { s.hold with bytes := s.hold.bytes ++ [b], stored := s.hold.stored + 1 } }) ∧
    (s.rx0.mode = .buffering → 1024 ≤ s.hold.stored → exec (.frameByte (.p0 b)) s =
      .next { s with hold := { s.hold with overrun := true } })

/-! ## Frame starts

Both are consequences of the fifth byte, taken from the list `due` (log entry 4). -/

/-- OUT_FRAME_START (R15, R16): the cycle advance; MASTER_RESTART at the restart flag; the swap of a scheduled exchange
before the ageing; every input and free point aged against the limits of the ACTIVE slot map then standing (R42); the oldest
record of a full list pushed out, a frame in passage bound to it keeping it (R17, log entry 11); the frame bound to the
ACTIVE generation, with an empty staging set and the activity of the operating state (R5, R10). With the banks IDLE nothing
else changes but by raises. -/
def Obligations.OutFrameStartAgesAndBinds : Prop :=
  ∀ s : State, s.due = [.frameStart .out] → s.points.length = 256 →
    ∀ (count advance : Nat), count = (s.outLane.byteAt 1).toNat % 128 →
      advance = (if (s.outLane.byteAt 1).getLsbD 7 then 1
        else match s.prevCycle with
          | none => 1
          | some p => if (count + 128 - p) % 128 = 0 then 1 else (count + 128 - p) % 128) →
      ∃ t, exec .outFrameStart s = .next t ∧ t.due = [] ∧ t.prevCycle = some count ∧
        t.banks.generation =
          (match s.banks.status with | .scheduled _ => s.banks.generation + 1 | _ => s.banks.generation) ∧
        (∀ n, n < 256 → (n < 32 ∨ 63 < n) → t.point n = { s.point n with
          age := min 255 ((s.point n).age + advance)
          quality := if (s.point n).quality = .fresh ∧ stalenessLimit t.smt n < min 255 ((s.point n).age + advance)
            then .stale else (s.point n).quality }) ∧
        t.flight = (if 4 ≤ s.flight.length then s.flight.drop 1 else s.flight) ++
          [{ id := s.nextFlight, cycle := count, generation := t.banks.generation,
             origin := if s.outLane.source = .island then .island else .master, outcome := .pending, response := none }] ∧
        t.outLane = { s.outLane with
          started := true, active := decide (s.opState ≠ .pass), cycle := count, generation := t.banks.generation,
          record := some s.nextFlight,
          staging := { values := [], faults := [], misplaced := [], tags := [], request := none } } ∧
        ((s.outLane.byteAt 1).getLsbD 7 = true → s.faults.length = 64 →
          (t.fault fcMasterRestart).context = count) ∧
        (4 ≤ s.flight.length → s.faults.length = 64 →
          ((t.fault fcLatency).context = ((s.flight.head?.map (·.cycle)).getD 0 : Nat))) ∧
        t.opState = s.opState ∧ t.clock = s.clock ∧ t.supervision = s.supervision ∧
        t.retLane = (if 4 ≤ s.flight.length then
          { s.retLane with binding := keptBinding (s.flight.take 1) s.retLane.binding } else s.retLane) ∧ t.p1 = s.p1 ∧ t.p3 = s.p3 ∧ t.hold = s.hold ∧ t.carrier = s.carrier ∧
        t.outBad = s.outBad ∧ t.retBad = s.retBad ∧ t.timebase = s.timebase ∧ t.inputs = s.inputs ∧
        t.pending = s.pending ∧ t.response = s.response ∧
        (s.banks.status = .idle → ByFaultsOnly { s with
          due := []
          prevCycle := some count
          points := s.points.mapIdx (fun n p => { p with
            age := min 255 (p.age + advance)
            quality := if p.quality = .fresh ∧ stalenessLimit s.smt n < min 255 (p.age + advance) then .stale
              else p.quality })
          outLane := t.outLane
          retLane := t.retLane
          flight := t.flight
          nextFlight := s.nextFlight + 1 } t)

/-- RETURN_FRAME_START (R17, R18): the oldest record of the frame's cycle count and origin binds it to its generation;
without one the soft-reset carrier of that count binds it to ACTIVE and is cleared; else it is unbound, on ACTIVE, with
RING_ORDER raised. The staging set is empty and the activity that of the operating state (R5, R10). -/
def Obligations.ReturnFrameStartFindsItsRecord : Prop :=
  ∀ (s : State) (count : Nat) (e : Engine), s.due = [.frameStart .ret] →
    count = (s.retLane.byteAt 1).toNat % 128 →
    e = { s.retLane with
      started := true, active := decide (s.opState ≠ .pass), cycle := count,
      staging := { values := [], faults := [], misplaced := [], tags := [], request := none },
      generation := s.banks.generation, binding := .unbound } →
    (∀ (before : List FlightRecord) (r : FlightRecord) (after : List FlightRecord), s.flight = before ++ r :: after →
      r.cycle = count → r.origin = (if s.retLane.kind = kindIsland then .island else .master) →
      (∀ x ∈ before, ¬ (x.cycle = count ∧ x.origin = (if s.retLane.kind = kindIsland then .island else .master))) →
      exec .returnFrameStart s = .next { s with
        due := [], retLane := { e with generation := r.generation, binding := .record r.id } }) ∧
    ((∀ x ∈ s.flight, ¬ (x.cycle = count ∧ x.origin = (if s.retLane.kind = kindIsland then .island else .master))) →
      (∀ response, s.carrier = some (count, response) →
        exec .returnFrameStart s = .next { s with
          due := [], retLane := { e with binding := .carrier response }, carrier := none }) ∧
      ((∀ response, s.carrier ≠ some (count, response)) →
        exec .returnFrameStart s = .next (raise fcOrder count { s with due := [], retLane := e })))

/-! ## Slots in passage

Consequences of a slot's bytes, taken from the list `due` (log entry 4). -/

/-- SLOT_ENTRY_APPLY on either lane (R31, R9, R10, R21, R189): the payload in the slot buffer is what the actions of the
entry found, read in the slot map of the frame's generation, make of it, its length kept; it takes its place behind the
bytes held before it, all but the last two are let go, a return frame of kind ISLAND sending none, and the staging set and
the entry counters are those the actions leave. Nothing else changes.
The command completes in every such state.
The actions of an entry are taken in list order, each on the payload and the state that the one before has left (R31). The
slot map read is the ACTIVE one for the ACTIVE generation or after an exchange that left table 0 alone, and the SHADOW one for
the generation before it otherwise (R189; older ones are log entry 26's, an exchange still SCHEDULED is log entry 36's). -/
def Obligations.SlotEntryRewritesOnlyItsPayload : Prop :=
  (∀ (lane : Lane) (s u : State) (e : Engine), s.due = [.slotApply lane] → u = { s with due := [] } →
    e = s.engine lane →
    (e.entry = none → exec (.slotEntryApply lane) s = .next u) ∧
    (∀ (position keep : Nat) (payload held : List Byte) (v : State), e.entry = some position →
      keep = e.held.length - e.buffered →
      applyEntry lane position (slotEntry (s.boundSmt e.generation) position) (e.held.drop keep) u = (payload, v) →
      held = e.held.take keep ++ payload →
      payload.length = (e.held.drop keep).length ∧
      (lane = .out → exec (.slotEntryApply lane) s = .next { u with
        p1 := { s.p1 with bytes := s.p1.bytes ++ held.take (held.length - 2) }
        outLane := { e with
          staging := v.outLane.staging, held := held.drop (held.length - 2), buffered := 0, entry := none }
        entryHits := v.entryHits }) ∧
      (lane = .ret → exec (.slotEntryApply lane) s = .next { u with
        p3 := if e.kind = kindIsland then s.p3
          else { s.p3 with bytes := s.p3.bytes ++ held.take (held.length - 2) }
        retLane := { e with
          staging := v.retLane.staging, held := held.drop (held.length - 2), buffered := 0, entry := none }
        entryHits := v.entryHits }))) ∧
  (∀ (lane : Lane) (position : Nat) (x : SlotEntry) (payload : List Byte) (s : State) (after : Nat → List Byte × State),
    after 0 = (payload, s) →
    (∀ i a, x.actions[i]? = some a → after (i + 1) = applyAction lane position x.tag (after i) a) →
    applyEntry lane position x payload s = after x.actions.length) ∧
  (∀ (s : State) (g : Word),
    (g = s.banks.generation ∨ (∀ x, s.banks.lastExchange = some x → bitOf x.mask 0 = false) → s.boundSmt g = s.active 0) ∧
    (g + 1 = s.banks.generation → (∃ x, s.banks.lastExchange = some x ∧ bitOf x.mask 0 = true) →
      s.boundSmt g = s.shadow 0))

/-- The field actions on either lane (R32 to R36, R39) on a field of width 1, 2 or 4 inside the slot: EXTRACT stages the
number read, replacing one staged for the point; INSERT writes the point's value saturated to the field; CLAMP writes the
number held within both bound points, or 0 if a bound is EMPTY or STALE, counting a change; CHECK stages its fault when the
number is further from a point that is not EMPTY than the tolerance. INSERT and CLAMP leave every byte of the payload
outside the field. A field past the slot's end is skipped, counted and staged as SLOT_SHORT. -/
def Obligations.FieldActionsReadAndWriteTheirField : Prop :=
  ∀ (lane : Lane) (entry tag : Nat) (a : FieldAction) (payload : List Byte) (s : State) (st : Staging) (n : Int),
    (a.width = 1 ∨ a.width = 2 ∨ a.width = 4) → st = (s.engine lane).staging →
    n = fieldNumber a.signed (fieldOf a payload) →
    (payload.length < a.displacement + a.width →
      applyAction lane entry tag (payload, s) a = (payload,
        { staged lane { st with faults := st.faults ++ [{ code := fcSlotShort, context := tag }] } s with
          entryHits := s.entryHits.set entry { (s.entryHits.getD entry ⟨0, 0⟩) with
            short := min 65535 ((s.entryHits.getD entry ⟨0, 0⟩).short + 1) } })) ∧
    (a.displacement + a.width ≤ payload.length →
      (a.kind = 0 → applyAction lane entry tag (payload, s) a = (payload,
        staged lane { st with
          values := st.values.filter (fun x => x.1 != a.pointA) ++ [(a.pointA, min n 2147483647)] } s)) ∧
      (a.kind = 1 → ∃ p, applyAction lane entry tag (payload, s) a = (p, s) ∧
        FieldReplaced a (toField a (s.point a.pointA).value) payload p) ∧
      (a.kind = 2 → ∃ p t x, applyAction lane entry tag (payload, s) a = (p, t) ∧
        (((s.point a.pointA).live = false ∨ (s.point a.pointB).live = false) → x = 0) ∧
        ((s.point a.pointA).live = true → (s.point a.pointB).live = true →
          x = toField a (min (s.point a.pointB).value (max (s.point a.pointA).value n))) ∧
        FieldReplaced a x payload p ∧ (x = n → p = payload ∧ t = s) ∧
        (x ≠ n → t = { s with
          entryHits := s.entryHits.set entry { (s.entryHits.getD entry ⟨0, 0⟩) with
            clamp := min 65535 ((s.entryHits.getD entry ⟨0, 0⟩).clamp + 1) } })) ∧
      (a.kind = 3 → applyAction lane entry tag (payload, s) a = (payload,
        if (s.point a.pointA).quality ≠ .empty ∧ a.tolerance < (n - (s.point a.pointA).value).natAbs then
          staged lane { st with faults := st.faults ++ [{ code := a.pointB, context := tag }] } s
        else s)))

/-- REPORT_CONTENTS_TAKEN (R20, R166, R214, R215) and SERVICE_RESPONSE_WRITE (R19, R204): the slot about to pass at P2 will
carry the report contents, field by field as they fit and 0 behind, the spotlight chosen only where the first report slot
carries offset 7, and else no code and 0 in its fields (log entry 34); or the response of the frame's record, standing in the list or kept from it (R28, log entry 11), the
carrier's, or NOT_TAKEN, cut or filled with 0. Nothing but the return engine and the spotlight changes. The spotlight chosen
is the pending code of highest severity and then of lowest number (R166), and each field of the contents stands at its
offset (R214). -/
def Obligations.ReportAndResponseAreWrittenOver : Prop :=
  (∀ s : State,
    (s.due = [.reportTaken] → s.retLane.report = none →
      ∃ t, exec .reportContentsTaken s = .next t ∧
        t.spotlight = (if 8 ≤ s.retLane.slotLength then
          s.chooseSpotlight.map (fun k => { code := k, raisedAgain := false }) else s.spotlight) ∧
        t.retLane = { s.retLane with
          report := some (s.reportContents (if 8 ≤ s.retLane.slotLength then s.chooseSpotlight else none))
          overlay := t.retLane.overlay } ∧
        t.retLane.overlay.length = s.retLane.slotLength ∧
        (∀ i, i < fittingBytes reportSizes s.retLane.slotLength → t.retLane.overlay[i]? =
          (s.reportContents (if 8 ≤ s.retLane.slotLength then s.chooseSpotlight else none))[i]?) ∧
        (∀ i, fittingBytes reportSizes s.retLane.slotLength ≤ i → i < s.retLane.slotLength →
          t.retLane.overlay[i]? = some 0) ∧
        t = { s with due := [], spotlight := t.spotlight, retLane := t.retLane }) ∧
    (s.due = [.serviceWrite] → ∀ answer : List Byte,
      ((s.retLane.binding = .unbound ∧ answer = [0x01]) ∨ (s.retLane.binding = .carrier answer) ∨
        (∃ r : FlightRecord, IsBoundRecord r s ∧
          ((r.outcome = .good ∧ r.response = some answer) ∨ (r.outcome = .bad ∧ answer = [0x01])))) →
      exec .serviceResponseWrite s = .next { s with
        due := []
        retLane := { s.retLane with
          overlay := answer.take s.retLane.slotLength ++ List.replicate (s.retLane.slotLength - answer.length) 0 } }) ∧
    (s.due = [.serviceWrite] → ∀ r : FlightRecord, IsBoundRecord r s →
      r.outcome = .good → r.response = none → exec .serviceResponseWrite s = .next { s with due := [] })) ∧
  (∀ s : State,
    (s.chooseSpotlight = none ↔ ∀ k, k < 64 → (s.fault k).pending = false) ∧
    (∀ k, s.chooseSpotlight = some k ↔ k < 64 ∧ (s.fault k).pending = true ∧
      ∀ j, j < 64 → (s.fault j).pending = true → j ≠ k →
        (s.faultEntry j).severity < (s.faultEntry k).severity ∨
          ((s.faultEntry j).severity = (s.faultEntry k).severity ∧ k < j))) ∧
  (∀ (s : State) (code : Option Nat) (at_ size : Nat) (field : List Byte), (at_, size, field) ∈
    [(0, 1, [BitVec.ofNat 8 s.opState.code]), (1, 1, [BitVec.ofNat 8 s.strap.code]), (2, 2, wordBytes s.banks.generation),
     (4, 1, [BitVec.ofNat 8 s.banks.status.code]), (5, 1, putU 1 (s.faults.filter (fun r => r.latch)).length),
     (6, 1, putU 1 s.summary.severity),
     (7, 1, [match code with | some k => BitVec.ofNat 8 k | none => 0xFF]),
     (8, 1, match code with | some k => putU 1 (s.faultEntry k).severity | none => [0]),
     (9, 4, match code with | some k => putS 4 (s.fault k).context | none => [0, 0, 0, 0]),
     (13, 4, match code with | some k => longBytes (s.fault k).raiseTime | none => [0, 0, 0, 0]),
     (17, 1, [BitVec.ofNat 8 (s.summary.derate % 8 + (if s.summary.yawHold then 8 else 0) +
       (if s.summary.pumpBoost then 16 else 0) + (if s.summary.trip then 32 else 0))]),
     (18, 2, putU 2 s.envelope.limit), (20, 1, [BitVec.ofNat 8 s.envelope.rideThrough.code]),
     (21, 2, putU 2 s.envelope.exposure), (23, 2, putU 2 s.tracker.heading),
     (25, 1, [BitVec.ofNat 8 s.tracker.quality.code]), (26, 4, putS 4 s.tracker.twist),
     (30, 1, [if s.tracker.twistSet then 1 else 0]), (31, 1, [BitVec.ofNat 8 s.decision.mode.code]),
     (32, 1, putU 1 s.sequencer.step), (33, 2, putU 2 (s.point 40).value.toNat), (35, 1, putU 1 (s.point 41).value.toNat),
     (36, 2, putS 2 (s.point 44).value), (38, 1, putU 1 s.log.records.length), (39, 2, wordBytes (s.log.next - 1))] →
    (∀ k, code = some k → k < 64) →
    ((s.reportContents code).drop at_).take size = field ∧ (s.reportContents code).length = 41)

/-! ## Frame ends

The cut is a consequence taken from the list `due`; the ends are made where nothing is outstanding (log entry 4). -/

/-- FRAME_OVERLENGTH_CUT (R7): the outgoing frame is ended with a complemented check, of the bytes sent the two held last
giving way to it (log entry 12), and taken as a bad end; what is left of
the incoming frame is discarded at its port, and a hold buffer whose frame has ended becomes EMPTY (R22). -/
def Obligations.OverlengthFrameIsCutAndBad : Prop :=
  ∀ s : State,
    (s.due = [.overlengthCut .out] → s.outLane.source = .p0 → ∃ t, exec (.frameOverlengthCut .out) s = .next t ∧
      t.rx0.mode = .discarding ∧ OutBadEnd { s with due := [], rx0 := { s.rx0 with mode := .discarding } } t) ∧
    (s.due = [.overlengthCut .out] → s.outLane.source = .holdBuffer → s.hold.ended = none →
      ∃ t, exec (.frameOverlengthCut .out) s = .next t ∧ OutBadEnd { s with due := [] } t) ∧
    (s.due = [.overlengthCut .out] → s.outLane.source = .holdBuffer → s.hold.ended ≠ none →
      ∃ t, exec (.frameOverlengthCut .out) s = .next t ∧ t.hold.occupied = false ∧
        OutBadEnd { s with due := [], hold :=
          { occupied := false, bytes := [], stored := 0, overrun := false, ended := none, leaving := false } } t) ∧
    (s.due = [.overlengthCut .ret] → ∃ t, exec (.frameOverlengthCut .ret) s = .next t ∧ t.rx2.mode = .discarding ∧
      RetBadEnd { s with due := [], rx2 := { s.rx2 with mode := .discarding } } t)

/-- OUT_FRAME_END (R8, R11, R13, R14, R43, R177, R179, R184), from whichever source. A frame that is truncated or not sound
ends bad and commits nothing. A sound one leaves P1 with its own check; if its pass is active and the state RUN or ISLAND,
the staged values enter the points together, FORCED ones apart, STALE_INPUT is judged (R48, log entry 35), the staged CHECK and SLOT_SHORT
faults are raised, and SLOT_MISSING for each required tag the frame lacks (R38); SERVICE_MISPLACED is raised in every state
(R19); a frame of kind CYCLE restarts an armed supervision timer,
ends MASTER_SILENT and turns ISLAND into RUN; its record becomes GOOD; only then its request is taken; last the count of bad
ends is 0 and RING_OUT_ERRORS absent. An end delimiter at P0 of a frame in the hold buffer only marks its end there, of a
discarded one, and where no frame arrives (log entry 9), nothing. At the return to RUN no island frame waits any more (R180,
log entry 13). -/
def Obligations.OutFrameEndCommitsOrDiscards : Prop :=
  (∀ (source : OutSource) (truncated : Bool) (s : State), s.due = [] → OutEnds source truncated s →
    (s.outLane.sound = false ∨ truncated = true →
      ∃ t, exec (.outFrameEnd source) s = .next t ∧ OutBadEnd (sourceDone source s) t) ∧
    (s.outLane.sound = true → truncated = false →
      ∃ u t, exec (.outFrameEnd source) s = .next t ∧
        (s.outLane.kind = kindCycle → u.condition fcMasterSilent = false) ∧
        (s.faults.length = 64 →
          (∀ k, k ∈ [fcSlotMissing, fcSlotShort, fcMisplaced] ∨ (36 ≤ k ∧ k ≤ 47) → RaisedFrom
            ((if s.outLane.active = true ∧ s.opState ≠ .pass then commitRaises .out s.outLane s else []) ++
              s.outLane.staging.misplaced.map (fun ordinal => (fcMisplaced, (ordinal : Int)))) k s u) ∧
          (s.outLane.active = true → s.opState ≠ .pass → s.points.length = 256 →
            (∀ x ∈ s.outLane.staging.faults, levelCode x.code = false) →
            (u.condition fcStaleInput = true ↔
              ∃ m, m < 32 ∧ (u.point m).quality = .stale ∧ stalenessLimit s.smt m ≠ 255))) ∧
        ByFaultsOnly { sourceDone source s with
          p1 := { s.p1 with bytes := closedBytes false s.p1.bytes s.outLane.held, ended := true }
          outLane := s.outLane.closed
          points := if s.outLane.active = true ∧ s.opState ≠ .pass then
              commitPoints s.points s.outLane.staging.values else s.points
          supervision := if s.outLane.kind = kindCycle then
              { s.supervision with
                timer := if s.supervision.armed then some s.timebase else s.supervision.timer
                islandTimer := if s.opState = .island then none else s.supervision.islandTimer
                waiting := if s.opState = .island then false else s.supervision.waiting }
            else s.supervision
          opState := if s.outLane.kind = kindCycle ∧ s.opState = .island then .run else s.opState
          flight := withOutcome .good s.outLane s.flight } u ∧
        t.outBad = 0 ∧ t.condition fcOutErrors = false ∧
        (s.outLane.staging.request = none → ByFaultsOnly { u with outBad := 0 } t) ∧
        (∀ payload, s.outLane.staging.request = some payload →
          ByFaultsOnly { handPayload payload u with outBad := 0 } t))) ∧
  (∀ s : State, s.due = [] →
    (s.rx0.mode = .none ∨ s.rx0.mode = .discarding →
      exec (.outFrameEnd .p0) s = .next { s with rx0 := { s.rx0 with mode := .none } }) ∧
    (s.rx0.mode = .buffering → s.hold.leaving = false → exec (.outFrameEnd .p0) s =
      .next { s with rx0 := { s.rx0 with mode := .none }, hold := { s.hold with ended := some false } })) ∧
  (∀ (values : List (Nat × Int)) (points : List Point), (values.map Prod.fst).Nodup →
    (commitPoints points values).length = points.length ∧
    (∀ n v, (n, v) ∈ values → n < points.length → (points.getD n .reset).quality ≠ .forced →
      (commitPoints points values)[n]? = some { value := v, quality := .fresh, age := 0 }) ∧
    (∀ n, (points.getD n .reset).quality = .forced ∨ n ∉ values.map Prod.fst →
      (commitPoints points values)[n]? = points[n]?))

/-- RETURN_FRAME_END (R8, R12, R13, R14, R17, R21, R43, R103, R121, R128, R138, R165, R167), whatever the order of the
blocks. A frame that is not sound ends bad. A sound one leaves P3, but for kind ISLAND, with its own check; its record is
removed; SERVICE_MISPLACED is raised in every state (R19); the count of bad ends is 0, RING_RETURN_ERRORS absent, no
spotlight in flight. With an inactive pass, in PASS, or where the frame was in passage at a SOFT_RESET (R28, R75) no point is
committed and no job updates. With any other in RUN or ISLAND the staged values enter the inputs and free points together,
the staged CHECK and SLOT_SHORT faults and SLOT_MISSING are raised (R38) and the jobs update: their outputs stand in the
points, and PUMP_SPEED and FAN_STAGE are not above what the grants pay for. That commit is STALE_INPUT's judgement (log entry 35), the staged raises (log entry 28)
and the update of each block, each once, in the operand's order or that of log entry 5; then come SERVICE_MISPLACED (log
entry 31), the record's removal, the end of RING_RETURN_ERRORS, and the spotlight (log entry 32), cleared if carried. Where no frame arrives nothing
happens (log entry 9). The clock, supervision, the operating state, the out lane and the ports are left alone. -/
def Obligations.ReturnFrameEndCommitsAndUpdates : Prop :=
  ∀ (order : List Block) (s : State), s.due = [] →
    (s.rx2.mode ≠ .passing → exec (.returnFrameEnd order) s = .next { s with rx2 := { s.rx2 with mode := .none } }) ∧
    (s.rx2.mode = .passing → s.retLane.sound = false →
      ∃ t, exec (.returnFrameEnd order) s = .next t ∧
        RetBadEnd { s with rx2 := { s.rx2 with mode := .none } } t) ∧
    (s.rx2.mode = .passing → s.retLane.sound = true →
      ∃ t, exec (.returnFrameEnd order) s = .next t ∧
        t.retBad = 0 ∧ t.condition fcReturnErrors = false ∧ t.spotlight = none ∧
        t.retLane = s.retLane.closed ∧ t.p3 = closedP3 false s ∧ t.flight = withoutBound s ∧
        t.banks = drainedBanks s ∧
        (s.faults.length = 64 →
          (∀ k, k ∈ [fcSlotMissing, fcSlotShort, fcMisplaced] ∨ (36 ≤ k ∧ k ≤ 47) → RaisedFrom
            ((if s.retLane.active = true ∧ s.opState ≠ .pass ∧ s.retLane.voided = false
                then commitRaises .ret s.retLane s else []) ++
              s.retLane.staging.misplaced.map (fun ordinal => (fcMisplaced, (ordinal : Int)))) k s t)) ∧
        (s.retLane.active = false ∨ s.opState = .pass ∨ s.retLane.voided = true → ByFaultsOnly { s with
          rx2 := { s.rx2 with mode := .none }
          p3 := closedP3 false s
          retLane := s.retLane.closed
          retBad := 0
          flight := withoutBound s
          banks := drainedBanks s } t) ∧
        (s.retLane.active = true → s.opState ≠ .pass → s.retLane.voided = false → s.points.length = 256 →
          (∀ n, (n < 32 ∨ 63 < n) → t.points[n]? = (commitPoints s.points s.retLane.staging.values)[n]?) ∧
          t.thermal.seeded = true ∧
          t.pointValue 35 = t.envelope.rideThrough.code ∧ t.pointValue 58 = t.envelope.exposure ∧
          t.pointValue 40 ≤ ((t.arbiter.pumpGrant * 1000 / t.arbiter.grantPumpMax : Nat) : Int) ∧
          t.pointValue 41 ≤ t.arbiter.fanGrant ∧
          (t.ppr ≠ 0 → t.pointValue 42 = ((t.tracker.heading * 3600 / t.ppr : Nat) : Int)) ∧
          t.pointValue 43 = t.tracker.twist ∧ t.pointValue 63 = t.tracker.quality.code ∧
          t.pointValue 45 = t.summary.derate ∧ t.pointValue 61 = t.summary.severity ∧
          t.pointValue 59 = t.decision.mode.code ∧ t.pointValue 60 = t.sequencer.step) ∧
        t.clock = s.clock ∧ t.supervision = s.supervision ∧ t.opState = s.opState ∧ t.outLane = s.outLane ∧
        t.rx0 = s.rx0 ∧ t.p1 = s.p1 ∧ t.hold = s.hold ∧ t.prevCycle = s.prevCycle ∧ t.carrier = s.carrier ∧
        t.inputs = s.inputs ∧ t.timebase = s.timebase ∧ t.outBad = s.outBad ∧ t.entryHits = s.entryHits ∧
        t.pending = s.pending ∧ t.response = s.response ∧ t.nextFlight = s.nextFlight ∧ t.islandBytes = s.islandBytes) ∧
    (s.rx2.mode = .passing → s.retLane.sound = true → s.faults.length = 64 → s.points.length = 256 → ∀ u : State,
      u = { s with rx2 := { s.rx2 with mode := .none }, p3 := closedP3 false s, retLane := s.retLane.closed } →
      ∃ c x v w t : State, exec (.returnFrameEnd order) s = .next t ∧
        (s.retLane.active = false ∨ s.opState = .pass ∨ s.retLane.voided = true → c = u) ∧
        (s.retLane.active = true → s.opState ≠ .pass → s.retLane.voided = false →
          ∃ (written : List Nat) (blocks : List Block) (after : Nat → State), c = after 9 ∧
            (∀ n, n ∈ written ↔ n ∈ s.retLane.staging.values.map Prod.fst ∧ (s.point n).quality ≠ .forced) ∧
            blocks.length = 9 ∧ blocks.Nodup ∧
            (order.Nodup → blocks = order ++ [Block.stagedFaults, .envelope, .thermal, .arbiter, .decision, .sequencer,
              .tracker, .faultOutputs, .watches].filter (fun b => decide (b ∉ order))) ∧
            ByFaultsOnly { u with points := commitPoints s.points s.retLane.staging.values } (after 0) ∧
            ((after 0).condition fcStaleInput = true ↔
              ∃ m, m < 32 ∧ ((after 0).point m).quality = .stale ∧ stalenessLimit s.smt m ≠ 255) ∧
            ((after 0).condition fcStaleInput = s.condition fcStaleInput →
              after 0 = { u with points := commitPoints s.points s.retLane.staging.values }) ∧
            (∀ i b, blocks[i]? = some b → after (i + 1) = (match b with
              | .stagedFaults => (commitRaises .ret s.retLane s).foldl (fun x f => raise f.1 f.2 x) (after i)
              | .envelope => envelopeUpdate written (after i)
              | .thermal => thermalUpdate (after i)
              | .arbiter => arbiterEvaluate (after i)
              | .decision => decisionUpdate written (after i)
              | .sequencer => sequencerCommit (decide (i = 8)) (after i)
              | .tracker => writeHeading (after i)
              | .faultOutputs => { after i with
                  points := ((after i).points.set 45 { value := (after i).summary.derate, quality := .fresh, age := 0 }).set 61
                    { value := (after i).summary.severity, quality := .fresh, age := 0 } }
              | .watches => watchesUpdate (after i)))) ∧
        x = s.retLane.staging.misplaced.foldl (fun x ordinal => raise fcMisplaced ordinal x) c ∧
        v = { x with retBad := 0, flight := withoutBound s, banks := drainedBanks s } ∧
        w = (if v.condition fcReturnErrors then endCondition fcReturnErrors v else v) ∧
        (w.spotlight = none → t = w) ∧
        (∀ sp, w.spotlight = some sp → t = { w with
          spotlight := none
          faults := if s.retLane.kind = kindCycle ∧ sp.raisedAgain = false ∧ (w.fault sp.code).pending = true then
              w.faults.set sp.code { w.fault sp.code with pending := false, reasserted := false }
            else w.faults }))

/-! ## The jobs

Divisors that validation keeps from 0 are divided by plainly (log entry 22); where one event hands several things on and no
rule gives the order, it is log entry 15's. -/

/-- The ride-through update (R62 to R70): GRID_V enters the history, V_avg is the floor of the mean of the newest D values,
and once the rule of the state held at the start follows, with the conditions of R71. Sag and swell can enter from NORMAL
and RECOVERY; the exposure of a sag, or the length of a swell, trips; TRIPPED stands until its fault's latch is clear. -/
def Obligations.RideThroughFollowsTheVoltage : Prop :=
  ∀ (s : State) (h : List Int) (v : Int) (n : Nat) (e : Envelope), s.faults.length = 64 →
    h = (if s.envelope.history = [] then List.replicate 8 (s.point 0).value
      else ((s.point 0).value :: s.envelope.history).take 8) →
    v = (h.take (2 ^ figure s.drtG 6)).sum / ((2 ^ figure s.drtG 6 : Nat) : Int) →
    e = { s.envelope with history := h, vAvg := some v } →
    ∃ t, rideThroughUpdate s = t ∧
      (s.envelope.rideThrough = .normal →
        (v < s.sagEnter → t.condition fcGridSag = true ∧ ByFaultsOnly { s with envelope := { e with rideThrough := .sag } } t) ∧
        (s.sagEnter ≤ v → s.swellEnter < v → t.condition fcGridSwell = true ∧
          ByFaultsOnly { s with envelope := { e with rideThrough := .swell, swellCount := 0 } } t) ∧
        (s.sagEnter ≤ v → v ≤ s.swellEnter → t = { s with envelope := e })) ∧
      (s.envelope.rideThrough = .sag →
        n = min 65535 (s.envelope.exposure + (if curve s.allowedCurve v = 0 then 32768
          else (Int.tdiv 32768 (curve s.allowedCurve v)).toNat)) →
        (32768 ≤ n → t.condition fcGridSag = false ∧ t.condition fcRideThroughTrip = true ∧
          ByFaultsOnly { s with envelope := { e with rideThrough := .tripped, exposure := n } } t) ∧
        (n < 32768 → s.sagExit ≤ v → t.condition fcGridSag = false ∧
          ByFaultsOnly { s with envelope := { e with
            rideThrough := .recovery, exposure := n, recoveryCount := 0, exitFactor := s.envelope.lastSagFactor } } t) ∧
        (n < 32768 → v < s.sagExit → t = { s with envelope := { e with exposure := n } })) ∧
      (s.envelope.rideThrough = .swell → n = min 65535 (s.envelope.swellCount + 1) →
        (s.swellLimit ≤ n → t.condition fcGridSwell = false ∧ t.condition fcRideThroughTrip = true ∧
          ByFaultsOnly { s with envelope := { e with rideThrough := .tripped, swellCount := n } } t) ∧
        (n < s.swellLimit → v ≤ s.swellExit → t.condition fcGridSwell = false ∧
          ByFaultsOnly { s with envelope := { e with rideThrough := .normal, exposure := 0, swellCount := n } } t) ∧
        (n < s.swellLimit → s.swellExit < v → t = { s with envelope := { e with swellCount := n } })) ∧
      (s.envelope.rideThrough = .recovery → n = min 65535 (s.envelope.recoveryCount + 1) →
        (v < s.sagEnter → t.condition fcGridSag = true ∧
          ByFaultsOnly { s with envelope := { e with rideThrough := .sag, recoveryCount := n } } t) ∧
        (s.sagEnter ≤ v → s.swellEnter < v → t.condition fcGridSwell = true ∧
          ByFaultsOnly { s with envelope := { e with rideThrough := .swell, swellCount := 0, recoveryCount := n } } t) ∧
        (s.sagEnter ≤ v → v ≤ s.swellEnter → t = { s with envelope :=
          if s.recoveryUpdates ≤ n then { e with rideThrough := .normal, exposure := 0, recoveryCount := n }
          else { e with recoveryCount := n } })) ∧
      (s.envelope.rideThrough = .tripped →
        (t.condition fcRideThroughTrip = true ↔ v < s.sagExit ∨ s.swellExit < v) ∧
        ((t.fault fcRideThroughTrip).latch = true → ByFaultsOnly { s with envelope := e } t) ∧
        ((t.fault fcRideThroughTrip).latch = false →
          ByFaultsOnly { s with envelope := { e with rideThrough := .normal, exposure := 0 } } t))

/-- What a thermal update does to an enabled module, the pump and the fans (R78 to R82, R86 to R92): the held rise moves by
α of its distance, one step at least, toward the corrected rise; the pump command moves by at most the slew toward its
target, the claim is the least power that pays for it, and PUMP_SPEED is the command or what the grant pays for; the fan
stage moves by at most one with COOL_IN and its hysteresis, and FAN_STAGE is the stage or the grant. Nothing else changes.
A module outside the mask is left alone; at the first update after a reset the twelve rises are seeded before the modules
are taken in order (R77); TJ_MAX is the largest junction temperature of an enabled module (R82); JUNCTION_LIMIT follows
TJ_MAX (R83), COOLANT_FLOW_LOW and COOLANT_INLET_HIGH their points while these are FRESH or FORCED (R85). An update takes the
estimates, the conditions, the pump and the fans in this order (R76). -/
def Obligations.CoolingFollowsTheTemperatures : Prop :=
  (∀ (m : Nat) (s : State) (i : Nat) (q ss tc d : Int), m < 12 → bitOf (wordAt s.plt 1) m = true →
    s.points.length = 256 → s.thermal.rises.length = 12 →
    i = (if (s.point (7 + m)).live then min 65535 (s.point (7 + m)).value.natAbs else figure s.plt 0) →
    q = (if (s.point 3).live then max (((figure s.thm 3 + 3) / 4 : Nat) : Int) (min (s.point 3).value ((2 * figure s.thm 3 : Nat) : Int))
      else max (((figure s.thm 3 + 3) / 4 : Nat) : Int) (min (((figure s.thm 3 + 3) / 4 : Nat) : Int) ((2 * figure s.thm 3 : Nat) : Int))) →
    ss = (((figure s.thm 0 * i + figure s.thm 1 * i * i / 4096) / 65536 * (4096 * figure s.thm 3 / q.toNat) / 4096 : Nat) : Int) →
    tc = (if (s.point 2).live then (s.point 2).value else signedFigure s.thm 5) →
    d = ss - s.thermal.rises.getD m 0 →
    ∃ t rise, moduleUpdate s m = t ∧
      (d = 0 → rise = s.thermal.rises.getD m 0) ∧
      (d ≠ 0 → Int.tdiv (d * figure s.thm 2) 65536 = 0 → rise = s.thermal.rises.getD m 0 + d.sign) ∧
      (Int.tdiv (d * figure s.thm 2) 65536 ≠ 0 →
        rise = s.thermal.rises.getD m 0 + Int.tdiv (d * figure s.thm 2) 65536) ∧
      t = { s with
        points := s.points.set (46 + m) { value := max (-400) (min (tc + rise) 2000), quality := .fresh, age := 0 }
        thermal := { s.thermal with rises := s.thermal.rises.set m rise } }) ∧
  (∀ (s : State) (demand : Int) (target command speed : Nat), s.points.length = 256 →
    demand = curve s.pumpCurve (s.point 44).value →
    target = (if s.summary.pumpBoost = true ∨ (s.point 2).live = false then 1000
      else if 0 < demand then demand.toNat else if s.thermal.exercise.isSome = true then figure s.thm 24 else 0) →
    command = (if s.thermal.pumpCommand ≤ target then min target (s.thermal.pumpCommand + figure s.thm 21)
      else max target (s.thermal.pumpCommand - figure s.thm 21)) →
    speed = min command (s.arbiter.pumpGrant * 1000 / figure s.plt 13) →
    ∃ t claim, pumpUpdate s = t ∧
      (∀ c : Nat, claim ≤ c ↔ figure s.plt 13 * command ≤ c * 1000) ∧
      t = { s with
        points := s.points.set 40 { value := speed, quality := .fresh, age := 0 }
        thermal := { s.thermal with
          pumpCommand := command
          exercise := if 0 < demand then none else s.thermal.exercise
          idleCountdown := if 0 < speed then none
            else if s.thermal.idleCountdown = none ∧ figure s.thm 22 ≠ 0 then some (figure s.thm 22)
            else s.thermal.idleCountdown }
        arbiter := { s.arbiter with pumpClaim := claim } }) ∧
  (∀ (s : State) (k : Nat), k = s.thermal.fanRequest → k ≤ 3 →
    ∃ t stage, fanUpdate s = t ∧
      ((s.point 2).live = true → k < 3 → signedFigure s.thm (25 + k) ≤ (s.point 2).value → stage = k + 1) ∧
      ((s.point 2).live = true → (k = 3 ∨ (s.point 2).value < signedFigure s.thm (25 + k)) → 0 < k →
        (s.point 2).value < signedFigure s.thm (27 + k) → stage = k - 1) ∧
      ((s.point 2).live = true → (k = 3 ∨ (s.point 2).value < signedFigure s.thm (25 + k)) →
        (k = 0 ∨ signedFigure s.thm (27 + k) ≤ (s.point 2).value) → stage = k) ∧
      ((s.point 2).live = false → stage = min 3 (k + 1)) ∧
      t = { s with
        points := s.points.set 41 { value := ((min stage s.arbiter.fanGrant : Nat) : Int), quality := .fresh, age := 0 }
        thermal := { s.thermal with fanRequest := stage }
        arbiter := { s.arbiter with fanClaim := stage } }) ∧
  (∀ (m : Nat) (s : State), bitOf (wordAt s.plt 1) m = false → moduleUpdate s m = s) ∧
  (∀ (s : State) (after : Nat → State), s.thermal.rises.length = 12 →
    after 0 = { s with thermal := { s.thermal with
      rises := if s.thermal.seeded then s.thermal.rises else List.replicate 12 ((figure s.thm 4 : Nat) : Int)
      seeded := true } } →
    (∀ m, m < 12 → after (m + 1) = moduleUpdate (after m) m) → s.points.length = 256 →
    (∃ m, m < 12 ∧ bitOf (wordAt s.plt 1) m = true) →
    ∃ hottest : Int, junctionUpdate s =
        { after 12 with points := (after 12).points.set 44 { value := hottest, quality := .fresh, age := 0 } } ∧
      (∃ m, m < 12 ∧ bitOf (wordAt s.plt 1) m = true ∧ hottest = ((after 12).point (46 + m)).value) ∧
      (∀ m, m < 12 → bitOf (wordAt s.plt 1) m = true → ((after 12).point (46 + m)).value ≤ hottest)) ∧
  (∀ s t : State, t = thermalConditions s → s.faults.length = 64 →
    (t.condition fcJunctionLimit = true ↔ signedFigure s.thm 6 ≤ (s.point 44).value) ∧
    (s.condition fcJunctionLimit = false → t.condition fcJunctionLimit = true →
      (t.fault fcJunctionLimit).context = (s.point 44).value) ∧
    ((s.point 3).live = true →
      (t.condition fcFlowLow = true ↔ (s.point 3).value < (figure s.thm 7 : Int)) ∧
      (s.condition fcFlowLow = false → t.condition fcFlowLow = true → (t.fault fcFlowLow).context = (s.point 3).value)) ∧
    ((s.point 3).live = false → t.fault fcFlowLow = s.fault fcFlowLow) ∧
    ((s.point 2).live = true →
      (t.condition fcInletHigh = true ↔ signedFigure s.thm 8 < (s.point 2).value) ∧
      (s.condition fcInletHigh = false → t.condition fcInletHigh = true →
        (t.fault fcInletHigh).context = (s.point 2).value)) ∧
    ((s.point 2).live = false → t.fault fcInletHigh = s.fault fcInletHigh) ∧
    ByFaultsOnly s t) ∧
  (∀ s : State, thermalUpdate s = fanUpdate (pumpUpdate (thermalConditions (junctionUpdate s))))

/-- The envelope update (R52 to R58, R84): the ride-through update comes first where the commit wrote GRID_V or GRID_V is
FORCED; then L is 0 when trip seen and else falls at once to the target or rises to it by at most the ramp step, the six
outputs are written from it, and last THERMAL_DERATE is judged on the thermal factor. Nothing else changes but by that
judgement's raise or end. -/
def Obligations.EnvelopeUpdateFollowsTheTarget : Prop :=
  ∀ (written : List Nat) (s r : State) (ft fg f : Int) (target limit : Nat),
    r = (if 0 ∈ written ∨ (s.point 0).quality = .forced then rideThroughUpdate s else s) → r.points.length = 256 →
    ft = curve r.thermalCurve (r.point 44).value →
    fg = (match r.envelope.rideThrough with
      | .normal => 32768
      | .swell => 32768
      | .sag => curve r.gridCurve (r.envelope.vAvg.getD 0)
      | .recovery => min 32768 ((r.envelope.exitFactor : Int) +
          Int.tdiv ((32768 - (r.envelope.exitFactor : Int)) * r.envelope.recoveryCount) r.recoveryUpdates)
      | .tripped => 0) →
    f = min ft (min fg (figure r.plt (3 + r.summary.derate) : Int)) →
    target = figure r.plt 0 * f.toNat / 32768 →
    limit = (if r.envelope.tripSeen then 0
      else if target ≤ r.envelope.limit then target else min target (r.envelope.limit + figure r.plt 2)) →
    ∃ v t, envelopeUpdate written s = t ∧
      v.point 32 = { value := limit, quality := .fresh, age := 0 } ∧
      v.point 33 = { value := -(limit : Int), quality := .fresh, age := 0 } ∧
      v.point 34 = { value := if r.envelope.tripSeen then 1 else 0, quality := .fresh, age := 0 } ∧
      v.point 35 = { value := r.envelope.rideThrough.code, quality := .fresh, age := 0 } ∧
      v.point 58 = { value := r.envelope.exposure, quality := .fresh, age := 0 } ∧
      v.point 62 = { value := f, quality := .fresh, age := 0 } ∧
      (∀ n, n ∉ [32, 33, 34, 35, 58, 62] → v.point n = r.point n) ∧
      v = { r with
        points := v.points
        envelope := { r.envelope with
          limit := limit
          lastSagFactor := if r.envelope.rideThrough = .sag then fg.toNat else r.envelope.lastSagFactor } } ∧
      (r.condition fcThermalDerate = decide (ft < 32768) → t = v) ∧
      (s.faults.length = 64 → (t.condition fcThermalDerate = true ↔ ft < 32768) ∧
        (r.condition fcThermalDerate = false → ft < 32768 → (t.fault fcThermalDerate).context = ft)) ∧
      ByFaultsOnly v t

/-- The three grants of an arbiter evaluation (R99 to R102): the budget is AUX_AVAIL or the fallback, cut in SAG and TRIPPED;
the pump gets the smaller of its claim and the budget, the fans the largest stage up to their claim that the remainder buys,
yaw the whole power of its claim or nothing; the pump_kw_max read is recorded. PUMP_SPEED and FAN_STAGE are lowered to what
the grants pay for (R103); a yaw grant lost under a standing claim is handed as a withdrawal, one gained as a gain (R104);
AUX_SHORT is judged last, with the shortfall (R105).
A gain (R134) starts or resumes a waiting or parked move that passes the start check, and ends one that fails it as REFUSED;
a withdrawal (R136) of a running move raises YAW_GRANT_LOST with the step, then parks it, or ends it in a stop-sequence step.
-/
def Obligations.GrantsAreTakenInOrderFromTheBudget : Prop :=
  (∀ s : State, ∃ a, writeGrants s = { s with arbiter := a } ∧
    a.pumpClaim = s.arbiter.pumpClaim ∧ a.fanClaim = s.arbiter.fanClaim ∧ a.yawClaim = s.arbiter.yawClaim ∧
    a.pumpGrant = min s.arbiter.pumpClaim s.budget ∧ a.grantPumpMax = figure s.plt 13 ∧
    a.fanGrant ≤ s.arbiter.fanClaim ∧ a.fanGrant * figure s.plt 14 ≤ s.budget - a.pumpGrant ∧
    (∀ k, k ≤ s.arbiter.fanClaim → k * figure s.plt 14 ≤ s.budget - a.pumpGrant → k ≤ a.fanGrant) ∧
    (s.arbiter.yawClaim = none → a.yawGrant = none) ∧
    (∀ drives, s.arbiter.yawClaim = some drives →
      (figure s.plt 15 * drives ≤ s.budget - a.pumpGrant - a.fanGrant * figure s.plt 14 →
        a.yawGrant = some (figure s.plt 15 * drives)) ∧
      (s.budget - a.pumpGrant - a.fanGrant * figure s.plt 14 < figure s.plt 15 * drives → a.yawGrant = none)) ∧
    a.pumpGrant + a.fanGrant * figure s.plt 14 + a.yawGrant.getD 0 ≤ s.budget) ∧
  (∀ (s : State) (raw : Nat),
    raw = (if (s.point 1).quality = .fresh ∨ (s.point 1).quality = .forced then (max 0 (s.point 1).value).toNat
      else figure s.plt 12) →
    s.budget = if s.envelope.rideThrough = .sag ∨ s.envelope.rideThrough = .tripped then raw * figure s.plt 11 / 32768
      else raw) ∧
  (∀ (s u v w : State) (speed : Nat), u = writeGrants s → speed = u.arbiter.pumpGrant * 1000 / u.arbiter.grantPumpMax →
    v = (if (speed : Int) < (u.point 40).value then withPumpSpeed speed u else u) →
    w = (if (u.arbiter.fanGrant : Int) < (u.point 41).value then
      { v with points := v.points.set 41 { value := u.arbiter.fanGrant, quality := .fresh, age := 0 } } else v) →
    ∃ x t, arbiterEvaluate s = t ∧
      x = (if s.arbiter.yawGrant.isSome = true ∧ u.arbiter.yawGrant = none ∧ s.arbiter.yawClaim.isSome = true then
          withdrawGrant w
        else if s.arbiter.yawGrant = none ∧ u.arbiter.yawGrant.isSome = true then gainGrant w
        else w) ∧
      (s.faults.length = 64 →
        (t.condition fcAuxShort = true ↔
          u.arbiter.pumpGrant < u.arbiter.pumpClaim ∨ u.arbiter.fanGrant < u.arbiter.fanClaim) ∧
        (s.condition fcAuxShort = false → t.condition fcAuxShort = true → (t.fault fcAuxShort).context =
          ((u.arbiter.pumpClaim - u.arbiter.pumpGrant + (u.arbiter.fanClaim - u.arbiter.fanGrant) * figure s.plt 14 : Nat) :
            Int))) ∧
      ByFaultsOnly x t) ∧
  (∀ (s : State) (r : MoveRecord), s.sequencer.record = some r →
    (s.sequencer.phase = .none ∨ s.sequencer.phase = .running → gainGrant s = s) ∧
    (s.sequencer.phase = .waiting ∨ s.sequencer.phase = .parked → ∀ planned : Int,
      planned = ((s.tracker.twist + r.remaining).natAbs : Int) →
      (planned < s.twistHard ∨ (r.target = .twist ∧ planned < (s.tracker.twist.natAbs : Int)) →
        ∀ (k : Nat) (y : YawStep) (direction : Int), k = s.startStep → k ≠ 0 → y = yawStep s.yst k →
          y.trigger ≠ 5 → (y.trigger = 2 → ¬ WithinStopBand s) →
          direction = (if y.direction = 1 then r.direction else if y.direction = 2 then -r.direction else 0) →
          gainGrant s = { s with
            points := stepPoints k s
            sequencer := { step := k, phase := .running, record := some r, commits := 0, counts := 0 }
            tracker := { s.tracker with
              history := List.replicate 8 s.seedInterval
              baseTime := s.seedInterval
              lastEdge := none
              bounces := if s.sequencer.phase = .parked then s.tracker.bounces else 0
              timer := if y.motion = true ∧ (direction = 1 ∨ direction = -1) then
                some { start := s.timebase, limit := s.seedInterval * s.edgeTimeout / 128 } else none } }) ∧
      (s.twistHard ≤ planned → ¬ (r.target = .twist ∧ planned < (s.tracker.twist.natAbs : Int)) →
        ∃ t, gainGrant s = t ∧ t.sequencer.record = none ∧ t.sequencer.phase = .none ∧ t.decision.blocked = true ∧
          t.arbiter.yawClaim = none ∧ t.arbiter.yawGrant = none ∧
          (s.faults.length = 64 → t.condition fcTwistLimit = true) ∧
          ByFaultsOnly (moveGone (if s.sequencer.step = 0 then s else inStepZero s)) t))) ∧
  (∀ s : State, s.sequencer.phase ≠ .running → withdrawGrant s = s) ∧
  (∀ (s u : State), s.sequencer.phase = .running → u = raise fcGrantLost s.sequencer.step s →
    (u.sequencer.phase ≠ .running → withdrawGrant s = u) ∧
    (u.sequencer.phase = .running → (yawStep u.yst u.sequencer.step).stop = false →
      withdrawGrant s =
        { inStepZero u with sequencer := { (inStepZero u).sequencer with phase := .parked } }) ∧
    (u.sequencer.phase = .running → (yawStep u.yst u.sequencer.step).stop = true → u.sequencer.step ≠ 0 →
      ∀ r, u.sequencer.record = some r → r.mode ≠ .seek →
      withdrawGrant s = moveGone (inStepZero u)))

/-- A raise and an end at the fault manager (R154, R155, R160, R161, R168, R169): what they do to the code's record, and
what they append to the log, a full log's overwrite included; an end is logged, as ENDED, only under SELF_CLEARING. One that
changes no latch does nothing more; one that does brings the action summary up to date (R164).
The fault watches (R156): one that is not OFF is judged while its point is FORCED, or FRESH of age 0, against its threshold
and hysteresis, raised with the value, and held otherwise; they are judged in order of j. -/
def Obligations.RecordsFollowRaisesAndEnds : Prop :=
  (∀ (k : Nat) (c : Int) (s : State), k < 64 → s.faults.length = 64 →
    (levelCode k = true → (s.fault k).condition = true →
      raiseRecord k c s = s.setFault k { s.fault k with context := c }) ∧
    (levelCode k = false ∨ (s.fault k).condition = false →
      (s.log.records.length < 64 ∨ k ≠ 34 →
        (raiseRecord k c s).fault k =
          { condition := levelCode k
            latch := (s.fault k).latch || levelCode k || (s.faultEntry k).latching
            pending := (s.fault k).pending || (s.faultEntry k).report || decide ((s.faultEntry k).severity = 4)
            reasserted := false
            count := min 255 ((s.fault k).count + 1)
            context := c
            raiseTime := s.clock.seconds }) ∧
      LogTakes k .raised c s (raiseRecord k c s)) ∧
    ((s.fault k).condition = false → endRecord k s = s) ∧
    ((s.fault k).condition = true → (s.faultEntry k).latching = true →
      endRecord k s = s.setFault k { s.fault k with condition := false, reasserted := false }) ∧
    ((s.fault k).condition = true → (s.faultEntry k).latching = false →
      ((s.log.records.length < 64 ∨ k ≠ 34) →
        (endRecord k s).fault k = { s.fault k with condition := false, latch := false, reasserted := false }) ∧
      LogTakes k .ended (s.fault k).context s (endRecord k s))) ∧
  (∀ (k : Nat) (c : Int) (s : State), s.faults.length = 64 →
    ((raiseRecord k c s).faults.map (fun r => r.latch) = s.faults.map (fun r => r.latch) →
      raise k c s = raiseRecord k c s) ∧
    ((raiseRecord k c s).faults.map (fun r => r.latch) ≠ s.faults.map (fun r => r.latch) →
      (raise k c s).summary = (raise k c s).formSummary) ∧
    ((endRecord k s).faults.map (fun r => r.latch) = s.faults.map (fun r => r.latch) →
      endCondition k s = endRecord k s) ∧
    ((endRecord k s).faults.map (fun r => r.latch) ≠ s.faults.map (fun r => r.latch) →
      (endCondition k s).summary = (endCondition k s).formSummary)) ∧
  (∀ (s : State) (j : Nat) (p : Point) (limit hysteresis : Int), j < 16 → p = s.point (figure s.fat (64 + 4 * j) / 256) →
    limit = (if 32768 ≤ figure s.fat (65 + 4 * j) then -4294967296 else 0) + (figure s.fat (65 + 4 * j) * 65536 : Nat) +
      (figure s.fat (66 + 4 * j) : Nat) →
    hysteresis = figure s.fat (67 + 4 * j) →
    (figure s.fat (64 + 4 * j) % 256 = 0 ∨ p.quality = .stale ∨ p.quality = .empty ∨ (p.quality = .fresh ∧ p.age ≠ 0) →
      watchUpdate s j = s) ∧
    (p.quality = .forced ∨ (p.quality = .fresh ∧ p.age = 0) → ∀ appears ends : Bool,
      (figure s.fat (64 + 4 * j) % 256 = 1 ∧ appears = decide (limit < p.value) ∧
          ends = decide (p.value ≤ limit - hysteresis)) ∨
        (figure s.fat (64 + 4 * j) % 256 = 2 ∧ appears = decide (p.value < limit) ∧
          ends = decide (limit + hysteresis ≤ p.value)) →
      watchUpdate s j =
        if s.condition (48 + j) then (if ends then endCondition (48 + j) s else s)
        else if appears then raise (48 + j) p.value s else s)) ∧
  (∀ (s : State) (after : Nat → State), after 0 = s → (∀ j, j < 16 → after (j + 1) = watchUpdate (after j) j) →
    watchesUpdate s = after 16)

/-! ## Edges of the sensor inputs

The statements about commands are made where nothing is outstanding (log entry 4). -/

/-- FILTERED_TRANSITION (R109, R110, R120) from inputs that stand at their filtered levels, the new levels standing for `held`
µs: the levels are sampled and the time passes with all that falls in it. Where no other event falls in it, a level that
changes less than the filter width W before the end of that time changes nothing but the raw input and the time. One that
holds longer is taken W µs later: an edge of A or B with the direction of the quadrature table, a double transition raising
YAW_QUADRATURE, a rising index edge as the index reference, a falling one as nothing; the rest of `held` then passes. One that
has held for W µs just then is taken when that microsecond passes, so that with W = 0 changes of A and B by two commands of
one microsecond are a double transition (log entry 30). A level that has stood W µs or more and is taken back is not lost:
its edge comes first. -/
def Obligations.FilteredTransitionsAreDecoded : Prop :=
  ∀ (held : Nat) (first : Bool) (s : State), s.due = [] → s.inputs.toothA.level = s.tracker.filtA →
    s.inputs.toothB.level = s.tracker.filtB → s.inputs.index.level = s.tracker.filtIndex →
    s.tracker.quadA = s.tracker.filtA → s.tracker.quadB = s.tracker.filtB →
    ∀ (a b i : Bool) (now edge done : Micros) (u : State),
    a = s.tracker.filtA → b = s.tracker.filtB → i = s.tracker.filtIndex → now = s.timebase →
    edge = now + BitVec.ofNat 32 s.filterWidth → done = now + BitVec.ofNat 32 held → u = { s with timebase := edge } →
    (∀ newA newB newI : Bool, exec (.filteredTransition newA newB newI held first) s = .next (letPass first held { s with
      inputs :=
        { toothA := if newA = a then s.inputs.toothA else { level := newA, since := now }
          toothB := if newB = b then s.inputs.toothB else { level := newB, since := now }
          index := if newI = i then s.inputs.index else { level := newI, since := now } } })) ∧
    (QuietFor held s →
      exec (.filteredTransition a b i held first) s = .next { s with timebase := done } ∧
      (held ≤ s.filterWidth → exec (.filteredTransition (!a) b i held first) s = .next { s with
        timebase := done, inputs := { s.inputs with toothA := { level := !a, since := now } } })) ∧
    (s.filterWidth < held → QuietFor s.filterWidth s →
      (∀ v, v = toothEdge (if a = b then 1 else -1) { u with
          inputs := { s.inputs with toothA := { level := !a, since := now } }
          tracker := { s.tracker with filtA := !a, quadA := !a } } → QuietFor (held - s.filterWidth) v →
        exec (.filteredTransition (!a) b i held first) s = .next { v with timebase := done }) ∧
      (∀ v, v = toothEdge (if a = b then -1 else 1) { u with
          inputs := { s.inputs with toothB := { level := !b, since := now } }
          tracker := { s.tracker with filtB := !b, quadB := !b } } → QuietFor (held - s.filterWidth) v →
        exec (.filteredTransition a (!b) i held first) s = .next { v with timebase := done }) ∧
      (∀ v, v = raise fcQuadrature s.tracker.heading { u with
          inputs := { s.inputs with toothA := { level := !a, since := now }, toothB := { level := !b, since := now } }
          tracker := { s.tracker with filtA := !a, quadA := !a, filtB := !b, quadB := !b } } →
        QuietFor (held - s.filterWidth) v →
        exec (.filteredTransition (!a) (!b) i held first) s = .next { v with timebase := done }) ∧
      (i = true → QuietFor (held - s.filterWidth) u →
        exec (.filteredTransition a b false held first) s = .next { s with
          timebase := done
          inputs := { s.inputs with index := { level := false, since := now } }
          tracker := { s.tracker with filtIndex := false } }) ∧
      (i = false → ∃ v : State,
        v.tracker.filtIndex = true ∧ v.tracker.heading = s.indexPosition ∧ v.tracker.quality = .referenced ∧
        v.tracker.deadReckon = 0 ∧ v.tracker.forcedRun = 0 ∧ v.tracker.window = none ∧
        v.tracker.twist = s.tracker.twist ∧ v.timebase = edge ∧
        (s.tracker.quality = .referenced → s.faults.length = 64 →
          2 < min (((s.tracker.heading : Int) - s.indexPosition).natAbs : Int)
            ((s.ppr : Int) - (((s.tracker.heading : Int) - s.indexPosition).natAbs : Int)) →
          (v.fault fcIndexMismatch).context = s.tracker.heading) ∧
        (QuietFor (held - s.filterWidth) v →
          exec (.filteredTransition a b true held first) s = .next { v with timebase := done }))) ∧
    (s.filterWidth = 0 → ∀ t v : State,
      t = { s with inputs := { s.inputs with toothA := { level := !a, since := now } } } →
      v = raise fcQuadrature s.tracker.heading { t with
        inputs := { t.inputs with toothB := { level := !b, since := now } }
        tracker := { s.tracker with filtA := !a, quadA := !a, filtB := !b, quadB := !b } } →
      exec (.filteredTransition (!a) b i 0 first) s = .next t ∧
      (0 < held → QuietFor held v →
        exec (.filteredTransition (!a) (!b) i held first) t = .next { v with timebase := done })) ∧
    (∀ (since : Micros) (t v w : State),
      t = { s with inputs := { s.inputs with toothA := { level := !a, since := since } } } →
      v = toothEdge (if a = b then 1 else -1) { t with tracker := { s.tracker with filtA := !a, quadA := !a } } →
      w = { v with inputs := { s.inputs with toothA := { level := a, since := now } } } →
      s.filterWidth ≤ s.elapsed since → QuietFor held w →
      exec (.filteredTransition a b i held first) t = .next { w with timebase := done })

/-- An edge of direction `d` at the tracker (R111, R112, R117, R119, R121, R131): a bounce changes nothing but its count in a
step other than 0; an absorbed edge leaves heading and twist, undoes one dead-reckoned count and closes the window; any other
is counted: heading and twist move by `d`, the window closes, the forced count is 0, the outputs of R121 are written, a slip
edge is counted in step 0, YAW_SLIP being raised once a minute when the count exceeds its limit (R119), and a move that is
still held has `d` less to go. In a step other than 0 the interval since the last accepted edge enters a seeded history and
the base time follows (R113); a RUNNING expected-edge timer restarts with it (R115); a counted edge is then handed to the
sequencer, and the twist judged (R147). A step handed to the sequencer (R131) counts in a step other than 0, and enters the next one
when it meets EDGES or ON_TARGET; that the remaining counts go on beyond 32 bits is log entry 23. That an edge at the moment
of the closing is absorbed when it is taken first is DEDUCED, log entry 21. -/
def Obligations.EdgesAreRejectedAbsorbedOrCounted : Prop :=
  (∀ (d : Int) (s : State), (d = 1 ∨ d = -1) → s.points.length = 256 →
    (∀ e, s.tracker.lastEdge = some e → s.elapsed e < s.tracker.baseTime * s.bounceMask / 128 →
      (s.sequencer.step = 0 → toothEdge d s = s) ∧
      (s.sequencer.step ≠ 0 → min 65535 (s.tracker.bounces + 1) ≠ 16 → toothEdge d s =
        { s with tracker := { s.tracker with bounces := min 65535 (s.tracker.bounces + 1) } }) ∧
      (s.sequencer.step ≠ 0 → s.tracker.bounces = 15 → toothEdge d s =
        raise fcBounce s.tracker.heading { s with tracker := { s.tracker with bounces := 16 } })) ∧
    ((∀ e, s.tracker.lastEdge = some e → s.tracker.baseTime * s.bounceMask / 128 ≤ s.elapsed e) →
      (∀ w, s.tracker.window = some w → w.direction = d → s.elapsed w.start ≤ w.length →
        ∃ t, toothEdge d s = t ∧ t.tracker.heading = s.tracker.heading ∧ t.tracker.twist = s.tracker.twist ∧
          t.tracker.deadReckon = s.tracker.deadReckon - 1 ∧ t.tracker.window = none ∧ t.tracker.forcedRun = 0 ∧
          t.tracker.lastEdge = some s.timebase ∧
          t.tracker.quality = (if s.tracker.deadReckon = 1 ∧ s.tracker.quality = .deadReckoned then .referenced
            else s.tracker.quality)) ∧
      ((∀ w, s.tracker.window = some w → w.direction ≠ d ∨ w.length < s.elapsed w.start) → s.ppr ≠ 0 →
        ∃ t, toothEdge d s = t ∧
          (t.tracker.heading : Int) = ((s.tracker.heading : Int) + d) % s.ppr ∧
          t.tracker.twist = max (-2147483647) (min (s.tracker.twist + d) 2147483647) ∧
          t.tracker.deadReckon = s.tracker.deadReckon ∧ t.tracker.quality = s.tracker.quality ∧
          t.tracker.window = none ∧ t.tracker.forcedRun = 0 ∧ t.tracker.lastEdge = some s.timebase ∧
          t.tracker.slips = (if s.sequencer.step = 0 then min 65535 (s.tracker.slips + 1) else s.tracker.slips) ∧
          t.pointValue 42 = ((t.tracker.heading * 3600 / s.ppr : Nat) : Int) ∧
          t.pointValue 43 = t.tracker.twist ∧ t.pointValue 63 = s.tracker.quality.code ∧
          (∀ n, n = min 65535 (s.tracker.slips + 1) → s.faults.length = 64 →
            (s.sequencer.step = 0 ∧ s.slipLimit < n ∧ s.tracker.slipRaised = false →
              t.tracker.slipRaised = true ∧ (t.fault fcSlip).context = n ∧
              (t.fault fcSlip).count = min 255 ((s.fault fcSlip).count + 1)) ∧
            (¬ (s.sequencer.step = 0 ∧ s.slipLimit < n ∧ s.tracker.slipRaised = false) →
              t.tracker.slipRaised = s.tracker.slipRaised ∧ t.fault fcSlip = s.fault fcSlip)) ∧
          (∀ r r', s.sequencer.record = some r → t.sequencer.record = some r' →
            r'.remaining = r.remaining - d)) ∧
      (s.ppr ≠ 0 → ∀ (same : Bool) (h : List Nat) (base count : Nat) (u : State),
        (same = true ↔ s.tracker.lastEdge = none ∨ s.sequencer.step = 0 ∨ s.tracker.history = []) →
        h = (if same then s.tracker.history
          else (s.elapsed (s.tracker.lastEdge.getD 0) :: s.tracker.history).take 8) →
        base = (if same then s.tracker.baseTime else (h.take (2 ^ figure s.ycf 7)).sum / 2 ^ figure s.ycf 7) →
        u = { s with tracker := { s.tracker with
          lastEdge := some s.timebase, window := none, forcedRun := 0, history := h, baseTime := base
          timer := s.tracker.timer.map (fun x =>
            { x with start := s.timebase, limit := base * s.edgeTimeout / 128 }) } } →
        count = (((s.tracker.heading : Int) + d) % s.ppr).toNat →
        (∀ w, s.tracker.window = some w → w.direction = d → s.elapsed w.start ≤ w.length → ∀ v : State,
          v = { u with
            tracker := { u.tracker with
              deadReckon := s.tracker.deadReckon - 1
              quality := if s.tracker.deadReckon = 1 ∧ s.tracker.quality = .deadReckoned then .referenced
                else s.tracker.quality }
            points := if s.tracker.deadReckon = 1 ∧ s.tracker.quality = .deadReckoned then
                ((s.points.set 42
                    { value := ((s.tracker.heading * 3600 / s.ppr : Nat) : Int), quality := .fresh, age := 0 }).set 43
                  { value := s.tracker.twist, quality := .fresh, age := 0 }).set 63
                  { value := 1, quality := .fresh, age := 0 }
              else s.points } →
          ByFaultsOnly v (toothEdge d s) ∧ (s.tracker.forcedRun = 0 → toothEdge d s = v) ∧
          (s.tracker.forcedRun ≠ 0 → 1 ≤ s.forcedLimit → (toothEdge d s).condition fcTrackLost = false)) ∧
        ((∀ w, s.tracker.window = some w → w.direction ≠ d ∨ w.length < s.elapsed w.start) → ∀ v : State,
          v = { u with
            tracker := { u.tracker with
              heading := count
              twist := max (-2147483647) (min (s.tracker.twist + d) 2147483647)
              slips := if s.sequencer.step = 0 then min 65535 (s.tracker.slips + 1) else s.tracker.slips
              slipRaised := s.tracker.slipRaised ||
                decide (s.sequencer.step = 0 ∧ s.slipLimit < min 65535 (s.tracker.slips + 1)) }
            points := ((s.points.set 42
                { value := ((count * 3600 / s.ppr : Nat) : Int), quality := .fresh, age := 0 }).set 43
              { value := max (-2147483647) (min (s.tracker.twist + d) 2147483647), quality := .fresh, age := 0 }).set 63
              { value := s.tracker.quality.code, quality := .fresh, age := 0 } } →
          ∃ x, ByFaultsOnly v x ∧ toothEdge d s = judgeTwist (handStep d x) ∧
            (s.tracker.forcedRun = 0 → v.tracker.slipRaised = s.tracker.slipRaised → x = v))))) ∧
  (∀ (d : Int) (s u : State) (y : YawStep), y = yawStep s.yst s.sequencer.step →
    u = { s with sequencer := { s.sequencer with
      record := s.sequencer.record.map (fun r => { r with remaining := r.remaining - d })
      counts := if s.sequencer.step = 0 then s.sequencer.counts else min 65535 (s.sequencer.counts + 1) } } →
    (s.sequencer.step = 0 → handStep d s = u) ∧
    (s.sequencer.step ≠ 0 →
      ((y.trigger = 1 ∧ y.argument ≤ u.sequencer.counts) ∨ (y.trigger = 2 ∧ WithinStopBand u) →
        handStep d s = enterStep y.next u) ∧
      (¬ ((y.trigger = 1 ∧ y.argument ≤ u.sequencer.counts) ∨ (y.trigger = 2 ∧ WithinStopBand u)) →
        handStep d s = u)))

/-- FORCED_ADVANCE (R115, R116, R118), ABSORPTION_WINDOW_CLOSE (R117) and LAST_EDGE_FORGET (R111). Time passes, with all that
falls in it, up to the moment of the event, and the event is taken there unless what fell before it has stopped or restarted
its time (log entry 9). At the expiry of the timer heading and twist move by the commanded direction, the dead-reckon and forced counts
go up, REFERENCED becomes DEAD_RECKONED, YAW_TRACK_LOST is present exactly from the forced limit on, and unless the move has
ended in step 0 a window of the base time is open; the timer restarts with the base time held, and the forced step is handed
to the sequencer and the twist judged (R116, R131, R147). A limit of 2^32 µs or more is log entry 29's. With no timer, window or edge nothing happens (log entry 9). -/
def Obligations.ForcedAdvanceAndTheTrackersTimers : Prop :=
  ∀ r : State, r.due = [] →
    (r.tracker.timer = none → exec .forcedAdvance r = .next r) ∧
    (∀ timer s, r.tracker.timer = some timer → s = letPass false (timer.limit - r.elapsed timer.start) r →
      s.tracker.timer ≠ some timer → exec .forcedAdvance r = .next s) ∧
    (∀ timer s c, r.tracker.timer = some timer → s = letPass false (timer.limit - r.elapsed timer.start) r →
      s.tracker.timer = some timer → c = (s.point 38).value → s.ppr ≠ 0 → s.faults.length = 64 →
      s.points.length = 256 → s.tracker.forcedRun < 255 →
      ∃ t, exec .forcedAdvance r = .next t ∧ t.timebase = s.timebase ∧
        (t.tracker.heading : Int) = ((s.tracker.heading : Int) + c) % s.ppr ∧
        t.tracker.twist = max (-2147483647) (min (s.tracker.twist + c) 2147483647) ∧
        t.tracker.deadReckon = min 65535 (s.tracker.deadReckon + 1) ∧
        t.tracker.forcedRun = s.tracker.forcedRun + 1 ∧
        t.tracker.quality = (if s.tracker.quality = .referenced then .deadReckoned else s.tracker.quality) ∧
        t.tracker.lastEdge = s.tracker.lastEdge ∧ t.tracker.history = s.tracker.history ∧
        (t.condition fcTrackLost = true ↔ s.forcedLimit ≤ s.tracker.forcedRun + 1) ∧
        (t.sequencer.step ≠ 0 → t.tracker.window =
          some { direction := c, start := t.timebase, length := s.tracker.baseTime }) ∧
        t.pointValue 42 = ((t.tracker.heading * 3600 / s.ppr : Nat) : Int) ∧ t.pointValue 43 = t.tracker.twist ∧
        (∀ (count : Nat) (v : State), count = (((s.tracker.heading : Int) + c) % s.ppr).toNat →
          v = { s with
            timebase := t.timebase
            tracker := { s.tracker with
              heading := count
              twist := max (-2147483647) (min (s.tracker.twist + c) 2147483647)
              deadReckon := min 65535 (s.tracker.deadReckon + 1)
              forcedRun := s.tracker.forcedRun + 1
              quality := if s.tracker.quality = .referenced then .deadReckoned else s.tracker.quality
              window := some { direction := c, start := t.timebase, length := s.tracker.baseTime }
              timer := some { start := t.timebase, limit := s.tracker.baseTime * s.edgeTimeout / 128 } }
            points := ((s.points.set 42
                { value := ((count * 3600 / s.ppr : Nat) : Int), quality := .fresh, age := 0 }).set 43
              { value := max (-2147483647) (min (s.tracker.twist + c) 2147483647), quality := .fresh, age := 0 }).set 63
              { value := if s.tracker.quality = .referenced then 2 else s.tracker.quality.code,
                quality := .fresh, age := 0 } } →
          ∃ x, ByFaultsOnly v x ∧ t = judgeTwist (handStep c x) ∧
            (s.condition fcTrackLost = decide (s.forcedLimit ≤ s.tracker.forcedRun + 1) → x = v))) ∧
    (r.tracker.window = none → exec .absorptionWindowClose r = .next r) ∧
    (∀ w s, r.tracker.window = some w → s = letPass false (w.length - r.elapsed w.start) r →
      exec .absorptionWindowClose r =
        if s.tracker.window.map (fun x => (x.start, x.length)) = some (w.start, w.length) then
          .next { s with tracker := { s.tracker with window := none } }
        else .next s) ∧
    (r.tracker.lastEdge = none → exec .lastEdgeForget r = .next r) ∧
    (∀ e s, r.tracker.lastEdge = some e → s = letPass false (2147483648 - r.elapsed e) r →
      exec .lastEdgeForget r =
        if s.tracker.lastEdge = some e then .next { s with tracker := { s.tracker with lastEdge := none } } else .next s)

/-! ## The sequencer

Step timeout, rest and exercise are consequences taken from the list `due` (log entry 4). -/

/-- The sequencer at a return-lane commit (R129, R130): its outputs are refreshed; in a step other than 0 the commit is
counted, a trigger met by it enters the next step, and only then an exhausted timeout brings YAW_STEP_TIMEOUT, taken in place
or left as a consequence of the same moment (log entry 4).
YAW_STEP_TIMEOUT (R130): the raise with the step as context, then, unless the raise has ended or parked the move, the
timeout step is entered. An entry into a step 1 to 7 that does not chain (R128, R115) writes the output pattern, clears both
counters and starts or stops the edge timer, and changes nothing else; under a valid step table an entry into an IMMEDIATE
step, or an ON_TARGET step within the stop band, enters the next step at once (R131); an entry into step 0 through the table
ends the move (R132, R97, R146). -/
def Obligations.StepTimeoutEntersItsStep : Prop :=
  ∀ (s : State) (k : Nat) (y : YawStep), y = yawStep s.yst k →
    (s.due = [.stepTimeout] → s.sequencer.step = k →
      (k = 0 → exec .yawStepTimeout s = .next { s with due := [] }) ∧
      (k ≠ 0 → ∃ u, u = raise fcStepTimeout k { s with due := [] } ∧
        (u.sequencer.phase = .running → exec .yawStepTimeout s = .next (enterStep y.timeoutStep u)) ∧
        (u.sequencer.phase ≠ .running → exec .yawStepTimeout s = .next u))) ∧
    (s.sequencer.step = k → ∀ (u : State) (p : Point) (met : Prop), p = s.point 6 →
      u = { s with points := stepPoints k s, sequencer := { s.sequencer with
        commits := if k = 0 then s.sequencer.commits else min 65535 (s.sequencer.commits + 1) } } →
      (met ↔ (y.trigger = 0 ∧ y.argument ≤ u.sequencer.commits) ∨
        (y.trigger = 3 ∧ (p.quality = .fresh ∨ p.quality = .forced) ∧ p.value ≤ (y.argument : Int)) ∨
        (y.trigger = 4 ∧ (p.quality = .fresh ∨ p.quality = .forced) ∧ (y.argument : Int) ≤ p.value) ∨
        (y.trigger = 2 ∧ WithinStopBand u)) → ∀ defer : Bool,
      (k = 0 → sequencerCommit defer s = u) ∧
      (k ≠ 0 → met → sequencerCommit defer s = enterStep y.next u) ∧
      (k ≠ 0 → ¬ met → y.timeout ≠ 0 → y.timeout ≤ u.sequencer.commits →
        sequencerCommit true s = { u with due := u.due ++ [.stepTimeout] } ∧
        sequencerCommit false s = stepTimeout u) ∧
      (k ≠ 0 → ¬ met → (y.timeout = 0 ∨ u.sequencer.commits < y.timeout) → sequencerCommit defer s = u)) ∧
    (k ≠ 0 → (∀ w, ¬ WordFails 6 s.yst w) → (y.trigger = 5 ∨ (y.trigger = 2 ∧ WithinStopBand s)) → k < 8 →
      ∀ direction : Int, direction = (let d := (s.sequencer.record.map (·.direction)).getD 0
        if y.direction = 1 then d else if y.direction = 2 then -d else 0) →
      enterStep k s = enterStep y.next { s with
        points := stepPoints k s
        sequencer := { s.sequencer with step := k, commits := 0, counts := 0 }
        tracker := { s.tracker with
          timer := if y.motion = true ∧ (direction = 1 ∨ direction = -1) then
            some { start := s.timebase, limit := s.tracker.baseTime * s.edgeTimeout / 128 } else none } }) ∧
    (k ≠ 0 → y.trigger ≠ 5 → (y.trigger = 2 → ¬ WithinStopBand s) → s.points.length = 256 →
      ∀ (r : MoveRecord) (dir : Int), s.sequencer.record = some r →
        dir = (if y.direction = 1 then r.direction else if y.direction = 2 then -r.direction else 0) →
        ∃ t, enterStep k s = t ∧
          t.point 36 = { value := y.brake, quality := .fresh, age := 0 } ∧
          t.point 37 = { value := ((y.drives &&& r.driveMask &&& figure s.ycf 2 : Nat) : Int),
                         quality := .fresh, age := 0 } ∧
          t.point 38 = { value := dir, quality := .fresh, age := 0 } ∧
          t.point 39 = { value := y.speed, quality := .fresh, age := 0 } ∧
          t.point 60 = { value := k, quality := .fresh, age := 0 } ∧
          (∀ n, n ∉ [36, 37, 38, 39, 60] → t.point n = s.point n) ∧
          t = { s with
            points := t.points
            sequencer := { s.sequencer with step := k, commits := 0, counts := 0 }
            tracker := { s.tracker with
              timer := if y.motion = true ∧ (dir = 1 ∨ dir = -1) then
                some { start := s.timebase, limit := s.tracker.baseTime * s.edgeTimeout / 128 } else none } }) ∧
    (s.sequencer.record.isSome = true → (∀ r, s.sequencer.record = some r → r.mode ≠ .seek) →
      s.points.length = 256 →
      ∃ t, enterStep 0 s = t ∧
        (∀ n, n ∈ [36, 37, 38, 39, 60] → t.point n = { value := 0, quality := .fresh, age := 0 }) ∧
        (∀ n, n ∉ [36, 37, 38, 39, 60] → t.point n = s.point n) ∧
        t = { s with
          points := t.points
          sequencer := { step := 0, phase := .none, record := none, commits := 0, counts := 0 }
          arbiter := { s.arbiter with yawClaim := none, yawGrant := none }
          tracker := { s.tracker with timer := none, window := none }
          decision := { s.decision with startDwell := 0 } })

/-- REST_BEGIN and REST_END (R149), PUMP_EXERCISE_START and PUMP_EXERCISE_END (R90), each when its moment has come: rest runs
with its minutes, YAW_DUTY_REST present, raised with the duty counter, and an AUTO or UNWIND move stopped, and ends with duty counter and drive seen
cleared; the exercise runs with its seconds and the countdown reloaded, and ends. -/
def Obligations.RestAndExerciseBeginAndEnd : Prop :=
  ∀ s : State, s.faults.length = 64 →
    (s.due = [.restBegin] → ∃ u t, exec .restBegin s = .next t ∧ u.condition fcDutyRest = true ∧
      t.decision.rest = some s.restTime ∧
      (s.condition fcDutyRest = false → (u.fault fcDutyRest).context = (s.decision.duty : Int)) ∧
      ByFaultsOnly { s with due := [], decision := { s.decision with rest := some s.restTime } } u ∧
      ((∃ r, u.sequencer.record = some r ∧ (r.mode = .auto ∨ r.mode = .unwind)) → t = stopMove u) ∧
      ((∀ r, u.sequencer.record = some r → r.mode ≠ .auto ∧ r.mode ≠ .unwind) → t = u)) ∧
    (s.due = [.restEnd] → ∃ t, exec .restEnd s = .next t ∧ t.condition fcDutyRest = false ∧
      ByFaultsOnly { s with due := [], decision := { s.decision with rest := none, duty := 0, driveSeen := false } } t) ∧
    (s.due = [.exerciseStart] → exec .pumpExerciseStart s = .next { s with
      due := []
      thermal := { s.thermal with exercise := some (figure s.thm 23), idleCountdown := some (figure s.thm 22) } }) ∧
    (s.due = [.exerciseEnd] → exec .pumpExerciseEnd s = .next { s with
      due := [], thermal := { s.thermal with exercise := none } })

/-! ## Clock and supervision

The minute is a consequence of its second, taken from the list `due` (log entry 4). -/

/-- CLOCK_SECOND and CLOCK_MINUTE (R172, R90, R148, R89, R119). Time passes, with all that falls in it, up to the second (log
entry 9). A second moves the clock and its phase, counts down a running
exercise and counts the duty while YAW_EN is not 0, both in RUN and ISLAND alone; at 0 the exercise ends and at duty max rest
begins, each as a consequence of the same moment; a count divisible by 60 gives the minute event. The minute clears the slip
count and, in RUN and ISLAND, counts the idle countdown, the duty decay or the rest down. Nothing else changes. -/
def Obligations.ClockSecondAndMinuteCount : Prop :=
  ∀ r s : State, s = letPass false (1000000 - r.elapsed r.clock.phaseStart) r →
    (r.due = [] → ∀ (running : Bool) (exercise : Option Nat) (duty : Nat) (counted : Bool),
      running = decide (s.opState ≠ .pass) →
      exercise = (if running then s.thermal.exercise.map (· - 1) else s.thermal.exercise) →
      counted = (running && decide ((s.point 37).value ≠ 0)) →
      duty = (if counted then min 65535 (s.decision.duty + 1) else s.decision.duty) →
      ∃ t, exec (.clockSecond false false) r = .next t ∧
        t.due = (if running = true ∧ exercise = some 0 then [.exerciseEnd] else []) ++
          (if counted = true ∧ s.dutyMax ≤ duty ∧ s.decision.rest = none then [.restBegin] else []) ++
          (if (s.clock.seconds + 1).toNat % 60 = 0 then [.minute true true] else []) ∧
        t = { s with
          due := t.due
          clock := { s.clock with seconds := s.clock.seconds + 1, phaseStart := s.clock.phaseStart + 1000000 }
          thermal := { s.thermal with exercise := exercise }
          decision := { s.decision with duty := duty, driveSeen := s.decision.driveSeen || counted } }) ∧
    (r.due = [] → (r.clock.seconds + 1).toNat % 60 ≠ 0 → ∀ first second : Bool,
      exec (.clockSecond first second) r = exec (.clockSecond false false) r) ∧
    (r.due = [] → ∀ first second : Bool, ∃ t, exec (.clockSecond first second) r = .next t ∧
      t.clock = { r.clock with seconds := r.clock.seconds + 1, phaseStart := r.clock.phaseStart + 1000000 }) ∧
    (∀ s : State, s.due = [.minute true true] → ∀ (running : Bool), running = decide (s.opState ≠ .pass) →
      ∃ t, exec .clockMinute s = .next t ∧
        t.due = (if running = true ∧ s.thermal.idleCountdown.map (· - 1) = some 0 ∧ s.exerciseInterval ≠ 0
            then [.exerciseStart] else []) ++
          (if running = true ∧ s.decision.rest.map (· - 1) = some 0 then [.restEnd] else []) ∧
        t = { s with
          due := t.due
          tracker := { s.tracker with slips := 0, slipRaised := false }
          thermal := { s.thermal with idleCountdown :=
            if running = false then s.thermal.idleCountdown
            else if s.exerciseInterval = 0 then none
            else s.thermal.idleCountdown.map (· - 1) }
          decision := if running = false then s.decision
            else if s.decision.rest = none then
              { s.decision with
                duty := if s.decision.driveSeen then s.decision.duty else s.decision.duty - s.dutyDecay
                driveSeen := false }
            else { s.decision with rest := s.decision.rest.map (· - 1) } })

/-- SUPERVISION_EXPIRY and ISLAND_FRAME_DUE (R178, R180, R181, R22). Time passes, with all that falls in it,
up to the moment of the event, and it is taken there unless what fell before it has changed its time (log entry 9): the
supervision timer stops and MASTER_SILENT is
present, raised with the previous cycle count or 255; RUN becomes ISLAND, where the island timer runs with the ACTIVE period
and the first frame falls due; PASS stays. A due frame restarts the timer and begins on an IDLE P1 with an EMPTY buffer, or
waits; a frame already waiting stands. Timers that are STOPPED do nothing (log entry 9). `islandDue` is the falling due. -/
def Obligations.SilenceTurnsRunIntoIsland : Prop :=
  ∀ r : State, r.due = [] →
    (r.supervision.timer = none → exec .supervisionExpiry r = .next r) ∧
    (∀ start s, r.supervision.timer = some start →
      s = letPass false (r.supervision.limit - r.elapsed start) r →
      ¬ (s.supervision.timer = some start ∧ s.supervision.limit = r.supervision.limit) →
      exec .supervisionExpiry r = .next s) ∧
    (∀ start s, r.supervision.timer = some start →
      s = letPass false (r.supervision.limit - r.elapsed start) r →
      s.supervision.timer = some start → s.supervision.limit = r.supervision.limit →
      ∃ u t, exec .supervisionExpiry r = .next t ∧
        ByFaultsOnly { s with supervision := { s.supervision with timer := none } } u ∧
        (s.faults.length = 64 → u.condition fcMasterSilent = true ∧
          (s.condition fcMasterSilent = false → (u.fault fcMasterSilent).context = s.prevCycle.getD 255)) ∧
        (s.opState ≠ .run → t = u) ∧
        (s.opState = .run → t = islandDue { u with opState := .island } ∧ t.opState = .island)) ∧
    (r.supervision.islandTimer = none → exec .islandFrameDue r = .next r) ∧
    (∀ timer s, r.supervision.islandTimer = some timer →
      s = letPass false (timer.period - r.elapsed timer.start) r →
      exec .islandFrameDue r = if s.supervision.islandTimer = some timer then .next (islandDue s) else .next s) ∧
    (∀ s u : State, u = { s with
        supervision := { s.supervision with islandTimer := some { start := s.timebase, period := s.islandPeriod } } } →
      (s.supervision.waiting = true → islandDue s = u) ∧
      (s.supervision.waiting = false → (s.p1.busy = true ∨ s.hold.occupied = true) →
        islandDue s = { u with supervision := { u.supervision with waiting := true } }) ∧
      (s.supervision.waiting = false → s.p1.busy = false → s.hold.occupied = false →
        islandDue s = { u with
          p1 := { busy := true, bytes := [], ended := false }
          outLane := s.outLane.opened .island
          islandBytes := islandFrame s.itp ((s.prevCycle.getD 127 + 1) % 128) ++
            checkBytes (crc16 (islandFrame s.itp ((s.prevCycle.getD 127 + 1) % 128))) }))

/-! ## Laws that every step keeps -/

/-- The state after reset keeps every law of Safety.lean (R28, R41, R77, R108, R138, R159, R164, R168, R172, R175, R188). -/
def Obligations.ResetMeetsTheLaws : Prop :=
  Shaped State.reset ∧ LogLaw State.reset ∧ ActionLaw State.reset ∧ MoveLaw State.reset ∧ ListLaw State.reset ∧
    LockLaw State.reset ∧ SilenceLaw State.reset ∧ RecordLaw State.reset

/-- Every step keeps the number of points, entry counters, fault records, locks and table words, and the bounds of the
frames-in-flight list, the log, the histories, the hold buffer and the frames in passage (R3, R7, R16, R22, R23, R41, R63,
R77, R113, R159, R168, R188). -/
def Obligations.EveryStepKeepsTheShape : Prop :=
  ∀ s t : State, Shaped s → step s = .next t → Shaped t

/-- Every step keeps the law of the log: at most 64 records, their sequences consecutive and the newest one less than the
next (R168, R169, R171). -/
def Obligations.EveryStepKeepsTheLogsSequence : Prop :=
  ∀ s t : State, LogLaw s → step s = .next t → LogLaw t

/-- Every step leaves the action summary formed over the latched codes (R164), trip seen equal to its converter trip (R59,
R60), and L 0 while that trip is in effect (R57). -/
def Obligations.EveryStepKeepsTheActionsInEffect : Prop :=
  ∀ s t : State, ActionLaw s → step s = .next t → ActionLaw t

/-- Every step leaves move record, phase, step, yaw claim and grant in agreement (R127, R132 to R137, R97), no move held
while the yaw hold is in effect (R137), and the expected-edge timer STOPPED in step 0 (R115). -/
def Obligations.EveryStepKeepsTheMovesLaw : Prop :=
  ∀ s t : State, MoveLaw s → step s = .next t → MoveLaw t

/-- Every step leaves a frame in flight bound to the ACTIVE generation or, while DRAINING, to the one before (R189, R190),
and no locked table in a scheduled exchange (R194, R197); and no step but PIN_RESET changes the ACTIVE copy of a table that
was locked before it. -/
def Obligations.EveryStepKeepsTheBanksLaws : Prop :=
  ∀ s t : State, ListLaw s → LockLaw s → step s = .next t →
    ListLaw t ∧ LockLaw t ∧
    (NotPinReset s → ∀ k, k < 9 → s.locked k = true → t.banks.active[k]? = s.banks.active[k]?)

/-- Every step leaves the island timer RUNNING exactly in ISLAND, MASTER_SILENT present there, and an unarmed part without
supervision timer and outside ISLAND (R175 to R180, R184); and no event code's condition PRESENT and no job output FORCED
(R44, R45, R154, R160). -/
def Obligations.EveryStepKeepsSilenceAndRecordLaws : Prop :=
  (∀ s t : State, SilenceLaw s → step s = .next t → SilenceLaw t) ∧
  (∀ s t : State, RecordLaw s → step s = .next t → RecordLaw t)
end

