-- ==== Sys2Proof/Laws/State.lean ====
section
/-! SUPPORT. One lemma per field per update of the state: what the small updates leave as it was, and what they set. -/

namespace Sys2Proof.Machine

/-! ## `outputWrite` -/

@[simp] theorem outputWrite_pending (n : Nat) (v : Int) (s : State) :
    (outputWrite n v s).pending = s.pending := rfl
@[simp] theorem outputWrite_due (n : Nat) (v : Int) (s : State) :
    (outputWrite n v s).due = s.due := rfl
@[simp] theorem outputWrite_rx0 (n : Nat) (v : Int) (s : State) :
    (outputWrite n v s).rx0 = s.rx0 := rfl
@[simp] theorem outputWrite_rx2 (n : Nat) (v : Int) (s : State) :
    (outputWrite n v s).rx2 = s.rx2 := rfl
@[simp] theorem outputWrite_p1 (n : Nat) (v : Int) (s : State) :
    (outputWrite n v s).p1 = s.p1 := rfl
@[simp] theorem outputWrite_p3 (n : Nat) (v : Int) (s : State) :
    (outputWrite n v s).p3 = s.p3 := rfl
@[simp] theorem outputWrite_hold (n : Nat) (v : Int) (s : State) :
    (outputWrite n v s).hold = s.hold := rfl
@[simp] theorem outputWrite_islandBytes (n : Nat) (v : Int) (s : State) :
    (outputWrite n v s).islandBytes = s.islandBytes := rfl
@[simp] theorem outputWrite_outLane (n : Nat) (v : Int) (s : State) :
    (outputWrite n v s).outLane = s.outLane := rfl
@[simp] theorem outputWrite_retLane (n : Nat) (v : Int) (s : State) :
    (outputWrite n v s).retLane = s.retLane := rfl
@[simp] theorem outputWrite_outBad (n : Nat) (v : Int) (s : State) :
    (outputWrite n v s).outBad = s.outBad := rfl
@[simp] theorem outputWrite_retBad (n : Nat) (v : Int) (s : State) :
    (outputWrite n v s).retBad = s.retBad := rfl
@[simp] theorem outputWrite_prevCycle (n : Nat) (v : Int) (s : State) :
    (outputWrite n v s).prevCycle = s.prevCycle := rfl
@[simp] theorem outputWrite_flight (n : Nat) (v : Int) (s : State) :
    (outputWrite n v s).flight = s.flight := rfl
@[simp] theorem outputWrite_nextFlight (n : Nat) (v : Int) (s : State) :
    (outputWrite n v s).nextFlight = s.nextFlight := rfl
@[simp] theorem outputWrite_carrier (n : Nat) (v : Int) (s : State) :
    (outputWrite n v s).carrier = s.carrier := rfl
@[simp] theorem outputWrite_opState (n : Nat) (v : Int) (s : State) :
    (outputWrite n v s).opState = s.opState := rfl
@[simp] theorem outputWrite_strap (n : Nat) (v : Int) (s : State) :
    (outputWrite n v s).strap = s.strap := rfl
@[simp] theorem outputWrite_timebase (n : Nat) (v : Int) (s : State) :
    (outputWrite n v s).timebase = s.timebase := rfl
@[simp] theorem outputWrite_inputs (n : Nat) (v : Int) (s : State) :
    (outputWrite n v s).inputs = s.inputs := rfl
@[simp] theorem outputWrite_entryHits (n : Nat) (v : Int) (s : State) :
    (outputWrite n v s).entryHits = s.entryHits := rfl
@[simp] theorem outputWrite_points (n : Nat) (v : Int) (s : State) :
    (outputWrite n v s).points = s.points.set n { value := v, quality := .fresh, age := 0 } := rfl
@[simp] theorem outputWrite_banks (n : Nat) (v : Int) (s : State) :
    (outputWrite n v s).banks = s.banks := rfl
@[simp] theorem outputWrite_envelope (n : Nat) (v : Int) (s : State) :
    (outputWrite n v s).envelope = s.envelope := rfl
@[simp] theorem outputWrite_thermal (n : Nat) (v : Int) (s : State) :
    (outputWrite n v s).thermal = s.thermal := rfl
@[simp] theorem outputWrite_arbiter (n : Nat) (v : Int) (s : State) :
    (outputWrite n v s).arbiter = s.arbiter := rfl
@[simp] theorem outputWrite_tracker (n : Nat) (v : Int) (s : State) :
    (outputWrite n v s).tracker = s.tracker := rfl
@[simp] theorem outputWrite_sequencer (n : Nat) (v : Int) (s : State) :
    (outputWrite n v s).sequencer = s.sequencer := rfl
@[simp] theorem outputWrite_decision (n : Nat) (v : Int) (s : State) :
    (outputWrite n v s).decision = s.decision := rfl
@[simp] theorem outputWrite_faults (n : Nat) (v : Int) (s : State) :
    (outputWrite n v s).faults = s.faults := rfl
@[simp] theorem outputWrite_spotlight (n : Nat) (v : Int) (s : State) :
    (outputWrite n v s).spotlight = s.spotlight := rfl
@[simp] theorem outputWrite_summary (n : Nat) (v : Int) (s : State) :
    (outputWrite n v s).summary = s.summary := rfl
@[simp] theorem outputWrite_log (n : Nat) (v : Int) (s : State) :
    (outputWrite n v s).log = s.log := rfl
@[simp] theorem outputWrite_clock (n : Nat) (v : Int) (s : State) :
    (outputWrite n v s).clock = s.clock := rfl
@[simp] theorem outputWrite_supervision (n : Nat) (v : Int) (s : State) :
    (outputWrite n v s).supervision = s.supervision := rfl
@[simp] theorem outputWrite_response (n : Nat) (v : Int) (s : State) :
    (outputWrite n v s).response = s.response := rfl

/-! ## `addDue` -/

@[simp] theorem addDue_pending (d : Due) (s : State) :
    (s.addDue d).pending = s.pending := rfl
@[simp] theorem addDue_due (d : Due) (s : State) :
    (s.addDue d).due = s.due ++ [d] := rfl
@[simp] theorem addDue_rx0 (d : Due) (s : State) :
    (s.addDue d).rx0 = s.rx0 := rfl
@[simp] theorem addDue_rx2 (d : Due) (s : State) :
    (s.addDue d).rx2 = s.rx2 := rfl
@[simp] theorem addDue_p1 (d : Due) (s : State) :
    (s.addDue d).p1 = s.p1 := rfl
@[simp] theorem addDue_p3 (d : Due) (s : State) :
    (s.addDue d).p3 = s.p3 := rfl
@[simp] theorem addDue_hold (d : Due) (s : State) :
    (s.addDue d).hold = s.hold := rfl
@[simp] theorem addDue_islandBytes (d : Due) (s : State) :
    (s.addDue d).islandBytes = s.islandBytes := rfl
@[simp] theorem addDue_outLane (d : Due) (s : State) :
    (s.addDue d).outLane = s.outLane := rfl
@[simp] theorem addDue_retLane (d : Due) (s : State) :
    (s.addDue d).retLane = s.retLane := rfl
@[simp] theorem addDue_outBad (d : Due) (s : State) :
    (s.addDue d).outBad = s.outBad := rfl
@[simp] theorem addDue_retBad (d : Due) (s : State) :
    (s.addDue d).retBad = s.retBad := rfl
@[simp] theorem addDue_prevCycle (d : Due) (s : State) :
    (s.addDue d).prevCycle = s.prevCycle := rfl
@[simp] theorem addDue_flight (d : Due) (s : State) :
    (s.addDue d).flight = s.flight := rfl
@[simp] theorem addDue_nextFlight (d : Due) (s : State) :
    (s.addDue d).nextFlight = s.nextFlight := rfl
@[simp] theorem addDue_carrier (d : Due) (s : State) :
    (s.addDue d).carrier = s.carrier := rfl
@[simp] theorem addDue_opState (d : Due) (s : State) :
    (s.addDue d).opState = s.opState := rfl
@[simp] theorem addDue_strap (d : Due) (s : State) :
    (s.addDue d).strap = s.strap := rfl
@[simp] theorem addDue_timebase (d : Due) (s : State) :
    (s.addDue d).timebase = s.timebase := rfl
@[simp] theorem addDue_inputs (d : Due) (s : State) :
    (s.addDue d).inputs = s.inputs := rfl
@[simp] theorem addDue_entryHits (d : Due) (s : State) :
    (s.addDue d).entryHits = s.entryHits := rfl
@[simp] theorem addDue_points (d : Due) (s : State) :
    (s.addDue d).points = s.points := rfl
@[simp] theorem addDue_banks (d : Due) (s : State) :
    (s.addDue d).banks = s.banks := rfl
@[simp] theorem addDue_envelope (d : Due) (s : State) :
    (s.addDue d).envelope = s.envelope := rfl
@[simp] theorem addDue_thermal (d : Due) (s : State) :
    (s.addDue d).thermal = s.thermal := rfl
@[simp] theorem addDue_arbiter (d : Due) (s : State) :
    (s.addDue d).arbiter = s.arbiter := rfl
@[simp] theorem addDue_tracker (d : Due) (s : State) :
    (s.addDue d).tracker = s.tracker := rfl
@[simp] theorem addDue_sequencer (d : Due) (s : State) :
    (s.addDue d).sequencer = s.sequencer := rfl
@[simp] theorem addDue_decision (d : Due) (s : State) :
    (s.addDue d).decision = s.decision := rfl
@[simp] theorem addDue_faults (d : Due) (s : State) :
    (s.addDue d).faults = s.faults := rfl
@[simp] theorem addDue_spotlight (d : Due) (s : State) :
    (s.addDue d).spotlight = s.spotlight := rfl
@[simp] theorem addDue_summary (d : Due) (s : State) :
    (s.addDue d).summary = s.summary := rfl
@[simp] theorem addDue_log (d : Due) (s : State) :
    (s.addDue d).log = s.log := rfl
@[simp] theorem addDue_clock (d : Due) (s : State) :
    (s.addDue d).clock = s.clock := rfl
@[simp] theorem addDue_supervision (d : Due) (s : State) :
    (s.addDue d).supervision = s.supervision := rfl
@[simp] theorem addDue_response (d : Due) (s : State) :
    (s.addDue d).response = s.response := rfl

/-! ## `setFault` -/

@[simp] theorem setFault_pending (k : Nat) (r : FaultRecord) (s : State) :
    (s.setFault k r).pending = s.pending := rfl
@[simp] theorem setFault_due (k : Nat) (r : FaultRecord) (s : State) :
    (s.setFault k r).due = s.due := rfl
@[simp] theorem setFault_rx0 (k : Nat) (r : FaultRecord) (s : State) :
    (s.setFault k r).rx0 = s.rx0 := rfl
@[simp] theorem setFault_rx2 (k : Nat) (r : FaultRecord) (s : State) :
    (s.setFault k r).rx2 = s.rx2 := rfl
@[simp] theorem setFault_p1 (k : Nat) (r : FaultRecord) (s : State) :
    (s.setFault k r).p1 = s.p1 := rfl
@[simp] theorem setFault_p3 (k : Nat) (r : FaultRecord) (s : State) :
    (s.setFault k r).p3 = s.p3 := rfl
@[simp] theorem setFault_hold (k : Nat) (r : FaultRecord) (s : State) :
    (s.setFault k r).hold = s.hold := rfl
@[simp] theorem setFault_islandBytes (k : Nat) (r : FaultRecord) (s : State) :
    (s.setFault k r).islandBytes = s.islandBytes := rfl
@[simp] theorem setFault_outLane (k : Nat) (r : FaultRecord) (s : State) :
    (s.setFault k r).outLane = s.outLane := rfl
@[simp] theorem setFault_retLane (k : Nat) (r : FaultRecord) (s : State) :
    (s.setFault k r).retLane = s.retLane := rfl
@[simp] theorem setFault_outBad (k : Nat) (r : FaultRecord) (s : State) :
    (s.setFault k r).outBad = s.outBad := rfl
@[simp] theorem setFault_retBad (k : Nat) (r : FaultRecord) (s : State) :
    (s.setFault k r).retBad = s.retBad := rfl
@[simp] theorem setFault_prevCycle (k : Nat) (r : FaultRecord) (s : State) :
    (s.setFault k r).prevCycle = s.prevCycle := rfl
@[simp] theorem setFault_flight (k : Nat) (r : FaultRecord) (s : State) :
    (s.setFault k r).flight = s.flight := rfl
@[simp] theorem setFault_nextFlight (k : Nat) (r : FaultRecord) (s : State) :
    (s.setFault k r).nextFlight = s.nextFlight := rfl
@[simp] theorem setFault_carrier (k : Nat) (r : FaultRecord) (s : State) :
    (s.setFault k r).carrier = s.carrier := rfl
@[simp] theorem setFault_opState (k : Nat) (r : FaultRecord) (s : State) :
    (s.setFault k r).opState = s.opState := rfl
@[simp] theorem setFault_strap (k : Nat) (r : FaultRecord) (s : State) :
    (s.setFault k r).strap = s.strap := rfl
@[simp] theorem setFault_timebase (k : Nat) (r : FaultRecord) (s : State) :
    (s.setFault k r).timebase = s.timebase := rfl
@[simp] theorem setFault_inputs (k : Nat) (r : FaultRecord) (s : State) :
    (s.setFault k r).inputs = s.inputs := rfl
@[simp] theorem setFault_entryHits (k : Nat) (r : FaultRecord) (s : State) :
    (s.setFault k r).entryHits = s.entryHits := rfl
@[simp] theorem setFault_points (k : Nat) (r : FaultRecord) (s : State) :
    (s.setFault k r).points = s.points := rfl
@[simp] theorem setFault_banks (k : Nat) (r : FaultRecord) (s : State) :
    (s.setFault k r).banks = s.banks := rfl
@[simp] theorem setFault_envelope (k : Nat) (r : FaultRecord) (s : State) :
    (s.setFault k r).envelope = s.envelope := rfl
@[simp] theorem setFault_thermal (k : Nat) (r : FaultRecord) (s : State) :
    (s.setFault k r).thermal = s.thermal := rfl
@[simp] theorem setFault_arbiter (k : Nat) (r : FaultRecord) (s : State) :
    (s.setFault k r).arbiter = s.arbiter := rfl
@[simp] theorem setFault_tracker (k : Nat) (r : FaultRecord) (s : State) :
    (s.setFault k r).tracker = s.tracker := rfl
@[simp] theorem setFault_sequencer (k : Nat) (r : FaultRecord) (s : State) :
    (s.setFault k r).sequencer = s.sequencer := rfl
@[simp] theorem setFault_decision (k : Nat) (r : FaultRecord) (s : State) :
    (s.setFault k r).decision = s.decision := rfl
@[simp] theorem setFault_faults (k : Nat) (r : FaultRecord) (s : State) :
    (s.setFault k r).faults = s.faults.set k r := rfl
@[simp] theorem setFault_spotlight (k : Nat) (r : FaultRecord) (s : State) :
    (s.setFault k r).spotlight = s.spotlight := rfl
@[simp] theorem setFault_summary (k : Nat) (r : FaultRecord) (s : State) :
    (s.setFault k r).summary = s.summary := rfl
@[simp] theorem setFault_log (k : Nat) (r : FaultRecord) (s : State) :
    (s.setFault k r).log = s.log := rfl
@[simp] theorem setFault_clock (k : Nat) (r : FaultRecord) (s : State) :
    (s.setFault k r).clock = s.clock := rfl
@[simp] theorem setFault_supervision (k : Nat) (r : FaultRecord) (s : State) :
    (s.setFault k r).supervision = s.supervision := rfl
@[simp] theorem setFault_response (k : Nat) (r : FaultRecord) (s : State) :
    (s.setFault k r).response = s.response := rfl

/-! ## `passTime` -/

@[simp] theorem passTime_pending (n : Nat) (s : State) :
    (s.passTime n).pending = s.pending := rfl
@[simp] theorem passTime_due (n : Nat) (s : State) :
    (s.passTime n).due = s.due := rfl
@[simp] theorem passTime_rx0 (n : Nat) (s : State) :
    (s.passTime n).rx0 = s.rx0 := rfl
@[simp] theorem passTime_rx2 (n : Nat) (s : State) :
    (s.passTime n).rx2 = s.rx2 := rfl
@[simp] theorem passTime_p1 (n : Nat) (s : State) :
    (s.passTime n).p1 = s.p1 := rfl
@[simp] theorem passTime_p3 (n : Nat) (s : State) :
    (s.passTime n).p3 = s.p3 := rfl
@[simp] theorem passTime_hold (n : Nat) (s : State) :
    (s.passTime n).hold = s.hold := rfl
@[simp] theorem passTime_islandBytes (n : Nat) (s : State) :
    (s.passTime n).islandBytes = s.islandBytes := rfl
@[simp] theorem passTime_outLane (n : Nat) (s : State) :
    (s.passTime n).outLane = s.outLane := rfl
@[simp] theorem passTime_retLane (n : Nat) (s : State) :
    (s.passTime n).retLane = s.retLane := rfl
@[simp] theorem passTime_outBad (n : Nat) (s : State) :
    (s.passTime n).outBad = s.outBad := rfl
@[simp] theorem passTime_retBad (n : Nat) (s : State) :
    (s.passTime n).retBad = s.retBad := rfl
@[simp] theorem passTime_prevCycle (n : Nat) (s : State) :
    (s.passTime n).prevCycle = s.prevCycle := rfl
@[simp] theorem passTime_flight (n : Nat) (s : State) :
    (s.passTime n).flight = s.flight := rfl
@[simp] theorem passTime_nextFlight (n : Nat) (s : State) :
    (s.passTime n).nextFlight = s.nextFlight := rfl
@[simp] theorem passTime_carrier (n : Nat) (s : State) :
    (s.passTime n).carrier = s.carrier := rfl
@[simp] theorem passTime_opState (n : Nat) (s : State) :
    (s.passTime n).opState = s.opState := rfl
@[simp] theorem passTime_strap (n : Nat) (s : State) :
    (s.passTime n).strap = s.strap := rfl
@[simp] theorem passTime_timebase (n : Nat) (s : State) :
    (s.passTime n).timebase = s.timebase + BitVec.ofNat 32 n := rfl
@[simp] theorem passTime_inputs (n : Nat) (s : State) :
    (s.passTime n).inputs = s.inputs := rfl
@[simp] theorem passTime_entryHits (n : Nat) (s : State) :
    (s.passTime n).entryHits = s.entryHits := rfl
@[simp] theorem passTime_points (n : Nat) (s : State) :
    (s.passTime n).points = s.points := rfl
@[simp] theorem passTime_banks (n : Nat) (s : State) :
    (s.passTime n).banks = s.banks := rfl
@[simp] theorem passTime_envelope (n : Nat) (s : State) :
    (s.passTime n).envelope = s.envelope := rfl
@[simp] theorem passTime_thermal (n : Nat) (s : State) :
    (s.passTime n).thermal = s.thermal := rfl
@[simp] theorem passTime_arbiter (n : Nat) (s : State) :
    (s.passTime n).arbiter = s.arbiter := rfl
@[simp] theorem passTime_tracker (n : Nat) (s : State) :
    (s.passTime n).tracker = s.tracker := rfl
@[simp] theorem passTime_sequencer (n : Nat) (s : State) :
    (s.passTime n).sequencer = s.sequencer := rfl
@[simp] theorem passTime_decision (n : Nat) (s : State) :
    (s.passTime n).decision = s.decision := rfl
@[simp] theorem passTime_faults (n : Nat) (s : State) :
    (s.passTime n).faults = s.faults := rfl
@[simp] theorem passTime_spotlight (n : Nat) (s : State) :
    (s.passTime n).spotlight = s.spotlight := rfl
@[simp] theorem passTime_summary (n : Nat) (s : State) :
    (s.passTime n).summary = s.summary := rfl
@[simp] theorem passTime_log (n : Nat) (s : State) :
    (s.passTime n).log = s.log := rfl
@[simp] theorem passTime_clock (n : Nat) (s : State) :
    (s.passTime n).clock = s.clock := rfl
@[simp] theorem passTime_supervision (n : Nat) (s : State) :
    (s.passTime n).supervision = s.supervision := rfl
@[simp] theorem passTime_response (n : Nat) (s : State) :
    (s.passTime n).response = s.response := rfl

/-! ## `setEngine` -/

@[simp] theorem setEngine_out (e : Engine) (s : State) : s.setEngine .out e = { s with outLane := e } := rfl
@[simp] theorem setEngine_ret (e : Engine) (s : State) : s.setEngine .ret e = { s with retLane := e } := rfl
@[simp] theorem engine_out (s : State) : s.engine .out = s.outLane := rfl
@[simp] theorem engine_ret (s : State) : s.engine .ret = s.retLane := rfl

/-- The engine just set is the one read back. -/
theorem engine_setEngine (lane : Lane) (e : Engine) (s : State) : (s.setEngine lane e).engine lane = e := by
  cases lane <;> rfl

/-! ## Points read after an output write (R44) -/

/-- The point written reads as written. -/
theorem point_outputWrite_same {s : State} {n : Nat} (h : n < s.points.length) (v : Int) :
    (outputWrite n v s).point n = { value := v, quality := .fresh, age := 0 } := by
  simp [State.point, h]

/-- Every other point reads as before. -/
theorem point_outputWrite_ne {n m : Nat} (h : n ≠ m) (v : Int) (s : State) :
    (outputWrite n v s).point m = s.point m := by
  simp [State.point, h]

/-- The record set reads as set. -/
theorem fault_setFault_same {s : State} {k : Nat} (h : k < s.faults.length) (r : FaultRecord) :
    (s.setFault k r).fault k = r := by
  simp [State.fault, h]

/-- Every other record reads as before. -/
theorem fault_setFault_ne {k j : Nat} (h : k ≠ j) (r : FaultRecord) (s : State) :
    (s.setFault k r).fault j = s.fault j := by
  simp [State.fault, h]

/-! ## Nothing outstanding -/

/-- With no consequence outstanding there is nothing to settle. -/
theorem settle_of_due_nil {s : State} (h : s.due = []) : settle s = s := by
  simp [settle, h, takeUntil]

/-- A consequence that alone is outstanding is taken. -/
theorem takeDue_of_single {s : State} {d : Due} {wanted : Due → Bool} (h : s.due = [d]) (hd : wanted d = true) :
    takeDue wanted s = runDue d { s with due := [] } := by
  simp [takeDue, h, hd, takeUntil]

/-- A consequence that is not outstanding is not taken. -/
theorem takeDue_of_absent {s : State} {wanted : Due → Bool} (h : s.due.any wanted = false) :
    takeDue wanted s = s := by
  simp [takeDue, h]

end Sys2Proof.Machine
end

