-- ==== Sys2Proof/Laws/Frames.lean ====
section
/-! SUPPORT. What the shared operations leave as it was. Each `outside…` forgets the fields that a layer of operations may
change; that such an operation keeps `outside…` says once everything that it leaves alone. -/

namespace Sys2Proof.Machine

open Sys2Proof.Safety

/-! ## The layers -/

/-- The state but for what the fault manager alone writes: fault records, log and spotlight (R159, R166, R168). -/
def outsideFaults (s : State) : State := { s with faults := [], log := { records := [], next := 0 }, spotlight := none }

/-- The state but for what a raise or an end changes where no move is held: the fault manager's own, the action summary,
the points, L and trip seen (R59, R60, R164, R165). -/
def outsideActions (s : State) : State :=
  { outsideFaults s with
    summary := .reset, points := [], envelope := { s.envelope with limit := 0, tripSeen := false } }

/-- The state but for what a raise or an end changes at all: also the move, its claim and grant, the expected-edge timer
and the window, and the decision's answer to the end of a move (R132, R137, R145, R146). -/
def outsideMoves (s : State) : State :=
  { outsideActions s with
    sequencer := .reset
    arbiter := { s.arbiter with yawClaim := none, yawGrant := none }
    tracker := { s.tracker with timer := none, window := none }
    decision := { s.decision with mode := .hold, startDwell := 0, stormEnter := 0, stormExit := 0, blocked := false } }

theorem outsideActions_of_faults {s t : State} (h : outsideFaults t = outsideFaults s) :
    outsideActions t = outsideActions s := by
  have he : (outsideFaults t).envelope = (outsideFaults s).envelope := congrArg State.envelope h
  change t.envelope = s.envelope at he
  simp [outsideActions, h, he]

theorem outsideMoves_of_actions {s t : State} (h : outsideActions t = outsideActions s) :
    outsideMoves t = outsideMoves s := by
  have ha : (outsideActions t).arbiter = (outsideActions s).arbiter := congrArg State.arbiter h
  change t.arbiter = s.arbiter at ha
  have ht : (outsideActions t).tracker = (outsideActions s).tracker := congrArg State.tracker h
  change t.tracker = s.tracker at ht
  have hd : (outsideActions t).decision = (outsideActions s).decision := congrArg State.decision h
  change t.decision = s.decision at hd
  simp [outsideMoves, h, ha, ht, hd]

/-! ## The fault manager -/

@[simp] theorem outsideFaults_setFault (k : Nat) (r : FaultRecord) (s : State) :
    outsideFaults (s.setFault k r) = outsideFaults s := rfl

@[simp] theorem outsideFaults_markSpotlight (k : Nat) (s : State) :
    outsideFaults (markSpotlight k s) = outsideFaults s := rfl

@[simp] theorem outsideFaults_logPlace (k : Nat) (kind : LogKind) (c : Int) (s : State) :
    outsideFaults (logPlace k kind c s) = outsideFaults s := rfl

@[simp] theorem outsideFaults_raiseOverwrite (w : Word) (s : State) :
    outsideFaults (raiseOverwrite w s) = outsideFaults s := by
  unfold raiseOverwrite; dsimp only; split <;> simp

@[simp] theorem outsideFaults_logAppend (k : Nat) (kind : LogKind) (c : Int) (s : State) :
    outsideFaults (logAppend k kind c s) = outsideFaults s := by
  unfold logAppend; split
  · simp
  · dsimp only; split <;> simp

@[simp] theorem outsideFaults_logIf (k : Nat) (kind : LogKind) (c : Int) (s : State) :
    outsideFaults (logIf k kind c s) = outsideFaults s := by
  unfold logIf; split <;> simp

/-- A raise at the fault manager changes fault records, log and spotlight alone (R160). -/
@[simp] theorem outsideFaults_raiseRecord (k : Nat) (c : Int) (s : State) :
    outsideFaults (raiseRecord k c s) = outsideFaults s := by
  unfold raiseRecord; dsimp only; split <;> simp

/-- An end at the fault manager changes fault records and log alone (R161). -/
@[simp] theorem outsideFaults_endRecord (k : Nat) (s : State) :
    outsideFaults (endRecord k s) = outsideFaults s := by
  unfold endRecord; dsimp only; split
  · rfl
  · split <;> simp

/-- A clear at the fault manager changes fault records, log and spotlight alone (R162). -/
@[simp] theorem outsideFaults_clearRecord (k : Nat) (s : State) :
    outsideFaults (clearRecord k s) = outsideFaults s := by
  unfold clearRecord; dsimp only; split
  · split <;> simp
  · split <;> simp

/-- Settling the spotlight changes fault records and spotlight alone (R167). -/
@[simp] theorem outsideFaults_settleSpotlight (carried : Bool) (s : State) :
    outsideFaults (settleSpotlight carried s) = outsideFaults s := by
  unfold settleSpotlight; split
  · rfl
  · dsimp only; split <;> rfl

/-! ## Summary, trip and outputs -/

@[simp] theorem outsideActions_outputWrite (n : Nat) (v : Int) (s : State) :
    outsideActions (outputWrite n v s) = outsideActions s := rfl

@[simp] theorem outsideActions_writeFaultOutputs (s : State) :
    outsideActions (writeFaultOutputs s) = outsideActions s := by
  simp only [writeFaultOutputs, outsideActions_outputWrite]

@[simp] theorem outsideActions_summary (m : Summary) (s : State) :
    outsideActions { s with summary := m } = outsideActions s := rfl

@[simp] theorem outsideActions_tripOn (s : State) : outsideActions (tripOn s) = outsideActions s := by
  simp only [tripOn, outsideActions_outputWrite]; rfl

@[simp] theorem outsideActions_tripOff (s : State) : outsideActions (tripOff s) = outsideActions s := by
  simp only [tripOff, outsideActions_outputWrite]; rfl

/-- The recompute of the summary changes the summary, the points, L and trip seen alone (R164, R165, R59, R60). -/
@[simp] theorem outsideActions_recompute (s : State) : outsideActions (recompute s) = outsideActions s := by
  unfold recompute
  generalize s.formSummary = new
  dsimp only
  split <;> split <;> (try split) <;> simp

@[simp] theorem outsideActions_recomputeSince (before s : State) :
    outsideActions (recomputeSince before s) = outsideActions s := by
  unfold recomputeSince; split <;> simp

@[simp] theorem outsideActions_raiseQuiet (k : Nat) (c : Int) (s : State) :
    outsideActions (raiseQuiet k c s) = outsideActions s := by
  rw [raiseQuiet, outsideActions_recomputeSince]; exact outsideActions_of_faults (outsideFaults_raiseRecord k c s)

@[simp] theorem outsideActions_endQuiet (k : Nat) (s : State) : outsideActions (endQuiet k s) = outsideActions s := by
  rw [endQuiet, outsideActions_recomputeSince]; exact outsideActions_of_faults (outsideFaults_endRecord k s)

@[simp] theorem outsideActions_judgeQuiet (k : Nat) (present : Bool) (c : Int) (s : State) :
    outsideActions (judgeQuiet k present c s) = outsideActions s := by
  unfold judgeQuiet; split
  · simp
  · split <;> simp

/-! ## The move -/

@[simp] theorem outsideMoves_outputWrite (n : Nat) (v : Int) (s : State) :
    outsideMoves (outputWrite n v s) = outsideMoves s := rfl

@[simp] theorem outsideMoves_sequencer (q : Sequencer) (s : State) :
    outsideMoves { s with sequencer := q } = outsideMoves s := rfl

@[simp] theorem outsideMoves_timer (t : Option EdgeTimer) (s : State) :
    outsideMoves { s with tracker := { s.tracker with timer := t } } = outsideMoves s := rfl

@[simp] theorem outsideMoves_writePattern (k : Nat) (s : State) :
    outsideMoves (writePattern k s) = outsideMoves s := by
  simp only [writePattern, outsideMoves_outputWrite]

@[simp] theorem outsideMoves_setYawMode (m : YawMode) (s : State) :
    outsideMoves (setYawMode m s) = outsideMoves s := by
  simp only [setYawMode, outsideMoves_outputWrite]; rfl

@[simp] theorem outsideMoves_trackerStepEntry (k : Nat) (motion : Bool) (d : Int) (s : State) :
    outsideMoves (trackerStepEntry k motion d s) = outsideMoves s := by
  unfold trackerStepEntry startEdgeTimer
  generalize edgeLimit s = limit
  split
  · rfl
  · split <;> simp

@[simp] theorem outsideMoves_enterParked (s : State) : outsideMoves (enterParked s) = outsideMoves s := by
  simp [enterParked]

@[simp] theorem outsideMoves_raiseQuiet (k : Nat) (c : Int) (s : State) :
    outsideMoves (raiseQuiet k c s) = outsideMoves s := outsideMoves_of_actions (by simp)

@[simp] theorem outsideMoves_judgeQuiet (k : Nat) (present : Bool) (c : Int) (s : State) :
    outsideMoves (judgeQuiet k present c s) = outsideMoves s := outsideMoves_of_actions (by simp)

@[simp] theorem outsideMoves_startDwell (n : Nat) (s : State) :
    outsideMoves { s with decision := { s.decision with startDwell := n } } = outsideMoves s := rfl

@[simp] theorem outsideMoves_blocked (b : Bool) (s : State) :
    outsideMoves { s with decision := { s.decision with blocked := b } } = outsideMoves s := rfl

@[simp] theorem outsideMoves_moveRemoved (q : Sequencer) (s : State) :
    outsideMoves { s with sequencer := q, arbiter := { s.arbiter with yawClaim := none, yawGrant := none } }
      = outsideMoves s := rfl

@[simp] theorem outsideMoves_blockRefused (s : State) : outsideMoves (blockRefused s) = outsideMoves s := by
  unfold blockRefused
  dsimp only
  rw [outsideMoves_judgeQuiet]
  split
  · rw [outsideMoves_judgeQuiet, outsideMoves_blocked]
  · rw [outsideMoves_blocked]

@[simp] theorem outsideMoves_decisionMoveEnd (mode : YawMode) (cause : EndCause) (s : State) :
    outsideMoves (decisionMoveEnd mode cause s) = outsideMoves s := by
  unfold decisionMoveEnd
  have h1 : ∀ u : State, outsideMoves u = outsideMoves s →
      outsideMoves (if mode = .seek ∧ u.decision.mode = .seek then
        setYawMode .hold (raiseQuiet fcSeekFailed u.tracker.heading u) else u) = outsideMoves s := by
    intro u hu; split <;> simp [hu]
  apply h1
  split
  · rw [outsideMoves_blockRefused, outsideMoves_startDwell]
  · rfl

/-- The end of a move (R132). -/
@[simp] theorem outsideMoves_endMove (cause : EndCause) (s : State) :
    outsideMoves (endMove cause s) = outsideMoves s := by
  unfold endMove; split
  · rfl
  · dsimp only
    rw [outsideMoves_decisionMoveEnd, outsideMoves_moveRemoved]
    split <;> simp

@[simp] theorem outsideMoves_abortMove (s : State) : outsideMoves (abortMove s) = outsideMoves s := by
  unfold abortMove; split <;> simp

@[simp] theorem outsideMoves_handHold (before : Bool) (s : State) : outsideMoves (handHold before s) = outsideMoves s := by
  unfold handHold; split <;> simp

/-- Everything that a raise leaves alone (R160, R164, R137). -/
@[simp] theorem outsideMoves_raise (k : Nat) (c : Int) (s : State) : outsideMoves (raise k c s) = outsideMoves s := by
  rw [raise, outsideMoves_handHold]; exact outsideMoves_of_actions (outsideActions_raiseQuiet k c s)

/-- Everything that an end leaves alone (R161, R164). -/
@[simp] theorem outsideMoves_endCondition (k : Nat) (s : State) :
    outsideMoves (endCondition k s) = outsideMoves s := by
  rw [endCondition, outsideMoves_handHold]; exact outsideMoves_of_actions (outsideActions_endQuiet k s)

/-- Everything that a judgement leaves alone (R154). -/
@[simp] theorem outsideMoves_judge (k : Nat) (present : Bool) (c : Int) (s : State) :
    outsideMoves (judge k present c s) = outsideMoves s := by
  unfold judge; split
  · simp
  · split <;> simp

@[simp] theorem outsideMoves_raiseAll (fs : List (Nat × Int)) (s : State) :
    outsideMoves (raiseAll fs s) = outsideMoves s := by
  unfold raiseAll
  induction fs generalizing s with
  | nil => rfl
  | cons f fs ih => simp [ih]

@[simp] theorem outsideMoves_clearFault (k : Nat) (s : State) : outsideMoves (clearFault k s) = outsideMoves s := by
  have h : outsideActions (recomputeSince s (clearRecord k s)) = outsideActions s := by
    rw [outsideActions_recomputeSince]; exact outsideActions_of_faults (outsideFaults_clearRecord k s)
  rw [clearFault, outsideMoves_handHold]; exact outsideMoves_of_actions h

@[simp] theorem outsideMoves_clearAllFaults (s : State) : outsideMoves (clearAllFaults s) = outsideMoves s := by
  have hf : ∀ (ks : List Nat) (u : State),
      outsideFaults (ks.foldl (fun acc k => clearRecord k acc) u) = outsideFaults u := by
    intro ks
    induction ks with
    | nil => intro u; rfl
    | cons k ks ih => intro u; simp [ih]
  have h : outsideActions (recomputeSince s ((List.range 64).foldl (fun acc k => clearRecord k acc) s)) =
      outsideActions s := by
    rw [outsideActions_recomputeSince]; exact outsideActions_of_faults (hf _ _)
  rw [clearAllFaults, outsideMoves_handHold]; exact outsideMoves_of_actions h

@[simp] theorem outsideMoves_watchUpdate (s : State) (j : Nat) : outsideMoves (watchUpdate s j) = outsideMoves s := by
  simp only [watchUpdate]
  split_ifs <;> simp

@[simp] theorem outsideMoves_watchesUpdate (s : State) : outsideMoves (watchesUpdate s) = outsideMoves s := by
  unfold watchesUpdate
  generalize List.range 16 = l
  induction l generalizing s with
  | nil => rfl
  | cons j l ih => simp [ih]

/-! ## The points that a raise or an end can write -/

/-- From `s` to `t` no point but the outputs of `raiseOutputs` has changed, and the table is as long. -/
def KeepsPoints (s t : State) : Prop :=
  t.points.length = s.points.length ∧ ∀ n, n ∉ raiseOutputs → t.point n = s.point n

theorem KeepsPoints.refl (s : State) : KeepsPoints s s := ⟨rfl, fun _ _ => rfl⟩

theorem KeepsPoints.trans {s t u : State} (h : KeepsPoints s t) (k : KeepsPoints t u) : KeepsPoints s u :=
  ⟨k.1.trans h.1, fun n hn => (k.2 n hn).trans (h.2 n hn)⟩

theorem KeepsPoints.of_eq {s t : State} (h : t.points = s.points) : KeepsPoints s t :=
  ⟨by rw [h], fun n _ => by simp only [State.point, h]⟩

theorem KeepsPoints.outputWrite {n : Nat} (h : n ∈ raiseOutputs) (v : Int) (s : State) :
    KeepsPoints s (outputWrite n v s) :=
  ⟨by simp, fun m hm => point_outputWrite_ne (n := n) (m := m) (fun hnm => by subst hnm; exact hm h) v s⟩

theorem KeepsPoints.of_outsideFaults {s t : State} (h : outsideFaults t = outsideFaults s) : KeepsPoints s t :=
  .of_eq (congrArg State.points h : (outsideFaults t).points = (outsideFaults s).points)

theorem KeepsPoints.recompute (s : State) : KeepsPoints s (recompute s) := by
  unfold Machine.recompute
  generalize s.formSummary = new
  dsimp only
  have hw : ∀ u : State, KeepsPoints u (writeFaultOutputs u) := fun u =>
    (KeepsPoints.outputWrite (n := 45) (by decide) _ u).trans (.outputWrite (n := 61) (by decide) _ _)
  have hon : ∀ u : State, KeepsPoints u (tripOn u) := fun u =>
    ((KeepsPoints.of_eq (t := { u with envelope := { u.envelope with limit := 0, tripSeen := true } }) rfl).trans
      (.outputWrite (n := 32) (by decide) _ _)).trans
      ((KeepsPoints.outputWrite (n := 33) (by decide) _ _).trans (.outputWrite (n := 34) (by decide) _ _))
  have hoff : ∀ u : State, KeepsPoints u (tripOff u) := fun u =>
    (KeepsPoints.of_eq (t := { u with envelope := { u.envelope with tripSeen := false } }) rfl).trans
      (.outputWrite (n := 34) (by decide) _ _)
  have htrip : ∀ (p q : Prop) [Decidable p] [Decidable q] (u : State), KeepsPoints s u →
      KeepsPoints s (if p then tripOn u else if q then tripOff u else u) := by
    intro p q _ _ u hu
    split_ifs
    · exact hu.trans (hon u)
    · exact hu.trans (hoff u)
    · exact hu
  apply htrip
  split_ifs
  · exact (KeepsPoints.of_eq (t := { s with summary := new }) rfl).trans (hw _)
  · exact .of_eq rfl

theorem KeepsPoints.recomputeSince (before s : State) : KeepsPoints s (recomputeSince before s) := by
  unfold Machine.recomputeSince
  split
  · exact .refl s
  · exact .recompute s

theorem KeepsPoints.raiseQuiet (k : Nat) (c : Int) (s : State) : KeepsPoints s (raiseQuiet k c s) :=
  (KeepsPoints.of_outsideFaults (outsideFaults_raiseRecord k c s)).trans (.recomputeSince ..)

theorem KeepsPoints.endQuiet (k : Nat) (s : State) : KeepsPoints s (endQuiet k s) :=
  (KeepsPoints.of_outsideFaults (outsideFaults_endRecord k s)).trans (.recomputeSince ..)

theorem KeepsPoints.judgeQuiet (k : Nat) (present : Bool) (c : Int) (s : State) :
    KeepsPoints s (judgeQuiet k present c s) := by
  unfold Machine.judgeQuiet
  split_ifs
  · exact .raiseQuiet ..
  · exact .endQuiet ..
  · exact .refl s

theorem KeepsPoints.writePattern (k : Nat) (s : State) : KeepsPoints s (writePattern k s) :=
  ((KeepsPoints.outputWrite (n := 36) (by decide) _ s).trans (.outputWrite (n := 37) (by decide) _ _)).trans
    (((KeepsPoints.outputWrite (n := 38) (by decide) _ _).trans (.outputWrite (n := 39) (by decide) _ _)).trans
      (.outputWrite (n := 60) (by decide) _ _))

theorem KeepsPoints.setYawMode (m : YawMode) (s : State) : KeepsPoints s (setYawMode m s) :=
  (KeepsPoints.of_eq
    (t := { s with decision := { s.decision with mode := m, stormEnter := 0, stormExit := 0 } }) rfl).trans
    (.outputWrite (n := 59) (by decide) _ _)

theorem trackerStepEntry_points (k : Nat) (motion : Bool) (d : Int) (s : State) :
    (trackerStepEntry k motion d s).points = s.points := by
  unfold trackerStepEntry startEdgeTimer
  split_ifs <;> rfl

theorem KeepsPoints.enterParked (s : State) : KeepsPoints s (enterParked s) :=
  (KeepsPoints.writePattern 0 s).trans (.of_eq (trackerStepEntry_points ..))

theorem KeepsPoints.blockRefused (s : State) : KeepsPoints s (blockRefused s) := by
  have h : KeepsPoints s { s with decision := { s.decision with blocked := true } } := .of_eq rfl
  unfold Machine.blockRefused
  dsimp only
  refine KeepsPoints.trans ?_ (.judgeQuiet ..)
  split_ifs
  · exact h.trans (.judgeQuiet ..)
  · exact h

theorem KeepsPoints.decisionMoveEnd (mode : YawMode) (cause : EndCause) (s : State) :
    KeepsPoints s (decisionMoveEnd mode cause s) := by
  unfold Machine.decisionMoveEnd
  have h1 : ∀ u : State, KeepsPoints s u →
      KeepsPoints s (if mode = .seek ∧ u.decision.mode = .seek then
        Machine.setYawMode .hold (Machine.raiseQuiet fcSeekFailed u.tracker.heading u) else u) := by
    intro u hu
    split_ifs
    · exact (hu.trans (.raiseQuiet ..)).trans (.setYawMode ..)
    · exact hu
  have h0 : KeepsPoints s { s with decision := { s.decision with startDwell := 0 } } := .of_eq rfl
  apply h1
  split_ifs
  · exact h0.trans (.blockRefused _)
  · exact h0

theorem KeepsPoints.endMove (cause : EndCause) (s : State) : KeepsPoints s (endMove cause s) := by
  unfold Machine.endMove
  split
  · exact .refl s
  · have h1 : ∀ u : State, KeepsPoints u
        { u with sequencer := { u.sequencer with record := none, phase := .none }
                 arbiter := { u.arbiter with yawClaim := none, yawGrant := none } } := fun u => .of_eq rfl
    refine KeepsPoints.trans ?_ (.decisionMoveEnd ..)
    split_ifs
    · exact h1 s
    · exact (KeepsPoints.enterParked s).trans (h1 _)

theorem KeepsPoints.abortMove (s : State) : KeepsPoints s (abortMove s) := by
  unfold Machine.abortMove
  split_ifs
  · exact .refl s
  · exact .endMove ..

theorem KeepsPoints.handHold (before : Bool) (s : State) : KeepsPoints s (handHold before s) := by
  unfold Machine.handHold
  split_ifs
  · exact .abortMove s
  · exact .refl s

/-- A raise writes no input, no spare output and no free point (R44, R59, R128, R138, R165). -/
theorem KeepsPoints.raise (k : Nat) (c : Int) (s : State) : KeepsPoints s (raise k c s) :=
  (KeepsPoints.raiseQuiet k c s).trans (.handHold ..)

theorem KeepsPoints.endCondition (k : Nat) (s : State) : KeepsPoints s (endCondition k s) :=
  (KeepsPoints.endQuiet k s).trans (.handHold ..)

theorem KeepsPoints.judge (k : Nat) (present : Bool) (c : Int) (s : State) : KeepsPoints s (judge k present c s) := by
  unfold Machine.judge
  split_ifs
  · exact .raise ..
  · exact .endCondition ..
  · exact .refl s

theorem KeepsPoints.raiseAll (fs : List (Nat × Int)) (s : State) : KeepsPoints s (raiseAll fs s) := by
  unfold Machine.raiseAll
  induction fs generalizing s with
  | nil => exact .refl s
  | cons f fs ih => exact (KeepsPoints.raise ..).trans (ih _)

theorem KeepsPoints.clearFault (k : Nat) (s : State) : KeepsPoints s (clearFault k s) :=
  ((KeepsPoints.of_outsideFaults (outsideFaults_clearRecord k s)).trans (.recomputeSince ..)).trans (.handHold ..)

/-! ## The two halves as one frame -/

theorem envelope_outside {a b : Envelope}
    (h : { a with limit := 0, tripSeen := false } = { b with limit := 0, tripSeen := false }) :
    a = { b with limit := a.limit, tripSeen := a.tripSeen } := by
  cases a; cases b; simp_all

theorem arbiter_outside {a b : Arbiter}
    (h : { a with yawClaim := none, yawGrant := none } = { b with yawClaim := none, yawGrant := none }) :
    a = { b with yawClaim := a.yawClaim, yawGrant := a.yawGrant } := by
  cases a; cases b; simp_all

theorem tracker_outside {a b : Tracker}
    (h : { a with timer := none, window := none } = { b with timer := none, window := none }) :
    a = { b with timer := a.timer, window := a.window } := by
  cases a; cases b; simp_all

theorem decision_outside {a b : Decision}
    (h : { a with mode := .hold, startDwell := 0, stormEnter := 0, stormExit := 0, blocked := false } =
      { b with mode := .hold, startDwell := 0, stormEnter := 0, stormExit := 0, blocked := false }) :
    a = { b with mode := a.mode, startDwell := a.startDwell, stormEnter := a.stormEnter, stormExit := a.stormExit,
                 blocked := a.blocked } := by
  cases a; cases b; simp_all

/-- What `outsideMoves` keeps and what `KeepsPoints` keeps are together the frame of a raise. -/
theorem byFaultsOnly_of {s t : State} (h : outsideMoves t = outsideMoves s) (hp : KeepsPoints s t) :
    ByFaultsOnly s t := by
  refine ⟨?_, hp.2⟩
  have he := envelope_outside (congrArg State.envelope h)
  have ha := arbiter_outside (congrArg State.arbiter h)
  have ht := tracker_outside (congrArg State.tracker h)
  have hd := decision_outside (congrArg State.decision h)
  clear hp
  cases s
  cases t
  simp only [outsideMoves, outsideActions, outsideFaults, State.mk.injEq] at h he ha ht hd ⊢
  and_intros
  all_goals first | rfl | exact he | exact ha | exact ht | exact hd | simp only [h]

theorem byFaultsOnly_refl (s : State) : ByFaultsOnly s s := ⟨rfl, fun _ _ => rfl⟩

/-- Everything a raise does lies in its frame (R160, R164, R137). -/
theorem byFaultsOnly_raise (k : Nat) (c : Int) (s : State) : ByFaultsOnly s (raise k c s) :=
  byFaultsOnly_of (outsideMoves_raise k c s) (.raise k c s)

/-- Everything an end does lies in its frame (R161, R164). -/
theorem byFaultsOnly_endCondition (k : Nat) (s : State) : ByFaultsOnly s (endCondition k s) :=
  byFaultsOnly_of (outsideMoves_endCondition k s) (.endCondition k s)

/-- Everything a judgement does lies in its frame (R154). -/
theorem byFaultsOnly_judge (k : Nat) (present : Bool) (c : Int) (s : State) : ByFaultsOnly s (judge k present c s) :=
  byFaultsOnly_of (outsideMoves_judge k present c s) (.judge k present c s)

/-- Everything a clear does lies in the same frame (R162). -/
theorem byFaultsOnly_clearFault (k : Nat) (s : State) : ByFaultsOnly s (clearFault k s) :=
  byFaultsOnly_of (outsideMoves_clearFault k s) (.clearFault k s)

/-! ## The twist conditions and the planning block (R147, R140) -/

@[simp] theorem outsideMoves_judgeTwistLimit (s : State) : outsideMoves (judgeTwistLimit s) = outsideMoves s := by
  unfold judgeTwistLimit
  dsimp only
  split <;> simp

@[simp] theorem outsideMoves_judgeTwist (s : State) : outsideMoves (judgeTwist s) = outsideMoves s := by
  simp [judgeTwist]

@[simp] theorem outsideMoves_setBlock (b : Bool) (s : State) : outsideMoves (setBlock b s) = outsideMoves s := by
  unfold setBlock
  dsimp only
  split <;> simp

theorem KeepsPoints.judgeTwistLimit (s : State) : KeepsPoints s (judgeTwistLimit s) := by
  unfold Machine.judgeTwistLimit
  dsimp only
  split
  · exact (KeepsPoints.judge _ _ _ s).trans (.abortMove _)
  · exact .judge _ _ _ s

theorem KeepsPoints.judgeTwist (s : State) : KeepsPoints s (judgeTwist s) :=
  (KeepsPoints.judge _ _ _ s).trans (.judgeTwistLimit _)

/-- Everything a judgement of the twist conditions does, the end of a move included, lies in the frame of a raise. -/
theorem byFaultsOnly_judgeTwist (s : State) : ByFaultsOnly s (judgeTwist s) :=
  byFaultsOnly_of (outsideMoves_judgeTwist s) (.judgeTwist s)

/-- The planning block set or cleared: the block itself, and beyond it only what the judgement does (R140, R147). -/
theorem byFaultsOnly_setBlock (b : Bool) (s : State) :
    ByFaultsOnly { s with decision := { s.decision with blocked := b } } (setBlock b s) := by
  unfold setBlock
  dsimp only
  split
  · exact byFaultsOnly_judgeTwist _
  · exact byFaultsOnly_of (outsideMoves_judgeTwistLimit _) (.judgeTwistLimit _)

/-- A block that stands as it is set: the limit alone is judged (R140). -/
theorem setBlock_of_eq {b : Bool} {s : State} (h : s.decision.blocked = b) : setBlock b s = judgeTwistLimit s := by
  subst h
  simp [setBlock]

/-! ## An edge (R110 to R112, R117) -/

/-- The state but for what an edge changes at all: also every field of the tracker but the filtered levels and the
quadrature state. -/
def outsideEdges (s : State) : State :=
  { outsideMoves s with
    tracker := { Tracker.reset s.tracker.filtA s.tracker.filtB s.tracker.filtIndex with
      quadA := s.tracker.quadA, quadB := s.tracker.quadB } }

theorem outsideEdges_of_moves {s t : State} (h : outsideMoves t = outsideMoves s) : outsideEdges t = outsideEdges s := by
  have ht : (outsideMoves t).tracker = (outsideMoves s).tracker := congrArg State.tracker h
  simp only [outsideMoves, Tracker.mk.injEq] at ht
  simp [outsideEdges, h, ht]

@[simp] theorem outsideEdges_raise (k : Nat) (c : Int) (s : State) : outsideEdges (raise k c s) = outsideEdges s :=
  outsideEdges_of_moves (by simp)

@[simp] theorem outsideEdges_writeHeading (s : State) : outsideEdges (writeHeading s) = outsideEdges s :=
  outsideEdges_of_moves (by simp [writeHeading])

@[simp] theorem outsideEdges_judgeTwist (s : State) : outsideEdges (judgeTwist s) = outsideEdges s :=
  outsideEdges_of_moves (by simp)

@[simp] theorem outsideEdges_judgeTrackLost (before : Nat) (s : State) :
    outsideEdges (judgeTrackLost before s) = outsideEdges s := by
  unfold judgeTrackLost
  split
  · rfl
  · exact outsideEdges_of_moves (by simp)

@[simp] theorem outsideEdges_restartEdgeTimer (s : State) : outsideEdges (restartEdgeTimer s) = outsideEdges s := by
  unfold restartEdgeTimer
  split <;> rfl

@[simp] theorem outsideEdges_enterEdgeInterval (previous : Option Micros) (s : State) :
    outsideEdges (enterEdgeInterval previous s) = outsideEdges s := by
  unfold enterEdgeInterval enterInterval
  split
  · split
    · rfl
    · split <;> rfl
  · rfl

@[simp] theorem outsideEdges_moveCount (d : Int) (s : State) : outsideEdges (moveCount d s) = outsideEdges s := rfl

/-- A step entry with the tracker's move start, where there is one (R128, R114). -/
@[simp] theorem outsideEdges_enterStepOnce (k : Nat) (start : Option Bool) (s : State) :
    outsideEdges (enterStepOnce k start s) = outsideEdges s := by
  have h : ∀ (y : YawStep) (u : State), outsideEdges u = outsideEdges s →
      outsideEdges (trackerStepEntry k y.motion (stepDirection y u.moveDirection) u) = outsideEdges s :=
    fun y u hu => (outsideEdges_of_moves (by simp)).trans hu
  have hw : outsideEdges (writePattern k s) = outsideEdges s := outsideEdges_of_moves (by simp)
  unfold enterStepOnce
  apply h
  split
  · exact hw
  · exact hw

@[simp] theorem outsideEdges_enterStepChain (fuel k : Nat) (start : Option Bool) (s : State) :
    outsideEdges (enterStepChain fuel k start s) = outsideEdges s := by
  induction fuel generalizing k start s with
  | zero => rfl
  | succ fuel ih =>
    unfold enterStepChain
    dsimp only
    split
    · exact outsideEdges_of_moves (by simp)
    · split <;> simp [ih]

@[simp] theorem outsideEdges_sequencer (q : Sequencer) (s : State) :
    outsideEdges { s with sequencer := q } = outsideEdges s := rfl

@[simp] theorem outsideEdges_handStep (d : Int) (s : State) : outsideEdges (handStep d s) = outsideEdges s := by
  unfold handStep enterStep
  dsimp only
  split_ifs <;> simp

@[simp] theorem outsideEdges_countedEdge (d : Int) (previous : Option Micros) (s : State) :
    outsideEdges (countedEdge d previous s) = outsideEdges s := by
  have hc : ∀ u : State, outsideEdges u = outsideEdges s →
      outsideEdges (if (s.sequencer.step = 0) then
        { u with tracker := { u.tracker with slips := bump 65535 u.tracker.slips } } else u) = outsideEdges s := by
    intro u hu; split <;> exact hu
  have hs : ∀ (p : Prop) [Decidable p] (u : State), outsideEdges u = outsideEdges s →
      outsideEdges (if p then raise fcSlip u.tracker.slips { u with tracker := { u.tracker with slipRaised := true } }
        else u) = outsideEdges s := by
    intro p _ u hu
    split
    · rw [outsideEdges_raise]; exact hu
    · exact hu
  unfold countedEdge
  simp only [outsideEdges_judgeTwist, outsideEdges_handStep, decide_eq_true_eq]
  apply hs
  rw [outsideEdges_judgeTrackLost, outsideEdges_writeHeading]
  apply hc
  rw [outsideEdges_restartEdgeTimer, outsideEdges_enterEdgeInterval]
  rfl

@[simp] theorem outsideEdges_absorbedEdge (previous : Option Micros) (s : State) :
    outsideEdges (absorbedEdge previous s) = outsideEdges s := by
  unfold absorbedEdge
  dsimp only
  rw [outsideEdges_judgeTrackLost]
  split
  · rw [outsideEdges_writeHeading, outsideEdges_restartEdgeTimer, outsideEdges_enterEdgeInterval]; rfl
  · rw [outsideEdges_restartEdgeTimer, outsideEdges_enterEdgeInterval]; rfl

@[simp] theorem outsideEdges_rejectBounce (s : State) : outsideEdges (rejectBounce s) = outsideEdges s := by
  unfold rejectBounce
  dsimp only
  split
  · rfl
  · split
    · rw [outsideEdges_raise]; rfl
    · rfl

/-- Everything an edge leaves alone, whether a bounce, absorbed or counted (R111, R112, R117). -/
@[simp] theorem outsideEdges_toothEdge (d : Int) (s : State) : outsideEdges (toothEdge d s) = outsideEdges s := by
  unfold toothEdge
  dsimp only
  split
  · simp
  · split
    · rw [outsideEdges_absorbedEdge]; rfl
    · rw [outsideEdges_countedEdge]; rfl

/-- What `outsideEdges` keeps: the time, the inputs, the tables, the filtered levels. -/
theorem keeps_of_outsideEdges {s t : State} (h : outsideEdges t = outsideEdges s) :
    t.timebase = s.timebase ∧ t.inputs = s.inputs ∧ t.banks = s.banks ∧ t.due = s.due ∧
      t.tracker.filtA = s.tracker.filtA ∧ t.tracker.filtB = s.tracker.filtB ∧
      t.tracker.filtIndex = s.tracker.filtIndex := by
  simp only [outsideEdges, outsideMoves, outsideActions, outsideFaults, State.mk.injEq, Tracker.reset,
    Tracker.mk.injEq] at h
  simp only [h, and_self]

/-! ## The binding of a frame in passage (R17, R28) -/

/-- The engine of a frame in passage when records leave the list changes in its binding alone. -/
theorem keeping_eq (gone : List FlightRecord) (e : Engine) :
    e.keeping gone = { e with binding := keptBinding gone e.binding } := by
  obtain ⟨_, _, _, _, _, _, _, _, _, _, binding, _, _, _, _, _, _, _, _⟩ := e
  cases binding with
  | record id =>
    cases h : gone.find? (fun r => r.id == id) <;> simp [Engine.keeping, keptBinding, h]
  | _ => rfl

@[simp] theorem keeping_voided (gone : List FlightRecord) (e : Engine) : (e.keeping gone).voided = e.voided := by
  simp [keeping_eq]

@[simp] theorem keeping_active (gone : List FlightRecord) (e : Engine) : (e.keeping gone).active = e.active := by
  simp [keeping_eq]

@[simp] theorem keeping_staging (gone : List FlightRecord) (e : Engine) : (e.keeping gone).staging = e.staging := by
  simp [keeping_eq]

/-- A record kept by a frame in passage gives its service slot what it would have given from the list (R19, R28). -/
theorem slotResponse_of_removed {s : State} {r : FlightRecord} (h : s.retLane.binding = .removed r) :
    s.slotResponse = r.slotResponse := by
  simp [State.slotResponse, h]

end Sys2Proof.Machine
end

