-- ==== Sys2Proof/Laws/Time.lean ====
section
/-! SUPPORT. The passing of time: what fuel it needs, and when it takes nothing. -/

namespace Sys2Proof.Machine

@[simp] theorem passTime_zero (s : State) : s.passTime 0 = s := by simp [State.passTime]

/-- Two times that pass with nothing falling in them are one. -/
theorem passTime_passTime (m n : Nat) (s : State) : (s.passTime m).passTime n = s.passTime (m + n) := by
  simp [State.passTime, BitVec.ofNat_add, BitVec.add_assoc]

/-- Any fuel from the time on does. -/
theorem passThrough_of_le (first : Bool) {fuel n : Nat} (h : n ≤ fuel) (s : State) :
    passThrough first fuel n s = letPass first n s := by
  unfold letPass
  induction n using Nat.strongRecOn generalizing fuel s with
  | _ n ih =>
    cases fuel with
    | zero => obtain rfl : n = 0 := by omega
              rfl
    | succ fuel =>
      cases n with
      | zero => simp [passThrough]
      | succ n =>
        simp only [passThrough]
        split
        · rfl
        · rw [ih (n + 1 - s.untilNext - 1) (by omega) (fuel := fuel) (by omega),
            ih (n + 1 - s.untilNext - 1) (by omega) (fuel := n) (by omega)]

@[simp] theorem letPass_zero (first : Bool) (s : State) : letPass first 0 s = s := by simp [letPass, passThrough]

/-- An event whose time does not run, or has some left, is not taken. -/
theorem takeTimed_of_left {s : State} {e : Timed} (h : ∀ t, s.timing e = some t → 0 < s.left t) : takeTimed s e = s := by
  unfold takeTimed
  cases ht : s.timing e with
  | none => rfl
  | some t =>
    have := h t ht
    rw [if_neg]
    simp only [Option.map_some, Option.some.injEq]
    omega

/-- Inputs whose raw levels stand at the filtered ones, or have still to hold, give no transition. -/
theorem takeTransitions_of_wait {s : State} (first : Bool)
    (ha : s.filterWait s.inputs.toothA s.tracker.filtA ≠ some 0)
    (hb : s.filterWait s.inputs.toothB s.tracker.filtB ≠ some 0)
    (hi : s.filterWait s.inputs.index s.tracker.filtIndex ≠ some 0) : takeTransitions first s = s := by
  simp only [takeTransitions, ha, hb, hi, decide_false]
  cases first <;> rfl

end Sys2Proof.Machine
end

