-- ==== Sys2Proof/WellFormed.lean ====
section
/-! DEFINITION. Which commands are well formed: what a sender of the data book's kind can send. The machine gives
every command a next state, well formed or not; these checks say which commands a frame can carry. -/

namespace Sys2Proof

/-- A service slot that is captured has a length of 1 to 60 (R201). -/
def slotLengthOk (len : Nat) : Bool := 1 ≤ len && len ≤ 60

/-- The blocks of a commit's order, each named at most once (log entry 5). -/
def orderOk (order : List Block) : Bool := decide order.Nodup

/-- The well-formed commands. A request's slot has the length of a captured slot (R201) and holds the words or
point numbers that the request counts (R202, step 2). -/
def Instr.wellFormed : Instr → Bool
  | .pinReset _ _ _ _ => true
  | .lineLockGained _ => true
  | .lineLockLost _ => true
  | .startDelimiterAtP0 => true
  | .frameDropped => true
  | .p1BecomesIdle => true
  | .outFrameStart => true
  | .returnFrameStart => true
  | .slotEntryApply _ => true
  | .frameOverlengthCut _ => true
  | .outFrameEnd _ => true
  | .returnFrameEnd order => orderOk order
  | .yawStepTimeout => true
  | .reportContentsTaken => true
  | .serviceResponseWrite => true
  | .supervisionExpiry => true
  | .islandFrameDue => true
  | .filteredTransition _ _ _ held _ => held < 2 ^ 32
  | .forcedAdvance => true
  | .absorptionWindowClose => true
  | .lastEdgeForget => true
  | .clockSecond _ _ => true
  | .clockMinute => true
  | .restBegin => true
  | .restEnd => true
  | .pumpExerciseStart => true
  | .pumpExerciseEnd => true
  | .identify len => slotLengthOk len
  | .run len => slotLengthOk len
  | .pass len => slotLengthOk len
  | .softReset len => slotLengthOk len
  | .tableWrite len _ _ words => slotLengthOk len && words.length ≤ 27 && 5 + 2 * words.length ≤ len
  | .tableRead len _ _ _ _ => slotLengthOk len
  | .copy len _ => slotLengthOk len
  | .exchange len _ _ => slotLengthOk len
  | .lock len _ => slotLengthOk len
  | .unlock len _ => slotLengthOk len
  | .pointRead len points => slotLengthOk len && 2 + points.length ≤ len
  | .pointForce len _ _ => slotLengthOk len
  | .pointRelease len _ => slotLengthOk len
  | .slotStats len _ _ => slotLengthOk len
  | .faultRead len _ => slotLengthOk len
  | .faultClear len _ => slotLengthOk len
  | .faultClearAll len => slotLengthOk len
  | .logRead len _ _ => slotLengthOk len
  | .logDiscard len _ => slotLengthOk len
  | .setTime len _ => slotLengthOk len
  | .setHeading len _ => slotLengthOk len
  | .setTwist len _ => slotLengthOk len
  | .yawMode len _ => slotLengthOk len
  | .yawTarget len _ _ => slotLengthOk len
  | .yawSeek len => slotLengthOk len
  | .armSupervision len => slotLengthOk len
  | .startDelimiterAtP2 => true
  | .frameByte _ => true

end Sys2Proof
end

