-- ==== Sys2Proof/Tests/Slice0.lean ====
section
/-! SUPPORT. Tests. The checks of WellFormed, one step or one operation of most commands against the data book's worked
sequences (the section is named at each), and for every statement of Obligations.lean that has hypotheses a theorem
`meets_<Name>`: a concrete state and operands meet them, clause by clause, at boundary values where there are any. The
theorems are elaborated one after the other (Elab.async), which keeps the memory of `decide +kernel` small. -/

set_option Elab.async false

namespace Sys2Proof.Tests

open Sys2Proof.Machine Sys2Proof.Safety

/-! ## A part to test on -/

/-- A list of numbers as table words. -/
def words (l : List Nat) : List Word := l.map (BitVec.ofNat 16)

/-- A valid table copy. -/
def table (l : List Nat) : TableCopy := { words := words l, valid := true }

/-- The PLT of sections 3.3.1 and 5.7. -/
def plt : List Nat :=
  [1800, 0x0FFF, 50, 32768, 29491, 24576, 16384, 16384, 12288, 8192, 4096, 16384, 300, 150, 40, 55]

/-- A DRT-T with the breakpoints of section 3.1. -/
def drtT : List Nat :=
  [700, 32768, 800, 32768, 900, 32768, 1000, 32768, 1150, 24576, 1200, 16384, 1250, 4096, 1300, 0]

/-- The DRT-G of section 3.5.1 with depth code 2 (section 3.4.1). -/
def drtG : List Nat :=
  [850, 900, 1080, 1100, 250, 50, 2, 0, 0, 0, 200, 10, 0, 300, 100, 4096, 400, 300, 8192, 500, 900, 16384,
   600, 1500, 20480, 700, 3000, 24576, 850, 30000, 32768]

/-- The THM of sections 4.8.1, 4.8.3, 4.8.4 and 4.8.5. -/
def thm : List Nat :=
  [12000, 20000, 655, 1200, 300, 450, 1250, 600, 450, 500, 0, 600, 0, 700, 300, 800, 600, 900, 900, 1000, 1000,
   50, 720, 120, 300, 300, 350, 400, 270, 320, 370]

/-- The YCF of sections 6.10 and 7.11.2. -/
def ycf : List Nat :=
  [7200, 100, 0x0F, 20, 16, 192, 3, 2, 3, 3392, 10, 6000, 3000, 10000, 500, 2500, 2000, 3, 64, 50, 3, 5, 600, 10, 30,
   0x0F, 0x03, 0x0F]

/-- A step of a YST in the fields of R216. -/
def stepWords (brake drives direction motion stop speed trigger argument timeout next onTimeout : Nat) : List Nat :=
  [brake + 4 * direction + 16 * motion + 32 * stop + 256 * trigger + 4096 * next, 256 * drives + onTimeout, speed,
   argument, timeout]

/-- The YST of section 7.11.1. -/
def yst : List Nat :=
  [1, 5] ++ stepWords 2 0 0 0 0 0 3 20 50 2 6 ++ stepWords 2 0xFF 1 1 0 300 1 20 100 3 5 ++
    stepWords 2 0xFF 1 1 0 1000 2 0 3000 5 5 ++ stepWords 0 0 0 0 0 0 0 1 0 0 0 ++
    stepWords 2 0xFF 1 1 1 200 0 10 0 6 6 ++ stepWords 1 0 0 0 1 0 4 80 40 7 7 ++ stepWords 0 0 0 0 1 0 0 5 0 0 0

/-- A FAT that logs and reports every code: ALARM, SELF_CLEARING, no action (R216). -/
def fat : List Nat := List.replicate 64 0x1A

/-- The ITP of section 9.8.1. -/
def itp : List Nat := [0, 20000, 0, 10000, 3, 0x2106, 0x3004, 0x5208]

/-- The part in RUN with those tables ACTIVE, an empty slot map and no fault. -/
def lab : State :=
  { State.reset with
    opState := .run
    faults := List.replicate 64 .reset
    summary := .reset
    points := List.replicate 256 .reset
    banks := { Banks.reset with
      active := [table [], table plt, table drtT, table drtG, table thm, table ycf, table yst, table fat, table itp]
      generation := 1 } }

/-- The state an outcome goes on with. -/
def after : Outcome → State
  | .next t => t
  | _ => State.reset

/-- A point's record set. -/
def withPoint (n : Nat) (v : Int) (q : Quality) (age : Nat) (s : State) : State :=
  { s with points := s.points.set n { value := v, quality := q, age := age } }

/-! ## Well-formed commands -/

theorem test_wellFormed_accepts :
    (Instr.pointRead 60 [0, 2, 32, 44]).wellFormed = true ∧
    (Instr.tableWrite 60 1 0 (words (List.replicate 27 7))).wellFormed = true ∧
    (Instr.returnFrameEnd [.arbiter, .thermal]).wellFormed = true ∧ (Instr.identify 1).wellFormed = true ∧
    (Instr.filteredTransition true true true 4294967295 false).wellFormed = true := by decide +kernel

theorem test_wellFormed_refuses_slot_lengths :
    (Instr.identify 0).wellFormed = false ∧ (Instr.run 61).wellFormed = false ∧ (Instr.pass 0).wellFormed = false ∧
    (Instr.softReset 61).wellFormed = false ∧ (Instr.tableRead 0 0 0 0 1).wellFormed = false ∧
    (Instr.copy 61 1).wellFormed = false ∧ (Instr.exchange 0 1 0).wellFormed = false ∧
    (Instr.lock 61 1).wellFormed = false ∧ (Instr.unlock 0 1).wellFormed = false ∧
    (Instr.pointForce 61 0 0).wellFormed = false ∧ (Instr.pointRelease 0 0).wellFormed = false ∧
    (Instr.slotStats 61 0 1).wellFormed = false ∧ (Instr.faultRead 0 0).wellFormed = false ∧
    (Instr.faultClear 61 0).wellFormed = false ∧ (Instr.faultClearAll 0).wellFormed = false ∧
    (Instr.logRead 61 0 1).wellFormed = false ∧ (Instr.logDiscard 0 0).wellFormed = false ∧
    (Instr.setTime 61 0).wellFormed = false ∧ (Instr.setHeading 0 0).wellFormed = false ∧
    (Instr.setTwist 61 0).wellFormed = false ∧ (Instr.yawMode 0 0).wellFormed = false ∧
    (Instr.yawTarget 61 0 0).wellFormed = false ∧ (Instr.yawSeek 0).wellFormed = false ∧
    (Instr.armSupervision 61).wellFormed = false := by decide +kernel

theorem test_wellFormed_refuses_counts :
    (Instr.tableWrite 61 1 0 (words [7])).wellFormed = false ∧
    (Instr.tableWrite 60 1 0 (words (List.replicate 28 7))).wellFormed = false ∧
    (Instr.tableWrite 6 1 0 (words [7])).wellFormed = false ∧
    (Instr.pointRead 0 []).wellFormed = false ∧ (Instr.pointRead 5 [0, 2, 32, 44]).wellFormed = false := by decide +kernel

theorem test_wellFormed_refuses_order_and_duration :
    (Instr.returnFrameEnd [.arbiter, .thermal, .arbiter]).wellFormed = false ∧
    (Instr.filteredTransition true true true 4294967296 false).wellFormed = false := by decide +kernel

/-! ## Formats (chapter 12) and curves (3.1) -/

/-- The check of the bytes "123456789" under x^16 + x^12 + x^5 + 1 from 0xFFFF without inversion, the published value of
that CRC (R211). -/
theorem test_crc : crc16 [0x31, 0x32, 0x33, 0x34, 0x35, 0x36, 0x37, 0x38, 0x39] = 0x29B1#16 := by decide +kernel

/-- Section 12.5.1: entry 5 of the worked slot map, its first and last action. -/
theorem test_smt_words :
    let smt := List.replicate 125 0 ++ words [0x2124, 0x002A, 0x2120, 0, 0, 0, 0, 0, 0, 0, 0x4311, 0x2D00, 0]
    (slotEntry smt 5).tag = 0x21 ∧ (slotEntry smt 5).required = true ∧ (slotEntry smt 5).fieldCount = 4 ∧
    fieldAction smt 5 0 = { displacement := 0, width := 2, signed := true, kind := 2, noPointA := false,
                            noPointB := false, pointA := 33, pointB := 32, tolerance := 0 } ∧
    fieldAction smt 5 3 = { displacement := 3, width := 1, signed := false, kind := 1, noPointA := false,
                            noPointB := true, pointA := 45, pointB := 0, tolerance := 0 } := by
  decide +kernel

/-- Section 3.1: DRT-T at 1120; DRT-G at 450 in both columns. -/
theorem test_curves :
    curve lab.thermalCurve 1120 = 26215 ∧ curve lab.allowedCurve 450 = 600 ∧ curve lab.gridCurve 450 = 12288 := by
  decide +kernel

/-! ## Worked sequences of the jobs -/

/-- Section 3.3.1: L rises from 1300 to 1350 toward 1440. -/
theorem test_envelope_update :
    let s := withPoint 44 1120 .fresh 0 { lab with
      summary := { Summary.reset with derate := 1 }, envelope := { Envelope.reset with limit := 1300 } }
    (envelopeUpdate [] s).envelope.limit = 1350 ∧ (envelopeUpdate [] s).pointValue 32 = 1350 ∧
    (envelopeUpdate [] s).pointValue 33 = -1350 ∧ (envelopeUpdate [] s).pointValue 62 = 26215 := by decide +kernel

/-- Section 3.4.1: update 3 stays NORMAL at 850, update 4 enters SAG at 775 and raises GRID_SAG with it. -/
theorem test_ride_through_enters_sag :
    let s (h : List Int) := withPoint 0 700 .fresh 0 { lab with envelope := { Envelope.reset with history := h } }
    (rideThroughUpdate (s [700, 1000, 1000, 1000, 1000, 1000, 1000, 1000])).envelope.rideThrough = .normal ∧
    (rideThroughUpdate (s [700, 700, 1000, 1000, 1000, 1000, 1000, 1000])).envelope.rideThrough = .sag ∧
    ((rideThroughUpdate (s [700, 700, 1000, 1000, 1000, 1000, 1000, 1000])).fault fcGridSag).context = 775 := by
  decide +kernel

/-- Section 4.8.1: the rise goes from 300 to 301, the junction to 651. -/
theorem test_module_update :
    let s := withPoint 3 1200 .fresh 0 (withPoint 2 350 .fresh 0 (withPoint 7 1400 .fresh 0 { lab with
      thermal := { Thermal.reset with rises := List.replicate 12 300 } }))
    (moduleUpdate s 0).thermal.rises.getD 0 0 = 301 ∧ (moduleUpdate s 0).pointValue 46 = 651 := by decide +kernel

/-- Section 4.8.3, update 2: command 100, claim 15, PUMP_SPEED 53 against the grant of 8. -/
theorem test_pump_update :
    let s := withPoint 2 350 .fresh 0 (withPoint 44 651 .fresh 0 { lab with
      thermal := { Thermal.reset with pumpCommand := 50 }, arbiter := { Arbiter.reset with pumpGrant := 8 } })
    (pumpUpdate s).thermal.pumpCommand = 100 ∧ (pumpUpdate s).arbiter.pumpClaim = 15 ∧
    (pumpUpdate s).pointValue 40 = 53 := by decide +kernel

/-- Section 4.8.5, updates 3, 4 and 5: stage 2 at 325, 1 at 318, 2 with a silent inlet. -/
theorem test_fan_stages :
    let s (v : Int) (q : Quality) (k : Nat) := withPoint 2 v q 0 { lab with
      thermal := { Thermal.reset with fanRequest := k } }
    (s 325 .fresh 2).nextFanStage = 2 ∧ (s 318 .fresh 2).nextFanStage = 1 ∧ (s 318 .stale 1).nextFanStage = 2 := by
  decide +kernel

/-- Section 5.7, commit 3: budget 100, the pump gets all of it, the shortfall is 130. -/
theorem test_arbiter_evaluation :
    let s := withPoint 1 200 .fresh 0 { lab with
      envelope := { Envelope.reset with rideThrough := .sag }
      arbiter := { Arbiter.reset with pumpClaim := 150, fanClaim := 2, yawClaim := some 4 } }
    (arbiterEvaluate s).arbiter.pumpGrant = 100 ∧ (arbiterEvaluate s).arbiter.fanGrant = 0 ∧
    (arbiterEvaluate s).arbiter.yawGrant = none ∧ ((arbiterEvaluate s).fault fcAuxShort).context = 130 := by
  decide +kernel

/-- Section 7.11.2, update 1: e_f goes from 0 to 20; section 7.11.3: the move takes the other way round. -/
theorem test_decision_filter_and_way :
    (misalignUpdate (withPoint 4 700 .fresh 0 (withPoint 42 617 .fresh 0 lab))).decision.misalignment = 20 ∧
    ({ lab with tracker := { lab.tracker with twist := 9900 } }).chooseWay 166 = some (-7034) := by decide +kernel


/-! ## Commands -/

/-- R28: what the release of RESET samples, and TIME_NOT_SET raised at it (R173). -/
theorem test_pin_reset :
    (after (exec (.pinReset true false true false) lab)).strap = .service ∧
    (after (exec (.pinReset true false true false) lab)).tracker.filtA = false ∧
    (after (exec (.pinReset true false true false) lab)).opState = .pass ∧
    (after (exec (.pinReset true false true false) lab)).condition fcTimeNotSet = true := by decide +kernel

/-- R1: lock gained and lost; a frame in passage is counted bad (R13, R14). -/
theorem test_line_lock :
    (after (exec (.lineLockGained .p0) State.reset)).rx0.line = .up ∧
    (after (exec (.lineLockLost .p0) { lab with rx0 := { lab.rx0 with line := .up, mode := .passing } })).rx0.line = .down ∧
    (after (exec (.lineLockLost .p0) { lab with rx0 := { lab.rx0 with line := .up, mode := .passing } })).outBad = 1 := by
  decide +kernel

/-- R22, R23: a second frame while P1 is BUSY goes into the hold buffer, a third is dropped with its cycle count. -/
theorem test_hold_and_drop :
    let up := { lab with rx0 := { lab.rx0 with line := .up } }
    (after (exec .startDelimiterAtP0 { up with p1 := { up.p1 with busy := true } })).rx0.mode = .buffering ∧
    (after (exec .startDelimiterAtP0 { up with hold := { up.hold with occupied := true } })).rx0.mode = .dropping ∧
    ((after (exec .frameDropped { up with rx0 := { up.rx0 with mode := .dropping, seen := [0x5A, 0x8C] } })).fault
      fcOverrun).context = 12 := by decide +kernel

/-- Section 1.11.3: P1 becoming IDLE takes the held frame. -/
theorem test_p1_idle :
    (after (exec .p1BecomesIdle { lab with
      p1 := { busy := true, bytes := [], ended := true }, hold := { lab.hold with occupied := true } })).outLane.source =
      .holdBuffer := by decide +kernel

/-- A frame of section 1.11.3 at its fifth header byte: cycle byte 12, not a restart. -/
def startOf (cycle : Byte) (lane : Lane) (s : State) : State :=
  let e := { Engine.reset with isOpen := true, recv := [0x5A, cycle, 1, 0, 7], held := [], parse := .tag }
  { s.setEngine lane e with due := [.frameStart lane] }

/-- Section 1.11.3: the advance is (12 - 90) mod 128 = 50, and the record of 12 is bound. -/
theorem test_out_frame_start :
    let t := after (exec .outFrameStart (startOf 12 .out (withPoint 80 5 .fresh 3 { lab with prevCycle := some 90 })))
    (t.point 80).age = 53 ∧ t.prevCycle = some 12 ∧ t.flight.map (·.cycle) = [12] ∧ t.outLane.generation = 1 := by
  decide +kernel

/-- Section 2.5.3: at the start of frame 15, advance 3 after frame 12, COOL_IN at age 2 with limit 3 becomes STALE. -/
theorem test_ageing :
    let smt : TableCopy := { words := List.replicate 1201 0xFFFF ++ [0x03FF] ++ List.replicate 126 0xFFFF, valid := true }
    let s := { lab with banks := { lab.banks with active := lab.banks.active.set 0 smt } }
    let t := after (exec .outFrameStart (startOf 15 .out (withPoint 2 352 .fresh 2 { s with prevCycle := some 12 })))
    t.point 2 = { value := 352, quality := .stale, age := 5 } ∧ (t.fault fcStaleInput).context = 2 ∧
    t.condition fcStaleInput = true := by decide +kernel

/-- A record in flight as section 1.11.1 writes it. -/
def flown (id cycle : Nat) (generation : Word) : FlightRecord :=
  { id := id, cycle := cycle, generation := generation, origin := .master, outcome := .good, response := none }

/-- Section 1.11.1: the return start of 40 binds it to its record; R17: a frame without one raises RING_ORDER. -/
theorem test_return_frame_start :
    (after (exec .returnFrameStart (startOf 40 .ret { lab with flight := [flown 3 40 7, flown 4 41 7] }))).retLane.binding =
      .record 3 ∧
    ((after (exec .returnFrameStart (startOf 44 .ret { lab with flight := [flown 3 40 7] }))).fault fcOrder).context = 44 := by
  decide +kernel

/-- The slot map of sections 2.5.1 and 2.5.2, with its two entries in the first two positions. -/
def slotMap : List Word :=
  words ([0x2124, 0x002A, 0x2120, 0, 0x400A, 0x5000, 0, 0x4211, 0x2200, 0, 0x4311, 0x2D00, 0] ++ List.replicate 12 0 ++
    [0x4132, 0x400A, 0x0700, 0, 0x003A, 0x5024, 200] ++ List.replicate 18 0)

/-- Section 2.5.1, frame 51: 1450 is clamped to 1350 and staged, CONV_TRIP and DERATE_LEVEL are inserted. -/
theorem test_slot_entry_apply :
    let s := { withPoint 32 1350 .fresh 0 (withPoint 33 (-1350) .fresh 0 (withPoint 45 1 .fresh 0 lab)) with
      due := [.slotApply .out]
      outLane := { Engine.reset with isOpen := true, entry := some 0, buffered := 6, generation := 1,
                                     held := [0x05, 0xAA, 0, 0, 0, 0] }
      banks := { lab.banks with active := lab.banks.active.set 0 { words := slotMap, valid := true } } }
    let t := after (exec (.slotEntryApply .out) s)
    t.p1.bytes ++ t.outLane.held = [0x05, 0x46, 0, 1, 0, 0] ∧ t.outLane.staging.values = [(80, 1350)] ∧
    (t.entryHits.getD 0 .reset).clamp = 1 := by decide +kernel

/-- Section 2.5.2: the measured 1600 A is staged, and the CHECK against 1350 with tolerance 200 stages CHECK_0. -/
theorem test_check_mismatch :
    let s := withPoint 80 1350 .fresh 0 lab
    let r := applyEntry .ret 1 (slotEntry slotMap 1) [0x06, 0x40] s
    r.2.retLane.staging.values = [(7, 1600)] ∧ r.2.retLane.staging.faults = [{ code := 36, context := 0x41 }] := by
  decide +kernel

/-- R7: the 1025th byte is the cut's occasion; the cut ends the frame bad. -/
theorem test_overlength_cut :
    (after (exec (.frameOverlengthCut .out) { lab with due := [.overlengthCut .out] })).outBad = 1 ∧
    (after (exec (.frameOverlengthCut .out) { lab with due := [.overlengthCut .out] })).rx0.mode = .discarding := by
  decide +kernel

/-- A frame of kind CYCLE without slots but one of tag 1 and length 0, whole and sound, on a lane. -/
def wholeFrame (s : State) : State :=
  let body : List Byte := [0x5A, 33, 1, 0, 7, 1, 0]
  let e := { Engine.reset with isOpen := true, recv := body ++ beBytes 2 (crc16 body).toNat, parse := .check,
                               held := beBytes 2 (crc16 body).toNat, started := true, active := true }
  { s with
    outLane := e, retLane := e, p1 := { s.p1 with bytes := body }, p3 := { s.p3 with bytes := body }
    rx0 := { s.rx0 with mode := .passing }, rx2 := { s.rx2 with mode := .passing } }

/-- Section 9.8.2: the good end of a cycle frame in ISLAND restarts the timer and returns the part to RUN, where no island
frame waits any more (R180); with a corrupted byte the end is bad and nothing of that happens. -/
theorem test_out_frame_end :
    let s := wholeFrame { lab with
      opState := .island, timebase := 4050000
      supervision := { armed := true, limit := 20000, timer := none, islandTimer := some ⟨0, 10000⟩, waiting := true } }
    let b := { s with outLane := { s.outLane with recv := s.outLane.recv.set 6 1 } }
    (after (exec (.outFrameEnd .p0) s)).opState = .run ∧
    (after (exec (.outFrameEnd .p0) s)).supervision.timer = some 4050000 ∧
    (after (exec (.outFrameEnd .p0) s)).supervision.waiting = false ∧
    (after (exec (.outFrameEnd .p0) b)).opState = .island ∧ (after (exec (.outFrameEnd .p0) b)).outBad = 1 := by
  decide +kernel

/-- R12: a good return end in RUN updates the jobs; its record leaves the list (R17). A frame that was in passage at a
SOFT_RESET commits nothing, whatever has set RUN since (R28, R75). -/
theorem test_return_frame_end :
    let s := wholeFrame { lab with flight := [flown 3 33 1] }
    let v := { s with retLane := { s.retLane with voided := true } }
    let t := after (exec (.returnFrameEnd [.tracker, .arbiter])
      { s with retLane := { s.retLane with binding := .record 3 } })
    t.flight = [] ∧ t.thermal.seeded = true ∧ (t.point 42).quality = .fresh ∧ t.p3.bytes = s.retLane.recv ∧
    (after (exec (.returnFrameEnd []) v)).thermal.seeded = false ∧ (after (exec (.returnFrameEnd []) v)).retBad = 0 := by
  decide +kernel

/-- Section 7.11.1: a step timeout in step 1 raises YAW_STEP_TIMEOUT and enters step 6. -/
theorem test_yaw_step_timeout :
    let s := { lab with
      due := [.stepTimeout]
      sequencer := { step := 1, phase := .running, record := some ⟨1, 166, .heading, .auto, 0x0F⟩, commits := 50, counts := 0 } }
    (after (exec .yawStepTimeout s)).sequencer.step = 6 ∧ (after (exec .yawStepTimeout s)).pointValue 36 = 1 ∧
    ((after (exec .yawStepTimeout s)).fault fcStepTimeout).context = 1 := by decide +kernel

/-- Section 8.9.1: the spotlight of frame 70 is code 16 at severity TRIP; the contents start with the state RUN. -/
theorem test_report_contents :
    let s := { lab with
      due := [.reportTaken]
      faults := (lab.faults.set 16 { FaultRecord.reset with pending := true }).set 17 { FaultRecord.reset with pending := true }
      banks := { lab.banks with active := lab.banks.active.set 7 (table (fat.set 16 0x041F)) }
      retLane := { Engine.reset with parse := .payload 0xFD 40 40 } }
    (after (exec .reportContentsTaken s)).spotlight = some { code := 16, raisedAgain := false } ∧
    (after (exec .reportContentsTaken s)).retLane.overlay.take 9 = [1, 0, 0, 1, 0, 0, 0, 16, 4] := by decide +kernel

/-- Section 11.6.2: byte 0 of the returning slot holds the status, the others 0; R19: NOT_TAKEN for an unbound frame. -/
theorem test_service_response :
    let s (b : Binding) := { lab with
      due := [.serviceWrite], retLane := { Engine.reset with binding := b, parse := .payload 0xFE 4 4 } }
    (after (exec .serviceResponseWrite (s (.carrier [2])))).retLane.overlay = [2, 0, 0, 0] ∧
    (after (exec .serviceResponseWrite (s .unbound))).retLane.overlay = [1, 0, 0, 0] := by decide +kernel

/-- Section 9.8.1: the expiry at 4,020,000 raises MASTER_SILENT with 33 and begins island frame 34, which declares a total
length of 29. -/
theorem test_supervision_expiry :
    let s := { lab with
      timebase := 4000000, prevCycle := some 33
      supervision := { armed := true, limit := 20000, timer := some 4000000, islandTimer := none, waiting := false } }
    let t := after (exec .supervisionExpiry s)
    t.opState = .island ∧ t.timebase = 4020000 ∧ (t.fault fcMasterSilent).context = 33 ∧ t.islandBytes.length = 31 ∧
    t.islandBytes.take 5 = [0xA5, 34, 3, 0, 29] := by decide +kernel

/-- Section 9.8.2: an island frame due while P1 is BUSY waits, and the island timer restarts. -/
theorem test_island_frame_due :
    let s := { lab with
      opState := .island, timebase := 4049995, p1 := { lab.p1 with busy := true }
      supervision := { armed := true, limit := 20000, timer := none, islandTimer := some ⟨4040000, 10000⟩, waiting := false } }
    (after (exec .islandFrameDue s)).supervision.waiting = true ∧
    (after (exec .islandFrameDue s)).supervision.islandTimer = some ⟨4050000, 10000⟩ := by decide +kernel

/-- The clockwise move of section 6.10 with 40 counts to go, in step 2. -/
def moving : State :=
  { withPoint 38 1 .fresh 0 lab with
    sequencer := { step := 2, phase := .running, record := some ⟨1, 40, .heading, .auto, 0x0F⟩, commits := 0, counts := 0 }
    arbiter := { Arbiter.reset with yawClaim := some 4, yawGrant := some 220 }
    tracker := { Tracker.reset true true true with
      heading := 1234, quality := .referenced, twist := 500, twistSet := true, lastEdge := some 0
      history := [203000, 205000, 198000, 210000, 1, 1, 1, 1], baseTime := 204000
      timer := some ⟨0, 306000⟩ } }

/-- Section 6.10.1: the forced advance at 306,000 µs. -/
theorem test_forced_advance :
    let t := after (exec .forcedAdvance moving)
    t.timebase = 306000 ∧ t.tracker.heading = 1235 ∧ t.tracker.twist = 501 ∧ t.tracker.quality = .deadReckoned ∧
    t.tracker.deadReckon = 1 ∧ t.tracker.window = some ⟨1, 306000, 204000⟩ ∧
    t.tracker.timer = some ⟨306000, 306000⟩ ∧ t.pointValue 42 = 617 := by decide +kernel

/-- Section 6.10.1: the late edge at 380,000 µs is absorbed; a clockwise filtered transition of A counts (R110, R112). -/
theorem test_edges :
    let late := toothEdge 1 { after (exec .forcedAdvance moving) with timebase := 380000 }
    let t := after (exec (.filteredTransition false true true 21 false) { moving with timebase := 203000 })
    late.tracker.heading = 1235 ∧ late.tracker.quality = .referenced ∧ late.tracker.baseTime = 246500 ∧
    late.tracker.timer = some ⟨380000, 369750⟩ ∧
    t.tracker.heading = 1235 ∧ t.timebase = 203021 ∧ (t.sequencer.record.map (·.remaining)) = some 39 := by decide +kernel

/-- R109, R115: an edge due before the timer's moment is taken on the way to it, restarts the timer, and no advance is
forced. -/
theorem test_edge_before_expiry :
    let low := after (exec (.filteredTransition false true true 20 false) { moving with timebase := 305975 })
    let t := after (exec .forcedAdvance low)
    low.tracker.heading = 1234 ∧ low.timebase = 305995 ∧ t.timebase = 306000 ∧ t.tracker.heading = 1235 ∧
    t.tracker.deadReckon = 0 ∧ t.tracker.lastEdge = some 305995 ∧
    (t.tracker.timer.map (·.start)) = some 305995 := by decide +kernel

/-- R115, R117: the timer expires within a hold, at 306,000 µs, and the edge at 306,010 µs is absorbed. -/
theorem test_expiry_within_hold :
    let t := after (exec (.filteredTransition false true true 30 false) { moving with timebase := 305990 })
    t.timebase = 306020 ∧ t.tracker.heading = 1235 ∧ t.tracker.twist = 501 ∧ t.tracker.quality = .referenced ∧
    t.tracker.deadReckon = 0 ∧ t.tracker.window = none ∧ t.tracker.lastEdge = some 306010 := by decide +kernel

/-- R119: a minute passes within a hold, and the slip edge after it is the first of its minute. -/
theorem test_minute_within_hold :
    let t := after (exec (.filteredTransition false true true 30 false) { lab with
      timebase := 999990, clock := { seconds := 59, phaseStart := 0, timeSet := true }
      tracker := { lab.tracker with slips := 9 } })
    t.clock.seconds = 60 ∧ t.tracker.slips = 1 ∧ t.tracker.lastEdge = some 1000010 ∧ t.due = [] := by decide +kernel

/-- R111: the last edge is forgotten within a hold, and no interval across that moment enters the history. -/
theorem test_forget_within_hold :
    let s := { moving with timebase := 2147483643, clock := { moving.clock with phaseStart := 2147000000 }
                           tracker := { moving.tracker with timer := none } }
    let t := after (exec (.filteredTransition false true true 30 false) s)
    t.tracker.lastEdge = some 2147483663 ∧ t.tracker.history = s.tracker.history ∧ t.tracker.heading = 1235 := by
  decide +kernel

/-- R110: with W = 0, changes of A and of B by two commands of one microsecond are a double transition; that microsecond
passes in the idle step. -/
theorem test_double_by_two_commands :
    let a := after (exec (.filteredTransition false true true 0 false) State.reset)
    let b := after (exec (.filteredTransition false false true 0 false) a)
    let t := after (step b)
    (b.fault fcQuadrature).count = 0 ∧ (t.fault fcQuadrature).count = 1 ∧ t.tracker.heading = 0 ∧
    t.tracker.twist = 0 ∧ t.tracker.quadA = false ∧ t.tracker.quadB = false ∧ t.timebase = 1 := by decide +kernel

/-- R160: a raise that changes no latch leaves the summary and DERATE_LEVEL as they stand. -/
theorem test_raise_without_latch_change :
    let s := { (State.reset.setFault fcTrackLost { FaultRecord.reset with latch := true }) with
      summary := { State.reset.summary with derate := 3 } }
    let t := raise fcTrackLost 5 s
    t.summary = s.summary ∧ t.points = s.points ∧ (t.fault fcTrackLost).condition = true := by decide +kernel

/-- R117 and R111: the window closes at its length, the last edge is forgotten after 2^31 µs. -/
theorem test_window_and_forget :
    let w := after (exec .absorptionWindowClose { moving with
      timebase := 306000
      tracker := { moving.tracker with window := some ⟨1, 306000, 204000⟩, timer := none } })
    let f := after (exec .lastEdgeForget { moving with
      timebase := 2147483000, clock := { moving.clock with phaseStart := 2147000000 }
      tracker := { moving.tracker with timer := none } })
    w.timebase = 510000 ∧ w.tracker.window = none ∧
    f.tracker.lastEdge = none ∧ f.timebase = 2147483648 := by decide +kernel

/-- R172: the second after 59 gives the minute; R148: seconds with a drive enabled count into the duty. -/
theorem test_clock :
    let s := withPoint 37 15 .fresh 0 { lab with
      clock := { seconds := 59, phaseStart := 0, timeSet := true }, tracker := { lab.tracker with slips := 4 } }
    let t := after (exec (.clockSecond false false) s)
    t.clock.seconds = 60 ∧ t.clock.phaseStart = 1000000 ∧ t.decision.duty = 1 ∧ t.due = [.minute true true] ∧
    (after (exec .clockMinute t)).tracker.slips = 0 := by decide +kernel

/-- R149, R90: rest and exercise begin and end. -/
theorem test_rest_and_exercise :
    (after (exec .restBegin { lab with due := [.restBegin] })).decision.rest = some 10 ∧
    (after (exec .restEnd { lab with due := [.restEnd], decision := { lab.decision with duty := 9 } })).decision.duty = 0 ∧
    (after (exec .pumpExerciseStart { lab with due := [.exerciseStart] })).thermal.exercise = some 120 ∧
    (after (exec .pumpExerciseEnd { lab with
      due := [.exerciseEnd], thermal := { lab.thermal with exercise := some 0 } })).thermal.exercise = none := by
  decide +kernel

/-- R206: the part number 7120 is 0x1BD0; R26: RUN needs every ACTIVE copy valid. -/
theorem test_identify_run_pass :
    (after (exec (.identify 9) lab)).response = some [0, 0x1B, 0xD0, 1, 1, 0, 0, 1, 0] ∧
    (after (exec (.run 1) State.reset)).response = some [4] ∧
    (after (exec (.run 1) { lab with opState := .pass })).opState = .run ∧
    (after (exec (.pass 1) lab)).opState = .pass := by decide +kernel

/-- R207, R18: SOFT_RESET keeps the timebase, empties the list and sets the carrier; the return frame in passage keeps its
binding (R28), and its slot its response (R19). -/
theorem test_soft_reset :
    let r := { flown 3 40 7 with response := some [0, 5] }
    let t := after (exec (.softReset 1) { lab with
      timebase := 7, flight := [r], retLane := { Engine.reset with isOpen := true, binding := .record 3 } })
    t.timebase = 7 ∧ t.flight = [] ∧ t.opState = .pass ∧ t.carrier = some (0, [0]) ∧ t.condition fcTimeNotSet = true ∧
    t.slotResponse = some [0, 5] := by
  decide +kernel

/-- Section 10.6.1: the write of one word into the SHADOW PLT, and its refusal while DRAINING. -/
theorem test_table_write :
    let s := { lab with banks := { lab.banks with shadow := lab.banks.shadow.set 1 (table (plt.set 3 32000)) } }
    let d := { s with banks := { s.banks with status := .draining } }
    (after (exec (.tableWrite 7 1 3 (words [32768])) s)).shadow 1 = words plt ∧
    (after (exec (.tableWrite 7 1 3 (words [32768])) s)).response = some [0, 1] ∧
    (after (exec (.tableWrite 7 1 3 (words [32768])) d)).response = some [6] := by decide +kernel

/-- Section 10.6.1: LOCKED for the locked FAT with context 0x080, INVALID for word 3 of PLT, then SCHEDULED. -/
theorem test_exchange :
    let s (f0 : Nat) := { lab with banks := { lab.banks with
      generation := 21, locks := lab.banks.locks.set 7 true, shadow := lab.banks.shadow.set 1 (table (plt.set 3 f0)) } }
    (after (exec (.exchange 5 0x082 21) (s 32000))).response = some [5] ∧
    ((after (exec (.exchange 5 0x082 21) (s 32000))).fault fcLockViolation).context = 0x080 ∧
    (after (exec (.exchange 5 0x002 21) (s 32000))).response = some [7, 1, 0, 3] ∧
    (after (exec (.exchange 5 0x002 21) (s 32768))).response = some [0, 0, 22, 1] ∧
    (after (exec (.exchange 5 0x002 21) (s 32768))).banks.status = .scheduled 2 := by decide +kernel

/-- Section 10.6.1: the swap at the start of frame 136 leaves generation 22, DRAINING. -/
theorem test_swap :
    let s := { lab with
      flight := [flown 1 6 21, flown 2 7 21]
      banks := { lab.banks with generation := 21, status := .scheduled 2, shadow := lab.banks.shadow.set 1 (table plt) } }
    (swapIfScheduled s).banks.generation = 22 ∧ (swapIfScheduled s).banks.status = .draining ∧
    (bankDrain { swapIfScheduled s with flight := [flown 3 8 22] }).banks.status = .idle := by decide +kernel

/-- R192, R193, R197, R198: TABLE_READ, COPY, LOCK and UNLOCK. -/
theorem test_bank_requests :
    (after (exec (.tableRead 60 1 0 14 5) lab)).response = some [0, 2, 1, 0, 1, 0, 0, 40, 0, 55] ∧
    (after (exec (.copy 3 2) lab)).shadow 1 = words plt ∧
    (after (exec (.lock 3 0x82) lab)).response = some [0, 0, 0x82] ∧
    (after (exec (.unlock 3 2) { lab with strap := .service, banks := { lab.banks with locks := lab.banks.locks.set 1 true } })).response = some [0, 0, 0] ∧
    (after (exec (.unlock 3 2) lab)).response = some [5] := by decide +kernel

/-- Section 2.5.3: a force of COOL_IN in both strap modes, and its release. -/
theorem test_force_and_release :
    let s := withPoint 2 352 .fresh 3 { lab with strap := .service }
    (after (exec (.pointForce 6 2 400) s)).point 2 = { value := 400, quality := .forced, age := 0 } ∧
    (after (exec (.pointForce 6 2 400) { s with strap := .normal })).response = some [8] ∧
    (after (exec (.pointRelease 2 2) (withPoint 2 400 .forced 5 lab))).point 2 = { value := 400, quality := .stale, age := 5 } := by
  decide +kernel

/-- R208, R209 and section 11.6.2: POINT_READ, its refusal for a short slot, and SLOT_STATS of position 47. -/
theorem test_point_read_and_stats :
    (after (exec (.pointRead 7 [80]) (withPoint 80 (-2) .fresh 5 lab))).response = some [0, 0xFF, 0xFF, 0xFF, 0xFE, 1, 5] ∧
    (after (exec (.pointRead 8 [0, 2, 32, 44]) lab)).response = some [9] ∧
    (after (exec (.pointRead 4 [0, 2, 32, 44]) lab)).response = some [3] ∧
    (after (exec (.slotStats 60 47 8) lab)).response = some [0, 1, 0, 0, 0, 0, 0, 0] := by decide +kernel

/-- Section 11.6.1: the clear of code 18 clears it and logs sequence 77; its repeat logs nothing. -/
theorem test_fault_clear :
    let s := { lab with
      faults := lab.faults.set 18 { FaultRecord.reset with latch := true }, log := { records := [], next := 77 } }
    let t := after (exec (.faultClear 2 18) s)
    (t.fault 18).latch = false ∧ t.log.records.map (fun r => (r.sequence, r.code, r.kind)) = [(77, 18, .cleared)] ∧
    (after (exec (.faultClear 2 18) t)).log.next = 78 := by decide +kernel

/-- Section 8.9.1: a clear of a present condition reasserts it; FAULT_READ of code 16; FAULT_CLEAR_ALL (R163). -/
theorem test_fault_read_and_clear_all :
    let r : FaultRecord := { FaultRecord.reset with condition := true, latch := true, count := 1, context := 1255 }
    let s := { lab with faults := lab.faults.set 16 r }
    ((after (exec (.faultClearAll 1) s)).fault 16).reasserted = true ∧
    ((after (exec (.faultClearAll 1) s)).fault 16).count = 2 ∧
    (after (exec (.faultRead 13 16) s)).response = some [0, 16, 3, 1, 0, 0, 0x04, 0xE7, 0, 0, 0, 0, 3] := by decide +kernel

/-- The log of section 8.9.3 after its two appends: sequences 202 to 265. -/
def fullLog (first : Nat) : FaultLog :=
  { records := (List.range 64).map (fun i =>
      { sequence := BitVec.ofNat 16 (first + i), code := 30, kind := .raised, seconds := 0, timeSet := true, cycle := 0,
        context := 0 })
    next := BitVec.ofNat 16 (first + 64) }

/-- Section 8.9.3: an append to the full log removes 200 and 201 and leaves 202 the oldest, 266 the next. -/
theorem test_full_log :
    let t := raise fcNotReady 1 { lab with log := fullLog 200 }
    t.log.oldest = 202 ∧ t.log.next = 266 ∧ t.log.records.length = 64 ∧ (t.fault fcLogOverwrite).context = 200 := by
  decide +kernel

/-- Section 8.9.3: LOG_READ 200 finds no record, oldest 202, count 64; LOG_DISCARD 204 leaves 61, and its repeat too. -/
theorem test_log_read_and_discard :
    let s := { lab with log := fullLog 202 }
    let t := after (exec (.logDiscard 4 204) s)
    (after (exec (.logRead 60 200 3) s)).response = some [0, 0, 202, 64, 0] ∧ t.response = some [0, 0, 205, 61] ∧
    (after (exec (.logDiscard 4 204) t)).response = some [0, 0, 205, 61] := by decide +kernel

/-- R173, R122, R123: SET_TIME, SET_HEADING and SET_TWIST. -/
theorem test_set_requests :
    (after (exec (.setTime 5 1000) { State.reset with timebase := 9 })).clock = { seconds := 1000, phaseStart := 9, timeSet := true } ∧
    (after (exec (.setTime 5 1000) State.reset)).condition fcTimeNotSet = false ∧
    (after (exec (.setHeading 3 1234) lab)).pointValue 42 = 617 ∧
    (after (exec (.setHeading 3 7200) lab)).response = some [3] ∧
    (after (exec (.setTwist 5 (-10000)) lab)).condition fcTwistLimit = true ∧
    (after (exec (.setTwist 5 0x80000000) lab)).response = some [3] := by decide +kernel

/-- R143, and R144 from heading count 1234 to heading 700: the count is 166 clockwise (section 7.11.2's figures). The end of
a planning block judges both twist conditions (R147). -/
theorem test_yaw_requests :
    let ready := { lab with
      decision := { lab.decision with mode := .manual }
      tracker := { lab.tracker with heading := 1234, quality := .referenced, twist := 500, twistSet := true } }
    let blocked := { ready with
      decision := { ready.decision with blocked := true }, tracker := { ready.tracker with twist := 6000 } }
    (after (exec (.yawMode 2 1) blocked)).condition fcTwistWarn = true ∧
    (after (exec (.yawMode 2 1) lab)).decision.mode = .auto ∧ (after (exec (.yawMode 2 2) lab)).response = some [3] ∧
    (after (exec (.yawTarget 4 700 0) ready)).sequencer.record = some ⟨1, 166, .heading, .manual, 0x0F⟩ ∧
    (after (exec (.yawTarget 4 700 0) ready)).arbiter.yawClaim = some 4 ∧
    (after (exec (.yawSeek 1) ready)).sequencer.record = some ⟨1, 7920, .heading, .seek, 0x0F⟩ := by decide +kernel

/-- R176: the captured limit is the ITP's 20,000. -/
theorem test_arm_supervision :
    (after (exec (.armSupervision 5) lab)).response = some [0, 0, 0, 0x4E, 0x20] ∧
    (after (exec (.armSupervision 5) lab)).supervision.armed = true ∧
    (after (exec (.armSupervision 5) { lab with opState := .pass })).response = some [4, 0, 0, 0, 0] := by decide +kernel

/-- R4, R8, R1: a byte at P0 is held back; a start delimiter opens the return lane. -/
theorem test_bytes :
    let s := { lab with rx0 := { lab.rx0 with mode := .passing }, rx2 := { lab.rx2 with line := .up } }
    (after (exec (.frameByte (.p0 0x5A)) s)).outLane.held = [0x5A] ∧
    (after (exec (.frameByte (.p0 0x5A)) s)).p1.bytes = [] ∧
    (after (exec .startDelimiterAtP2 s)).retLane.isOpen = true := by decide +kernel

/-- R25 of the block's own interface: the front command is taken, and the queue keeps the rest. -/
theorem test_step :
    (after (step { lab with pending := [.pass 1, .run 1] })).pending = [.run 1] ∧
    (after (step { lab with pending := [.pass 1, .run 1] })).opState = .pass ∧
    (after (step lab)).timebase = 1 := by decide +kernel

/-! ## Witnesses: states and operands that meet the hypotheses of the statements -/

theorem meets_ConsequencesComeBeforeTimeAndCommands :
    let s := { lab with timebase := 999990 }
    (s.pending = [] ∧ s.due = []) ∧ (QuietFor 10 s ∧ ¬ QuietFor 11 s ∧ 10 < 30) ∧
    ({ lab with due := [.minute true true] }.pending = [] ∧ { lab with due := [.minute true true] }.due ≠ []) ∧
    takesOutstanding .forcedAdvance = true := by
  unfold QuietFor; decide +kernel

theorem meets_ShortSlotsAreRefused :
    lab.due = [] ∧ 2 < 1 + Request.argLength (.copy 1) ∧
    (1 + Request.argLength .identify ≤ 8 ∧ 8 < Request.okLength .identify) ∧
    (1 + Request.argLength (.exchange 1 1) ≤ 5 ∧ 4 < 1 + Request.argLength (.exchange 1 1)) := by decide +kernel

theorem meets_RequestBytesDecodeToTheRequest :
    requestFits (.tableWrite 1 0 (List.replicate 255 7)) ∧ requestFits (.pointRead (List.replicate 255 0)) ∧
    requestFits .identify ∧ (0x05 : Byte) ∉ requestKinds ∧ ¬ (0x50 : Byte) ∉ requestKinds :=
  ⟨by show _ < 256; decide +kernel, by show _ < 256; decide +kernel, trivial, by decide, by decide⟩

theorem meets_IdentifyAndFaultReadAnswerTheState :
    lab.due = [] ∧ 9 ≤ 9 ∧ (13 ≤ 13 ∧ 63 < (64 : Byte).toNat) ∧ (13 ≤ 13 ∧ (63 : Byte).toNat ≤ 63) := by decide +kernel

theorem meets_PointReadAndSlotStatsAnswerTheState :
    lab.due = [] ∧
    (Carried 2 (.pointRead []) ∧ ([] : List Byte).length = 0) ∧
    (Carried 55 (.pointRead (List.replicate 9 0)) ∧ 8 < (List.replicate 9 (0 : Byte)).length) ∧
    (Carried 7 (.pointRead [255]) ∧ 1 ≤ [(255 : Byte)].length ∧ [(255 : Byte)].length ≤ 8) ∧
    (Carried 49 (.pointRead (List.replicate 8 0)) ∧ (List.replicate 8 (0 : Byte)).length ≤ 8) ∧
    (Carried 3 (.slotStats 48 1) ∧ 47 < (48 : Byte).toNat) ∧ Carried 3 (.slotStats 0 0) ∧
    (Carried 56 (.slotStats 0 9) ∧ 8 < (9 : Byte).toNat) ∧
    (Carried 8 (.slotStats 47 8) ∧ (47 : Byte).toNat ≤ 47 ∧ 1 ≤ (8 : Byte).toNat ∧ (8 : Byte).toNat ≤ 8) ∧
    (Carried 8 (.slotStats 0 1) ∧ 1 ≤ (1 : Byte).toNat) := by decide +kernel

theorem meets_TableReadAndLogReadAnswerTheState :
    let r : LogRecord := { sequence := 76, code := 18, kind := .raised, seconds := 0, timeSet := true, cycle := 255, context := 0 }
    let s := { lab with log := { records := [r], next := 77 } }
    lab.due = [] ∧
    (Carried 8 (.tableRead 9 0 0 1) ∧ 8 < (9 : Byte).toNat) ∧
    (Carried 8 (.tableRead 1 0 16 1) ∧ tableSize 1 ≤ (16 : Word).toNat) ∧
    (Carried 8 (.tableRead 1 2 0 1) ∧ 1 < (2 : Byte).toNat) ∧ Carried 6 (.tableRead 1 0 0 0) ∧
    (Carried 56 (.tableRead 1 0 0 25) ∧ 24 < (25 : Byte).toNat) ∧
    (Carried 54 (.tableRead 1 0 15 24) ∧ (15 : Word).toNat < tableSize 1 ∧ (24 : Byte).toNat ≤ 24 ∧
      lab.banks.active[1]? = some (table plt)) ∧
    (Carried 8 (.tableRead 8 1 28 1) ∧ (28 : Word).toNat < tableSize 8 ∧ 1 ≤ (1 : Byte).toNat ∧
      lab.banks.shadow[8]? = some (TableCopy.reset 29)) ∧
    Carried 5 (.logRead 0 0) ∧ (Carried 61 (.logRead 0 4) ∧ 3 < (4 : Byte).toNat) ∧
    (Carried 19 (.logRead 76 1) ∧ 1 ≤ (1 : Byte).toNat ∧ (1 : Byte).toNat ≤ 3 ∧ lab.log.records = []) ∧
    (Carried 47 (.logRead 76 3) ∧ (3 : Byte).toNat ≤ 3 ∧ s.log.records = r :: []) := by decide +kernel

theorem meets_RunAndPassSetTheOperatingState :
    let p := { lab with opState := .pass }
    lab.due = [] ∧ 1 ≤ 1 ∧ (p.opState = .pass ∧ ∀ c ∈ p.banks.active, c.valid = true) ∧
    (State.reset.opState = .pass ∧ ∃ c ∈ State.reset.banks.active, c.valid = false) ∧ lab.opState = .run ∧
    { lab with opState := .island }.opState = .island := by decide +kernel

theorem meets_SoftResetReturnsEveryBlock :
    let s := { lab with clock := { lab.clock with timeSet := true } }
    (s.due = [] ∧ 1 ≤ 1 ∧ s.clock.timeSet = true) ∧
    (lab.due = [] ∧ lab.clock.timeSet = false ∧
      ∃ u, exec (.softReset 1) { lab with clock := { lab.clock with timeSet := true } } = .next u) ∧
    (after (exec (.softReset 1) lab)).summary.trip = false ∧
    (let f := { lab with banks := { lab.banks with active := lab.banks.active.set 7 (table (fat.set 33 0x040E)) } }
     f.due = [] ∧ f.clock.timeSet = false ∧ (after (exec (.softReset 1) f)).summary.trip = true) :=
  ⟨by decide +kernel, ⟨rfl, rfl, ⟨_, rfl⟩⟩, by decide +kernel, rfl, rfl, by decide +kernel⟩

theorem meets_TableWriteWritesOnePageOfShadow :
    let w : List Word := List.replicate 27 7
    lab.due = [] ∧ Carried 59 (.tableWrite 8 28 w) ∧ (8 : Byte).toNat < 9 ∧ (28 : Word).toNat < tableSize 8 ∧
    1 ≤ w.length ∧ w.length ≤ 27 ∧ lab.locked 8 = false ∧ lab.banks.status = .idle ∧ lab.banks.shadow.length = 9 ∧
    (lab.shadow 8).length = tableSize 8 ∧ (Carried 7 (.tableWrite 0 1327 [7]) ∧ (1327 : Word).toNat < tableSize 0 ∧
      (lab.shadow 0).length = tableSize 0 ∧ lab.locked 0 = false) := by decide +kernel

/-- The part with FAT (id 7) locked. -/
def lockedLab : State := { lab with banks := { lab.banks with locks := lab.banks.locks.set 7 true } }

/-- The part with an exchange of PLT scheduled. -/
def scheduledLab : State := { lab with banks := { lab.banks with
  status := .scheduled 2, lastExchange := some { mask := 2, fromGeneration := 1 } } }

theorem meets_TableWriteAndCopyRefusals :
    (lab.due = [] ∧ lockedLab.due = [] ∧ scheduledLab.due = []) ∧
    (Carried 7 (.tableWrite 9 0 [7]) ∧ 8 < (9 : Byte).toNat) ∧
    (Carried 7 (.tableWrite 1 16 [7]) ∧ tableSize 1 ≤ (16 : Word).toNat) ∧ Carried 5 (.tableWrite 1 0 []) ∧
    (Carried 61 (.tableWrite 1 0 (List.replicate 28 7)) ∧ 27 < (List.replicate 28 (7 : Word)).length) ∧
    (Carried 7 (.tableWrite 7 127 [7]) ∧ (127 : Word).toNat < tableSize 7 ∧ lockedLab.locked 7 = true) ∧
    (scheduledLab.locked 7 = false ∧ scheduledLab.banks.status ≠ .idle) ∧
    (Carried 3 (.copy 512) ∧ (0 : Word).toNat = 0 ∧ 512 ≤ (512 : Word).toNat) ∧
    ((511 : Word).toNat ≠ 0 ∧ (511 : Word).toNat < 512 ∧ ∃ t, t < 9 ∧ bitOf 511 t = true ∧ lockedLab.locked t = true) ∧
    ((1 : Word).toNat ≠ 0 ∧ ∀ t, t < 9 → bitOf 1 t = true → scheduledLab.locked t = false) := by
  decide +kernel

theorem meets_CopyTakesActiveIntoShadow :
    lab.due = [] ∧ Carried 3 (.copy 511) ∧ (511 : Word).toNat ≠ 0 ∧ (511 : Word).toNat < 512 ∧
    (∀ t, t < 9 → bitOf 511 t = true → lab.locked t = false) ∧ lab.banks.status = .idle ∧
    lab.banks.active.length = 9 ∧ lab.banks.shadow.length = 9 := by decide +kernel

/-- The part with the worked PLT and YCF in SHADOW. -/
def stagedLab : State :=
  { lab with banks := { lab.banks with shadow := (lab.banks.shadow.set 1 (table plt)).set 5 (table ycf) } }

theorem meets_ExchangeIsScheduledOrRecognised :
    (Carried 5 (.exchange 2 1) ∧ (2 : Word).toNat ≠ 0 ∧ (2 : Word).toNat < 512) ∧
    (scheduledLab.due = [] ∧ scheduledLab.banks.lastExchange = some { mask := 2, fromGeneration := 1 } ∧
      scheduledLab.banks.status = .scheduled 2) ∧
    (let s := { lab with banks := { lab.banks with generation := 2, lastExchange := some { mask := 2, fromGeneration := 1 } } }
     s.due = [] ∧ s.banks.lastExchange = some { mask := 2, fromGeneration := 1 } ∧ s.banks.generation = 1 + 1) ∧
    (stagedLab.due = [] ∧ stagedLab.banks.lastExchange ≠ some { mask := 0x22, fromGeneration := 1 } ∧
      (∀ t, t < 9 → bitOf 0x22 t = true → stagedLab.locked t = false) ∧ stagedLab.banks.status = .idle ∧
      1 = stagedLab.banks.generation ∧ (bitOf 0x22 5 = true ∧ stagedLab.sequencer.step = 0 ∧
        stagedLab.sequencer.phase = .none) ∧
      ∀ t, t < 9 → bitOf 0x22 t = true → validateTable t (stagedLab.shadow t) = none) := by decide +kernel

theorem meets_ExchangeRefusals :
    (lab.due = [] ∧ Carried 5 (.exchange 511 1)) ∧
    ((0 : Word).toNat = 0 ∧ 512 ≤ (512 : Word).toNat ∧ (511 : Word).toNat ≠ 0 ∧ (511 : Word).toNat < 512) ∧
    (lockedLab.banks.lastExchange = none ∧ ∃ t, t < 9 ∧ bitOf 511 t = true ∧ lockedLab.locked t = true) ∧
    (¬ (scheduledLab.banks.lastExchange = some { mask := 511, fromGeneration := 1 }) ∧
      (∀ t, t < 9 → bitOf 511 t = true → scheduledLab.locked t = false) ∧ scheduledLab.banks.status ≠ .idle) ∧
    (lab.banks.status = .idle ∧ 2 ≠ lab.banks.generation) ∧
    (let s := { lab with sequencer := { lab.sequencer with phase := .waiting } }
     s.banks.status = .idle ∧ bitOf 32 5 = true ∧ s.sequencer.phase ≠ .none ∧ 1 = s.banks.generation) ∧
    (1 = lab.banks.generation ∧ bitOf 2 5 = false ∧ bitOf 2 6 = false ∧ bitOf 2 1 = true ∧
      validateTable 1 (lab.shadow 1) = some 0 ∧ ∀ u, u < 1 → bitOf 2 u = true → validateTable u (lab.shadow u) = none) ∧
    (8 < 9 ∧ validateTable 8 (words itp) = none ∧ validateTable 8 (words (itp.set 7 0xFD08)) = some 7 ∧
      validateTable 7 (words (fat.set 63 0x0418)) = some 63 ∧ validateTable 6 (words yst) = none ∧
      validateTable 6 (words (yst.set 12 0x3502)) = some 12 ∧ validateTable 5 (words ycf) = none ∧
      validateTable 4 (words thm) = none ∧ validateTable 3 (words drtG) = none ∧ validateTable 2 (words drtT) = none ∧
      validateTable 1 (words plt) = none ∧ validateTable 0 (words [0xFE00]) = some 0) := by
  decide +kernel

theorem meets_SwapChangesPlacesOfTheCopies :
    scheduledLab.banks.status = .scheduled 2 ∧ scheduledLab.banks.active.length = 9 ∧
    scheduledLab.banks.shadow.length = 9 ∧ bitOf 2 1 = true ∧ bitOf 2 8 = false ∧
    (let s := withPoint 40 200 .fresh 0 { lab with arbiter := { Arbiter.reset with pumpGrant := 30 } }
     s.arbiter.pumpGrant * 1000 / figure s.plt 13 = 200 ∧ (s.point 40).value ≤ 200 ∧
     (200 : Int) < ((withPoint 40 201 .fresh 0 s).point 40).value) ∧
    (lab.faults.length = 64 ∧ lab.ppr = 7200 ∧ lab.ppr ≠ 3600 ∧ lab.ppr ≠ 0 ∧ lab.tracker.history = [] ∧
      moving.tracker.history ≠ []) ∧
    (let s := { moving with tracker := { moving.tracker with twist := -10000 } }
     s.condition fcTwistLimit = false ∧ s.twistLimit = true ∧ (s.sequencer.phase = .none ↔ s.sequencer.record = none)) ∧
    (let r : FaultRecord := { FaultRecord.reset with condition := true, latch := true }
     let s := { lab with faults := (lab.faults.set 16 { r with condition := false }).set 63 r }
     s.faults.length = 64 ∧ (watchOf s.fat 15).comparison = 0 ∧ (s.fault 63).condition = true ∧
     (s.fault 16).latch = true ∧ s.sequencer.phase = .none ∧ (s.faultEntry 16).latching = false) ∧
    (let s := { moving with
       faults := lab.faults.set 16 { FaultRecord.reset with condition := true, latch := true }
       banks := { lab.banks with active := lab.banks.active.set 7 (table (fat.set 16 0x011A)) } }
     s.summary.yawHold = false ∧ (fatSwap s).summary.yawHold = true ∧
     (s.sequencer.phase = .none ↔ s.sequencer.record = none)) := by decide +kernel

theorem meets_LockAndUnlockSetTheLocks :
    (lab.due = [] ∧ Carried 3 (.lock 511)) ∧ (0 : Word).toNat = 0 ∧ 512 ≤ (512 : Word).toNat ∧
    ((511 : Word).toNat ≠ 0 ∧ (511 : Word).toNat < 512 ∧ lab.banks.locks.length = 9) ∧
    (scheduledLab.banks.status = .scheduled 2 ∧ scheduledLab.banks.locks.length = 9) ∧
    (∀ m, lab.banks.status ≠ .scheduled m) ∧ { lab with strap := .service }.strap = .service ∧ lab.strap = .normal :=
  ⟨by decide +kernel, by decide, by decide, by decide +kernel, by decide +kernel, (fun _ h => nomatch h), rfl, rfl⟩

theorem meets_PointForceAndReleaseSetTheRecord :
    let f := withPoint 255 5 .forced 0 (withPoint 31 5 .forced 0 lab)
    let v := { lab with strap := .service }
    (lab.due = [] ∧ Carried 6 (.pointForce 31 5) ∧ Carried 6 (.pointForce 255 5) ∧ lab.points.length = 256 ∧
      lab.faults.length = 64) ∧
    ((31 : Byte).toNat ≤ 31 ∧ lab.strap = .normal) ∧
    (32 ≤ (32 : Byte).toNat ∧ (63 : Byte).toNat ≤ 63) ∧
    ((31 : Byte).toNat ≤ 31 ∧ v.strap = .service ∧ v.due = [] ∧ v.condition fcPointForced = false) ∧ 64 ≤ (64 : Byte).toNat ∧
    (f.due = [] ∧ Carried 2 (.pointRelease 31) ∧ f.points.length = 256 ∧ f.faults.length = 64 ∧
      (f.point 30).quality ≠ .forced ∧ (f.point 31).quality = .forced ∧ (f.point 255).quality = .forced) ∧
    (let l := { f with banks := { lab.banks with active := lab.banks.active.set 0 (table (List.replicate 1200 0 ++ List.replicate 16 0x0505)) } }
     let t := after (exec (.pointRelease 2 31) l)
     l.condition fcStaleInput = false ∧ (t.point 31).quality = .stale ∧ stalenessLimit l.smt 31 ≠ 255 ∧
     ∀ j, j < 31 → ¬ ((t.point j).quality = .stale ∧ stalenessLimit l.smt j ≠ 255)) := by
  decide +kernel

/-- The part with the summary formed over the given fault records. -/
def withFaults (l : List FaultRecord) : State :=
  { lab with faults := l, summary := State.formSummary { lab with faults := l } }

theorem meets_FaultClearActsByTheRecord :
    let r := FaultRecord.reset
    let s := withFaults (((lab.faults.set 16 { r with condition := true, latch := true }).set 17
      { r with condition := true, latch := true, reasserted := true }).set 63 { r with latch := true, pending := true })
    (s.due = [] ∧ Carried 2 (.faultClear 64) ∧ 63 < (64 : Byte).toNat) ∧
    (Carried 2 (.faultClear 63) ∧ (63 : Byte).toNat ≤ 63 ∧ s.faults.length = 64 ∧ s.summary = s.formSummary ∧
      s.log.records.length < 64) ∧
    ((s.fault 0).condition = false ∧ (s.fault 0).latch = false ∧ (s.fault 0).pending = false) ∧
    ((s.fault 17).condition = true ∧ (s.fault 17).reasserted = true) ∧
    ((s.fault 63).condition = false ∧ (s.fault 63).latch = true) ∧
    ((s.fault 16).condition = true ∧ (s.fault 16).reasserted = false) ∧
    (let f := { s with log := fullLog 200 }
     f.summary = f.formSummary ∧ (16 : Byte).toNat ≠ 31 ∧ (16 : Byte).toNat ≠ 34 ∧ f.sequencer.phase = .none ∧
     Loggable f 16 ∧ Loggable f fcLogOverwrite ∧ f.log.records.tail.length = 63) := by
  unfold Loggable; decide +kernel

theorem meets_FaultClearAllClearsEveryCode :
    let r := FaultRecord.reset
    let s := withFaults ((lab.faults.set 16 { r with condition := true, latch := true }).set 17
      { r with condition := true, latch := true, reasserted := true })
    s.due = [] ∧ Carried 1 .faultClearAll ∧ s.faults.length = 64 ∧ (s.fault 63).condition = false ∧
    s.summary = s.formSummary ∧ s.log.records.length + 64 ≤ 64 ∧
    ((s.fault 17).condition = true ∧ (s.fault 17).reasserted = true) ∧
    ((s.fault 16).condition = true ∧ (s.fault 16).reasserted = false) := by decide +kernel

theorem meets_LogDiscardRemovesThroughTheSequence :
    let r (q : Word) : LogRecord :=
      { sequence := q, code := 18, kind := .raised, seconds := 0, timeSet := true, cycle := 255, context := 0 }
    let s := { lab with log := { records := [r 65535, r 0], next := 1 } }
    (s.due = [] ∧ Carried 4 (.logDiscard 0) ∧ LogLaw s) ∧
    (s.log.records = r 65535 :: [r 0] ∧ s.log.records = [r 65535] ++ r 0 :: [] ∧ (r 0).sequence = 0) ∧
    (∀ x ∈ s.log.records, x.sequence ≠ 1) :=
  ⟨⟨rfl, by decide +kernel, by unfold LogLaw; decide +kernel⟩, by decide +kernel, by decide +kernel⟩

theorem meets_SetTimeSetsTheClock :
    (lab.due = [] ∧ Carried 5 (.setTime 0xFFFFFFFF) ∧ lab.condition fcTimeNotSet = false) ∧
    State.reset.due = [] ∧ State.reset.condition fcTimeNotSet = true := by decide +kernel

/-- The part with heading and twist ready, in mode MANUAL, at heading 617.0° (count 1234) and twist 0. -/
def manual : State :=
  { lab with
    tracker := { lab.tracker with heading := 1234, quality := .referenced, twistSet := true }
    decision := { lab.decision with mode := .manual } }

theorem meets_SetHeadingAndTwistSetTheTracker :
    let f := { lab with tracker := { lab.tracker with forcedRun := 3 } }
    (lab.due = [] ∧ Carried 3 (.setHeading 7200) ∧ lab.ppr ≤ (7200 : Word).toNat) ∧
    ((7199 : Word).toNat < moving.ppr ∧ moving.sequencer.step ≠ 0 ∧ moving.due = []) ∧
    ((7199 : Word).toNat < lab.ppr ∧ lab.sequencer.step = 0 ∧ 1 ≤ lab.forcedLimit ∧ lab.tracker.forcedRun = 0) ∧
    (f.due = [] ∧ f.sequencer.step = 0 ∧ 1 ≤ f.forcedLimit ∧ f.tracker.forcedRun ≠ 0) ∧
    (Carried 5 (.setTwist 0x80000000) ∧ lab.faults.length = 64 ∧ (0x80000000 : Long).toInt = -2147483648) ∧
    (Carried 5 (.setTwist 0x80000001) ∧ (0x80000001 : Long).toInt ≠ -2147483648 ∧ moving.faults.length = 64) ∧
    ((0x7FFFFFFF : Long).toInt ≠ -2147483648 ∧ lab.sequencer.step = 0 ∧ lab.ppr ≠ 0) := by decide +kernel

theorem meets_YawModeSetsTheModeAndStops :
    let storm := { lab with decision := { lab.decision with mode := .storm } }
    (lab.due = [] ∧ Carried 2 (.yawMode 2)) ∧ ((2 : Byte) ≠ 0 ∧ (2 : Byte) ≠ 1 ∧ (2 : Byte) ≠ 4) ∧
    lab.decision.mode = .hold ∧ storm.decision.mode = .storm ∧
    (manual.due = [] ∧ manual.decision.mode ≠ .auto ∧ manual.decision.mode ≠ .storm ∧
      manual.condition fcTwistLimit = (manual.tracker.twistSet && decide (manual.twistHard ≤ (manual.tracker.twist.natAbs : Int))) ∧
      manual.sequencer.phase = .none) ∧
    (let b := { manual with decision := { manual.decision with blocked := true } }
     b.decision.blocked = true ∧
     b.condition fcTwistWarn = (b.tracker.twistSet && decide (b.unwindStart ≤ (b.tracker.twist.natAbs : Int)))) ∧
    (let s := { moving with sequencer := { moving.sequencer with step := 6 } }
     s.sequencer.phase = .running ∧ (yawStep s.yst s.sequencer.step).stop = true) ∧
    (moving.due = [] ∧ moving.decision.mode ≠ .auto ∧
      moving.condition fcTwistLimit = (moving.tracker.twistSet && decide (moving.twistHard ≤ (moving.tracker.twist.natAbs : Int))) ∧
      moving.sequencer.phase = .running ∧ (yawStep moving.yst moving.sequencer.step).stop = false) ∧
    { moving with sequencer := { moving.sequencer with step := 0, phase := .waiting } }.sequencer.phase = .waiting := by
  decide +kernel

theorem meets_YawTargetJudgesInOrder :
    let t : ManualTarget := { heading := 3599, choice := .short }
    let held := { manual with
      sequencer := moving.sequencer, decision := { manual.decision with lastTarget := some t } }
    (lab.due = [] ∧ Carried 4 (.yawTarget 3600 3) ∧ 3599 < (3600 : Word).toNat ∧ 2 < (3 : Byte).toNat) ∧
    ((3599 : Word).toNat ≤ 3599 ∧ held.due = [] ∧ held.decision.mode = .manual ∧
      held.sequencer.record.isSome = true ∧ held.decision.lastTarget = some t) ∧
    (lab.decision.mode ≠ .manual ∧
      held.decision.lastTarget ≠ some { heading := 3598, choice := .short } ∧
      { manual with summary := { manual.summary with yawHold := true } }.summary.yawHold = true) ∧
    (manual.due = [] ∧ manual.decision.mode = .manual ∧ manual.sequencer.record = none ∧ manual.summary.yawHold = false ∧
      manual.yawExchangePending = false) ∧
    { manual with banks := { manual.banks with status := .scheduled 32 } }.yawExchangePending = true ∧
    { manual with tracker := lab.tracker }.tracker.quality = .unreferenced ∧
    (manual.tracker.quality ≠ .unreferenced ∧ manual.tracker.twistSet = true ∧ manual.ppr ≠ 0 ∧
      (((manual.ppr : Int) ∣ 10 - (((622 * manual.ppr / 3600 : Nat) : Int) - manual.tracker.heading)) ∧ 0 ≤ (10 : Int) ∧
        (10 : Int) < manual.ppr) ∧ ((10 : Int).natAbs : Int) ≤ ((manual.stopBand * manual.ppr / 3600 : Nat) : Int)) := by
  decide +kernel

/-- The target 622 clockwise is the count 10, the target 700 by the shorter way 166. -/
theorem meets_IsTargetCount : IsTargetCount manual 622 .cw 10 ∧ IsTargetCount manual 700 .short 166 := by
  refine ⟨⟨?_, ?_⟩, ⟨?_, ?_⟩⟩ <;> decide +kernel

theorem meets_YawTargetPlansTheMove :
    (manual.due = [] ∧ Carried 4 (.yawTarget 700 2) ∧ (700 : Word).toNat ≤ 3599 ∧ manual.decision.mode = .manual ∧
      manual.sequencer.record = none ∧ manual.sequencer.phase = .none ∧ manual.summary.yawHold = false ∧
      manual.yawExchangePending = false ∧ manual.tracker.quality ≠ .unreferenced ∧ manual.tracker.twistSet = true ∧
      manual.ppr ≠ 0 ∧
      manual.condition fcTwistLimit = decide (manual.twistHard ≤ (manual.tracker.twist.natAbs : Int)) ∧
      ((manual.stopBand * manual.ppr / 3600 : Nat) : Int) < ((166 : Int).natAbs : Int)) ∧
    ((manual.tracker.twist + 166).natAbs : Int) < manual.twistHard ∧
    (let s := { manual with tracker := { manual.tracker with twist := 9834 } }
     s.condition fcTwistLimit = decide (s.twistHard ≤ (s.tracker.twist.natAbs : Int)) ∧
     s.twistHard ≤ ((s.tracker.twist + 166).natAbs : Int) ∧
     ((s.tracker.twist + (166 - (s.ppr : Int))).natAbs : Int) < s.twistHard) ∧
    (let c := { lab with banks := { lab.banks with active := lab.banks.active.set 5 (table (ycf.set 13 6600)) } }
     let s := { manual with banks := c.banks, tracker := { manual.tracker with twist := 6500 } }
     s.condition fcTwistLimit = decide (s.twistHard ≤ (s.tracker.twist.natAbs : Int)) ∧
     s.twistHard ≤ ((s.tracker.twist + 166).natAbs : Int)) ∧
    (let b := { manual with decision := { manual.decision with blocked := true } }
     b.condition fcTwistWarn = decide (b.unwindStart ≤ (b.tracker.twist.natAbs : Int))) := by
  decide +kernel

/-- The part in AUTO, ready, with the wind known, the storm counts at the dwell and one start dwell to go. -/
def windy (m : YawMode) (wind : Int) (twist : Int) : State :=
  withPoint 5 wind .fresh 0 { manual with
    tracker := { manual.tracker with twist := twist }
    decision := { manual.decision with
      mode := m, wind := some wind, stormEnter := 65535, stormExit := 65535, startDwell := 2, misalignment := 100 } }

/-- Witnesses for the decision update of the same statement, its mode changes and its planning. -/
theorem meets_YawTargetPlansTheMove_update :
    (let f := withPoint 5 30 .forced 0 (windy .auto 30 0)
     5 ∉ [4] ∧ (f.point 5).quality = .forced ∧ 4 ∈ [4] ∧ -1800 ≤ (-1800 : Int) ∧ (1799 : Int) ≤ 1799 ∧
     (3600 : Int) ∣ -1800 - (1800 - 0) ∧ (3600 : Int) ∣ 1799 - (1799 - 0)) ∧
    (let a := windy .auto 2500 0
     a.decision.mode = .auto ∧ a.stormEnterSpeed ≤ 2500 ∧ 2500 = (a.point 5).value ∧ a.stormDwell ≤ a.decision.stormEnter ∧
     a.faults.length = 64 ∧ a.condition fcStormMode = false) ∧
    (let a := windy .auto 30 6000
     a.sequencer.phase = .none ∧ a.tracker.twistSet = true ∧ a.unwindStart ≤ (a.tracker.twist.natAbs : Int) ∧
     a.decision.wind = some 30 ∧ (30 : Int) < a.unwindWindMax ∧ ¬ a.stormEnterSpeed ≤ (a.point 5).value) ∧
    (let m := windy .storm 30 0
     m.decision.mode = .storm ∧ (m.point 5).value < m.stormExitSpeed ∧ m.stormDwell ≤ m.decision.stormExit) ∧
    ((windy .unwind 30 3000).sequencer.phase = .none ∧ (3000 : Int) ≤ (windy .unwind 30 3000).unwindEnd ∧
      ¬ (3001 : Int) ≤ (windy .unwind 30 3001).unwindEnd ∧ manual.decision.mode ∉ [.auto, .storm, .unwind]) ∧
    (let a := windy .auto 30 0
     a.sequencer.record = none ∧ a.decision.rest = none ∧ a.startThreshold ≤ (a.decision.misalignment.natAbs : Int) ∧
     a.startDwellLimit ≤ min 65535 (a.decision.startDwell + 1) ∧ ¬ a.startDwellLimit ≤ min 65535 (1 + 1) ∧
     (49 : Int) < a.startThreshold) ∧
    (let a := windy .auto 30 9999
     a.sequencer.phase = .none ∧ a.summary.yawHold = false ∧ a.yawExchangePending = false ∧
     a.tracker.quality ≠ .unreferenced ∧ a.tracker.twistSet = true ∧
     a.condition fcTwistLimit = decide (a.twistHard ≤ (a.tracker.twist.natAbs : Int)) ∧
     (((a.tracker.twist + 0).natAbs : Int) < a.twistHard) ∧ a.twistHard ≤ ((a.tracker.twist + 1).natAbs : Int) ∧
     ((a.tracker.twist + (1 - (a.ppr : Int))).natAbs : Int) < a.twistHard) ∧
    (let a := { windy .auto 30 6500 with
       banks := { lab.banks with active := lab.banks.active.set 5 (table (ycf.set 13 6600)) } }
     a.twistHard ≤ ((a.tracker.twist + 7300).natAbs : Int) ∧
     a.twistHard ≤ ((a.tracker.twist + (7300 - (a.ppr : Int))).natAbs : Int)) := by
  decide +kernel

theorem meets_YawSeekPlansOneTurn :
    (lab.due = [] ∧ Carried 1 .yawSeek) ∧
    { lab with decision := { lab.decision with mode := .seek } }.decision.mode = .seek ∧
    (moving.due = [] ∧ moving.decision.mode ≠ .seek ∧ moving.sequencer.record.isSome = true) ∧
    (lab.decision.mode ≠ .seek ∧ lab.sequencer.record = none ∧ lab.summary.yawHold = false ∧
      { lab with banks := { lab.banks with status := .scheduled 64 } }.yawExchangePending = true ∧
      lab.yawExchangePending = false ∧ lab.tracker.twistSet = false) ∧
    (manual.due = [] ∧ manual.decision.mode ≠ .storm ∧ manual.sequencer.phase = .none ∧
      manual.condition fcTwistLimit = decide (manual.twistHard ≤ (manual.tracker.twist.natAbs : Int)) ∧
      (7920 : Int) = ((manual.ppr * 11 / 10 : Nat) : Int) ∧
      ((manual.tracker.twist + 7920).natAbs : Int) < manual.twistHard) ∧
    (let b := { manual with decision := { manual.decision with blocked := true } }
     b.condition fcTwistWarn = decide (b.unwindStart ≤ (b.tracker.twist.natAbs : Int))) ∧
    (let s := { manual with tracker := { manual.tracker with twist := 2080 } }
     s.condition fcTwistLimit = decide (s.twistHard ≤ (s.tracker.twist.natAbs : Int)) ∧
     s.twistHard ≤ ((s.tracker.twist + 7920).natAbs : Int) ∧ ((s.tracker.twist - 7920).natAbs : Int) < s.twistHard) ∧
    (let s := { manual with banks := { lab.banks with active := lab.banks.active.set 5 (table (ycf.set 13 7920)) } }
     s.condition fcTwistLimit = decide (s.twistHard ≤ (s.tracker.twist.natAbs : Int)) ∧
     s.twistHard ≤ ((s.tracker.twist + 7920).natAbs : Int) ∧ s.twistHard ≤ ((s.tracker.twist - 7920).natAbs : Int)) := by
  decide +kernel

theorem meets_ArmSupervisionCapturesTheLimit :
    (lab.due = [] ∧ Carried 5 .armSupervision ∧ lab.supervision.armed = false ∧ lab.opState ≠ .pass) ∧
    (State.reset.due = [] ∧ State.reset.supervision.armed = false ∧ State.reset.opState = .pass) ∧
    { lab with supervision := { lab.supervision with armed := true } }.supervision.armed = true := by decide +kernel

/-- The part with the frame at P0 standing so. -/
def atP0 (m : RxMode) : State := { lab with rx0 := { line := .up, mode := m, seen := [] } }

/-- The part with the frame at P2 standing so. -/
def atP2 (m : RxMode) : State := { lab with rx2 := { line := .up, mode := m, seen := [] } }

theorem meets_LineLockSetsTheLineAndTruncates :
    (atP0 .none).due = [] ∧ (atP0 .none).rx0.mode = .none ∧ (atP0 .discarding).rx0.mode = .discarding ∧
    (atP0 .passing).rx0.mode = .passing ∧ ((atP0 .buffering).rx0.mode = .buffering ∧ (atP0 .buffering).hold.leaving = false) ∧
    (atP0 .dropping).rx0.mode = .dropping ∧ (atP2 .none).rx2.mode ≠ .passing ∧ (atP2 .passing).rx2.mode = .passing ∧
    (let d (n : Nat) := { atP0 .dropping with rx0 := { line := .up, mode := .dropping, seen := List.replicate n 0x85 } }
     (d 1).rx0.mode = .dropping ∧ 0 = (if 2 ≤ (d 1).rx0.seen.length then ((d 1).rx0.seen.getD 1 0).toNat % 128 else 0) ∧
     5 = (if 2 ≤ (d 2).rx0.seen.length then ((d 2).rx0.seen.getD 1 0).toNat % 128 else 0)) ∧
    (let l := { atP0 .buffering with hold := { lab.hold with occupied := true, leaving := true } }
     let w := { l with supervision := { lab.supervision with waiting := true } }
     (l.due = [] ∧ l.rx0.mode = .buffering ∧ l.hold.leaving = true ∧ l.outLane.isOpen = false ∧
       l.p1.busy = false ∧ l.supervision.waiting = false) ∧
     { l.outLane.opened .holdBuffer with cycle := 0 }.source = .holdBuffer ∧ (l.outLane.opened .holdBuffer).isOpen = true ∧
     { l.p1 with busy := true }.busy = true ∧ (w.supervision.waiting = true ∧ w.opState ≠ .island) ∧
     { w with opState := .island }.opState = .island) := by
  decide +kernel

/-- A slot map with one entry, for tag 0x21 on the out lane, at position 3. -/
def oneEntry : List Word := (List.replicate 1328 0).set 75 0x2100

/-- What `BringsDue` speaks of, clause by clause: a header byte; a slot that would pass the total, and one that just does
not; report, service, unmapped and mapped slots, with an entry and with none; the last payload byte and one before it. -/
theorem meets_BringsDue :
    let e (p : Parse) (n : Nat) := { Engine.reset with
      isOpen := true, parse := p, ordinal := 1, active := true
      recv := [0x5A, 7, 1, 0, 67] ++ List.replicate n 0x21 }
    (e .header 0).parse = .header ∧ ({ e .header 0 with recv := [0x5A, 7, 1, 0] ++ [67] }).recv.length = 5 ∧
    ((e (.length 0x21) 2).parse = .length 0x21 ∧ (e (.length 0x21) 2).total = 67 ∧
      (e (.length 0x21) 2).total < (e (.length 0x21) 2).recv.length + (61 : Byte).toNat ∧
      (e (.length 0x21) 2).recv.length + (60 : Byte).toNat ≤ (e (.length 0x21) 2).total ∧ (60 : Byte).toNat ≤ 60) ∧
    (∀ t ∈ ([0xFD, 0xFE, 0x00, 0xFF] : List Byte), (e (.length t) 2).parse = .length t ∧ (e (.length t) 2).report = none ∧
      (e (.length t) 2).ordinal = (e (.length t) 2).slotCount) ∧
    ((0x21 : Byte) ∉ ([0x00, 0xFD, 0xFE, 0xFF] : List Byte) ∧ (e (.length 0x21) 2).active = true ∧
      60 < (61 : Byte).toNat ∧ { e (.length 0x21) 2 with active := false }.active = false) ∧
    (IsEntryFor oneEntry .out 0x21 (some 3) ∧ IsEntryFor oneEntry .ret 0x21 none) ∧
    ((e (.payload 0x21 60 1) 9).parse = .payload 0x21 60 1 ∧ (e (.payload 0x21 60 2) 9).parse = .payload 0x21 60 2) ∧
    ((e .tag 9).parse = .tag ∧ (e .check 9).parse = .check ∧ (e .lost 9).parse = .lost) := by
  refine ⟨rfl, rfl, by decide +kernel, by decide +kernel, by decide +kernel, ⟨⟨?_, ?_⟩, ⟨?_, ?_⟩⟩, ⟨rfl, rfl⟩,
    ⟨rfl, rfl, rfl⟩⟩
  · intro h; cases h
  · intro p h; cases h; decide +kernel
  · intro _; decide +kernel
  · intro p h; cases h

theorem meets_StartDelimiterIsArbitratedOrDropped :
    let held := { lab.hold with occupied := true }
    (lab.due = [] ∧ lab.rx0.line = .down ∧ lab.rx2.line = .down) ∧
    ((atP0 .none).rx0.line = .up ∧ (atP0 .none).rx0.mode = .none ∧ { atP0 .none with hold := held }.hold.occupied = true) ∧
    ((atP0 .discarding).rx0.mode = .discarding ∧ (atP0 .discarding).hold.occupied = false ∧
      { atP0 .discarding with p1 := { lab.p1 with busy := true } }.p1.busy = true ∧ (atP0 .discarding).p1.busy = false) ∧
    ((atP0 .passing).due = [] ∧ (atP0 .passing).rx0.line = .up ∧ (atP0 .passing).rx0.mode = .passing) ∧
    (let s := { atP0 .buffering with hold := held }
     s.rx0.line = .up ∧ s.rx0.mode = .buffering ∧ s.hold.occupied = true ∧ s.hold.leaving = false) ∧
    ((atP2 .discarding).rx2.line = .up ∧ (atP2 .discarding).rx2.mode ≠ .passing ∧ (atP2 .passing).rx2.mode = .passing) ∧
    (lab.rx0.mode ≠ .dropping ∧ (atP0 .dropping).due = [] ∧ (atP0 .dropping).rx0.mode = .dropping) := by decide +kernel

theorem meets_IdleP1TakesItsNextFrame :
    let p := { lab with p1 := { busy := true, bytes := [], ended := true } }
    let w := { p with supervision := { p.supervision with waiting := true } }
    (lab.due = [] ∧ lab.p1.busy = false ∧ lab.p1.ended = false) ∧
    (p.due = [] ∧ p.p1.busy = true ∧ p.p1.ended = true ∧ p.hold.occupied = false ∧ p.supervision.waiting = false) ∧
    (let s := { p with hold := { p.hold with occupied := true } }
     s.hold.occupied = true ∧ s.hold.leaving = false) ∧
    { p with hold := { p.hold with occupied := true, leaving := true } }.hold.leaving = true ∧
    (w.hold.occupied = false ∧ w.supervision.waiting = true ∧ w.opState ≠ .island) ∧
    { w with opState := .island }.opState = .island := by decide +kernel

/-- A lane engine with a frame of so many bytes received from the source. -/
def engineAt (source : OutSource) (n : Nat) : Engine :=
  { Engine.reset with isOpen := true, source := source, recv := List.replicate n 0x5A }

theorem meets_OutLaneByteIsHeldBackAndForwarded :
    let s := { atP0 .passing with outLane := engineAt .p0 1024 }
    let h := { lab with hold := { lab.hold with occupied := true, leaving := true, bytes := [7, 8] }
                        outLane := engineAt .holdBuffer 1023 }
    let i := { lab with islandBytes := [9], outLane := engineAt .island 4 }
    (s.due = [] ∧ s.rx0.mode = .passing ∧ 1024 ≤ s.outLane.recv.length) ∧
    (h.due = [] ∧ h.outLane.isOpen = true ∧ h.outLane.source = .holdBuffer ∧ h.hold.bytes = 7 :: [8] ∧
      h.outLane.recv.length < 1024) ∧
    (i.due = [] ∧ i.outLane.isOpen = true ∧ i.outLane.source = .island ∧ i.islandBytes = 9 :: [] ∧
      i.outLane.recv.length < 1024 ∧ i.outLane.recv.length = 4 ∧ i.outLane.parse = .header) ∧
    (List.replicate 1024 (0x5A : Byte)).length ≤ 1024 ∧
    (FrameFits 0x5A (List.replicate 40 (0xFE, [])) ∧ FrameFits 0xA5 [(0x21, List.replicate 255 0), (0xFE, [1])] ∧
      FrameFits 0x5A ((1, List.replicate 244 0) :: List.replicate 3 (0xFE, List.replicate 255 0)) ∧
      5 + (((1, List.replicate 244 0) :: List.replicate 3 (0xFE, List.replicate 255 0)).map
        (fun x : Byte × List Byte => 2 + x.2.length)).sum = 1022) := by
  unfold FrameFits; decide +kernel

theorem meets_OtherBytesGoToP3OrTheBufferOrNowhere :
    (lab.due = [] ∧ lab.rx2.mode ≠ .passing ∧ lab.rx0.mode = .none ∧ (atP0 .discarding).rx0.mode = .discarding) ∧
    ({ atP2 .passing with retLane := engineAt .p0 1024 }.rx2.mode = .passing ∧
      1024 ≤ { atP2 .passing with retLane := engineAt .p0 1024 }.retLane.recv.length) ∧
    { atP2 .passing with retLane := engineAt .p0 1023 }.retLane.recv.length < 1024 ∧
    ((atP2 .passing).retLane.kind ≠ kindIsland ∧
      { atP2 .passing with retLane := { engineAt .p0 3 with recv := [0xA5] } }.retLane.kind = kindIsland) ∧
    (atP0 .dropping).rx0.mode = .dropping ∧
    ((atP0 .buffering).rx0.mode = .buffering ∧ { lab.hold with stored := 1023 }.stored < 1024 ∧
      1024 ≤ { lab.hold with stored := 1024 }.stored) := by
  refine ⟨by decide +kernel, ⟨rfl, by decide +kernel⟩, by decide +kernel, by decide +kernel, rfl, by decide +kernel⟩

theorem meets_OutFrameStartAgesAndBinds :
    keptBinding [flown 1 1 1] (.record 1) = .removed (flown 1 1 1) ∧ keptBinding [flown 1 1 1] (.record 2) = .record 2 ∧
    let s := startOf 0x8C .out { lab with flight := [flown 1 1 1, flown 2 2 1, flown 3 3 1, flown 4 4 1], nextFlight := 5 }
    s.due = [.frameStart .out] ∧ s.points.length = 256 ∧ 12 = (s.outLane.byteAt 1).toNat % 128 ∧
    (s.outLane.byteAt 1).getLsbD 7 = true ∧ s.faults.length = 64 ∧ 4 ≤ s.flight.length ∧ s.banks.status = .idle := by
  decide +kernel

theorem meets_ReturnFrameStartFindsItsRecord :
    let s := startOf 40 .ret { lab with flight := [flown 3 39 7, flown 4 40 7] }
    let c := startOf 41 .ret { lab with flight := [flown 3 39 7], carrier := some (41, [0]) }
    (s.due = [.frameStart .ret] ∧ 40 = (s.retLane.byteAt 1).toNat % 128 ∧ s.flight = [flown 3 39 7] ++ flown 4 40 7 :: [] ∧
      (flown 4 40 7).cycle = 40 ∧ (flown 4 40 7).origin = (if s.retLane.kind = kindIsland then .island else .master) ∧
      ∀ x ∈ [flown 3 39 7], ¬ (x.cycle = 40 ∧ x.origin = (if s.retLane.kind = kindIsland then .island else .master))) ∧
    (c.due = [.frameStart .ret] ∧
      (∀ x ∈ c.flight, ¬ (x.cycle = 41 ∧ x.origin = (if c.retLane.kind = kindIsland then .island else .master))) ∧
      c.carrier = some (41, [0])) ∧
    ∀ response, { c with carrier := some (42, [0]) }.carrier ≠ some (41, response) := by
  refine ⟨by decide +kernel, by decide +kernel, ?_⟩
  intro response h
  simp at h

theorem meets_SlotEntryRewritesOnlyItsPayload :
    let e := { Engine.reset with isOpen := true, entry := some 47, buffered := 2, held := [5, 6] }
    let s (l : Lane) := { lab with due := [.slotApply l], outLane := e, retLane := e }
    ((s .out).due = [.slotApply .out] ∧ (s .out).outLane.entry = some 47 ∧
      0 = e.held.length - e.buffered ∧
      (applyEntry .out 47 (slotEntry ((s .out).boundSmt 0) 47) [5, 6] lab).1 = [5, 6]) ∧
    ((s .ret).due = [.slotApply .ret] ∧ (s .ret).retLane.entry = some 47 ∧ (s .ret).retLane.kind ≠ kindIsland) ∧
    ({ e with recv := [0xA5] }.kind = kindIsland ∧ Engine.reset.entry = none) ∧
    ((slotEntry slotMap 1).actions[0]? = some (fieldAction slotMap 1 0) ∧ (slotEntry slotMap 1).actions[2]? = none) ∧
    (lab.banks.lastExchange = none ∧ lab.banks.generation = 1 ∧ (0 : Word) + 1 = 1 ∧ bitOf 0x1FF 0 = true) := by
  decide +kernel

/-- A field action at the last byte of a slot of two. -/
def actionOf (kind : Nat) : FieldAction :=
  { displacement := 1, width := 1, signed := false, kind := kind, noPointA := false, noPointB := false, pointA := 32,
    pointB := 45, tolerance := 3 }

theorem meets_FieldActionsReadAndWriteTheirField :
    let p : List Byte := [0, 200]
    let s := withPoint 32 10 .fresh 0 (withPoint 45 20 .fresh 0 lab)
    ([0x05] : List Byte).length < (actionOf 0).displacement + (actionOf 0).width ∧
    (∀ k, (actionOf k).width = 1 ∧ (actionOf k).displacement + (actionOf k).width ≤ p.length ∧ (actionOf k).kind = k) ∧
    ((lab.point 32).live = false ∧ (s.point 32).live = true ∧ (s.point 45).live = true) ∧
    ((s.point 32).quality ≠ .empty ∧ (actionOf 3).tolerance < ((actionOf 3).read p - (s.point 32).value).natAbs) :=
  ⟨by decide, fun _ => ⟨rfl, Nat.le_refl 2, rfl⟩, by decide +kernel, by decide +kernel⟩

theorem meets_ReportAndResponseAreWrittenOver :
    let s := { lab with due := [.reportTaken], retLane := { Engine.reset with parse := .payload 0xFD 8 8 } }
    let w (b : Binding) := { lab with
      due := [.serviceWrite], flight := [flown 3 40 7]
      retLane := { Engine.reset with binding := b, parse := .payload 0xFE 4 4 } }
    let x := { flown 3 40 7 with outcome := .bad }
    let y := { flown 3 40 7 with response := some [0] }
    (s.due = [.reportTaken] ∧ s.retLane.report = none ∧ 8 ≤ s.retLane.slotLength ∧
      fittingBytes reportSizes s.retLane.slotLength ≤ s.retLane.slotLength) ∧
    ((w .unbound).due = [.serviceWrite] ∧ (w .unbound).retLane.binding = .unbound ∧
      (w (.carrier [0])).retLane.binding = .carrier [0]) ∧
    ({ w (.record 3) with flight := [x] }.flight = [] ++ x :: [] ∧ (w (.record 3)).retLane.binding = .record x.id ∧
      x.outcome = .bad ∧ y.outcome = .good ∧ y.response = some [0]) ∧
    ((w (.record 3)).flight = [] ++ flown 3 40 7 :: [] ∧ (flown 3 40 7).outcome = .good ∧ (flown 3 40 7).response = none) ∧
    (w (.removed y)).retLane.binding = .removed y ∧ (∀ k, some 63 = some k → k < 64) ∧
    (let p := { lab with faults := lab.faults.set 63 { FaultRecord.reset with pending := true } }
     p.chooseSpotlight = some 63 ∧ lab.chooseSpotlight = none) := by
  refine ⟨by decide +kernel, by decide +kernel, by decide +kernel, by decide +kernel, rfl, ?_, by decide +kernel⟩
  intro k h; cases h; decide

theorem meets_OverlengthFrameIsCutAndBad :
    let s (l : Lane) (o : OutSource) := { lab with due := [.overlengthCut l], outLane := engineAt o 1024 }
    ((s .out .p0).due = [.overlengthCut .out] ∧ (s .out .p0).outLane.source = .p0) ∧
    ((s .out .holdBuffer).outLane.source = .holdBuffer ∧ (s .out .holdBuffer).hold.ended = none ∧
      { s .out .holdBuffer with hold := { lab.hold with ended := some true } }.hold.ended ≠ none) ∧
    (s .ret .p0).due = [.overlengthCut .ret] := by decide +kernel

theorem meets_OutFrameEndCommitsOrDiscards :
    let s := wholeFrame lab
    let b := { s with outLane := { s.outLane with recv := s.outLane.recv.set 6 1 } }
    let h := { s with outLane := { s.outLane with source := .holdBuffer }, hold := { lab.hold with ended := some true } }
    let i := { s with outLane := { s.outLane with source := .island }, opState := .island }
    let v : List (Nat × Int) := [(5, 1), (255, 2)]
    (s.due = [] ∧ OutEnds .p0 false s ∧ s.outLane.sound = true ∧ s.outLane.kind = kindCycle ∧
      s.outLane.staging.request = none ∧
      { s.outLane with staging := { Staging.empty with request := some [1] } }.staging.request = some [1]) ∧
    (OutEnds .p0 false b ∧ b.outLane.sound = false) ∧ OutEnds .holdBuffer true h ∧ OutEnds .island false i ∧
    (lab.rx0.mode = .none ∧ (atP0 .discarding).rx0.mode = .discarding ∧ (atP0 .buffering).rx0.mode = .buffering ∧
      (atP0 .buffering).hold.leaving = false ∧ s.faults.length = 64 ∧ s.outLane.active = true ∧ s.opState ≠ .pass ∧
      s.points.length = 256 ∧ (∀ x ∈ [({ code := 47, context := 33 } : StagedFault)], levelCode x.code = false)) ∧
    ((v.map Prod.fst).Nodup ∧ (255, (2 : Int)) ∈ v ∧ 255 < lab.points.length ∧
      (lab.points.getD 255 .reset).quality ≠ .forced ∧ 6 ∉ v.map Prod.fst ∧
      ((withPoint 5 0 .forced 0 lab).points.getD 5 .reset).quality = .forced) := by
  refine ⟨⟨rfl, ⟨rfl, rfl⟩, ?_⟩, ⟨⟨rfl, rfl⟩, ?_⟩, ⟨rfl, rfl, rfl, rfl, rfl⟩, ⟨rfl, rfl, rfl, rfl⟩, ?_, ?_⟩ <;>
    decide +kernel

theorem meets_ReturnFrameEndCommitsAndUpdates :
    let s := wholeFrame lab
    (lab.due = [] ∧ lab.rx2.mode ≠ .passing) ∧
    (s.due = [] ∧ s.rx2.mode = .passing ∧ s.retLane.sound = true ∧ s.retLane.active = true ∧ s.opState ≠ .pass ∧
      s.points.length = 256 ∧ s.faults.length = 64 ∧ s.retLane.voided = false ∧ s.ppr ≠ 0) ∧
    { s.retLane with voided := true }.voided = true ∧
    (([] : List Block).Nodup ∧ [Block.watches, .tracker].Nodup) ∧
    { s.retLane with recv := s.retLane.recv.set 6 1 }.sound = false ∧ { s.retLane with active := false }.active = false ∧
    { s with opState := .pass }.opState = .pass := by decide +kernel

/-- The part with the voltage standing at `v` in the ride-through state, the history filled with it. -/
def rideAt (r : RideThrough) (v : Int) : State :=
  withPoint 0 v .fresh 0 { lab with envelope := { Envelope.reset with rideThrough := r, history := List.replicate 8 v } }

/-- V_avg of the update at `rideAt`. -/
def averageAt (v : Int) : Int := ((v :: List.replicate 8 v).take 8 |>.take (2 ^ 2)).sum / ((2 ^ 2 : Nat) : Int)

theorem meets_RideThroughFollowsTheVoltage :
    let s := rideAt .normal 849
    (s.faults.length = 64 ∧ figure s.drtG 6 = 2 ∧ averageAt 849 = 849) ∧
    ((rideAt .normal 849).envelope.rideThrough = .normal ∧ averageAt 849 < s.sagEnter ∧ s.sagEnter ≤ averageAt 850 ∧
      averageAt 1100 ≤ s.swellEnter ∧ s.swellEnter < averageAt 1101) ∧
    ((rideAt .sag 899).envelope.rideThrough = .sag ∧
      32768 ≤ min 65535 (32767 + (Int.tdiv 32768 (curve s.allowedCurve 899)).toNat) ∧
      min 65535 (0 + (Int.tdiv 32768 (curve s.allowedCurve 899)).toNat) < 32768 ∧
      averageAt 899 < s.sagExit ∧ s.sagExit ≤ averageAt 900) ∧
    ((rideAt .swell 1080).envelope.rideThrough = .swell ∧ s.swellLimit ≤ min 65535 (249 + 1) ∧
      min 65535 (248 + 1) < s.swellLimit ∧ averageAt 1080 ≤ s.swellExit ∧ s.swellExit < averageAt 1081) ∧
    ((rideAt .recovery 850).envelope.rideThrough = .recovery ∧ s.recoveryUpdates ≤ min 65535 (49 + 1)) ∧
    (rideAt .tripped 899).envelope.rideThrough = .tripped := by decide +kernel

theorem meets_CoolingFollowsTheTemperatures :
    let s := withPoint 3 1200 .fresh 0 (withPoint 2 350 .fresh 0 (withPoint 7 1400 .fresh 0 lab))
    ((0 < 12 ∧ bitOf (wordAt s.plt 1) 0 = true) ∧ (11 < 12 ∧ bitOf (wordAt s.plt 1) 11 = true) ∧ s.points.length = 256 ∧
      s.thermal.rises.length = 12 ∧ (s.point 7).live = true ∧ (lab.point 7).live = false ∧ (s.point 3).live = true ∧
      (s.point 2).live = true) ∧
    (0 < curve s.pumpCurve 651 ∧ curve s.pumpCurve 0 = 0) ∧
    (s.thermal.fanRequest = 0 ∧ 0 ≤ 3 ∧ 3 ≤ 3 ∧ signedFigure s.thm 25 ≤ (s.point 2).value ∧
      signedFigure s.thm 28 ≤ 270 ∧ 269 < signedFigure s.thm 28 ∧ 299 < signedFigure s.thm 25) ∧
    (let o := { lab with banks := { lab.banks with active := lab.banks.active.set 1 (table (plt.set 1 0x0801)) } }
     bitOf (wordAt o.plt 1) 0 = true ∧ bitOf (wordAt o.plt 1) 11 = true ∧ bitOf (wordAt o.plt 1) 10 = false ∧
     o.thermal.seeded = false ∧ { o.thermal with seeded := true }.seeded = true) ∧
    (let c := withPoint 44 1250 .fresh 0 (withPoint 3 599 .forced 9 (withPoint 2 451 .fresh 0 lab))
     c.faults.length = 64 ∧ c.condition fcJunctionLimit = false ∧ signedFigure c.thm 6 ≤ (c.point 44).value ∧
     (c.point 3).live = true ∧ (c.point 3).value < (figure c.thm 7 : Int) ∧ c.condition fcFlowLow = false ∧
     (c.point 2).live = true ∧ signedFigure c.thm 8 < (c.point 2).value ∧ c.condition fcInletHigh = false ∧
     (lab.point 3).live = false ∧ (lab.point 2).live = false) := by decide +kernel

theorem meets_EnvelopeUpdateFollowsTheTarget :
    let s := withPoint 44 800 .fresh 0 lab
    let d := withPoint 44 1300 .fresh 0 { lab with
      faults := lab.faults.set fcThermalDerate { FaultRecord.reset with condition := true, latch := true } }
    (0 ∉ ([] : List Nat) ∧ (s.point 0).quality ≠ .forced ∧ s.points.length = 256 ∧
      s.condition fcThermalDerate = decide (curve s.thermalCurve (s.point 44).value < 32768)) ∧
    (d.points.length = 256 ∧ d.condition fcThermalDerate = decide (curve d.thermalCurve (d.point 44).value < 32768)) ∧
    (let n := withPoint 44 1120 .fresh 0 (withPoint 0 700 .forced 0 lab)
     0 ∈ [0] ∧ (n.point 0).quality = .forced ∧ (rideThroughUpdate n).points.length = 256 ∧ n.faults.length = 64 ∧
     (rideThroughUpdate n).condition fcThermalDerate = false ∧
     curve (rideThroughUpdate n).thermalCurve ((rideThroughUpdate n).point 44).value < 32768) := by
  decide +kernel

theorem meets_GrantsAreTakenInOrderFromTheBudget :
    let s (n : Nat) := { lab with arbiter := { Arbiter.reset with pumpClaim := 150, fanClaim := 1, yawClaim := some n } }
    (s 2).arbiter.yawClaim = some 2 ∧ lab.arbiter.yawClaim = none ∧
    (2 ≤ (s 2).arbiter.fanClaim ∨ 1 * figure (s 2).plt 14 ≤ (s 2).budget - 150) ∧
    figure (s 2).plt 15 * 2 ≤ (s 2).budget - 150 - 1 * figure (s 2).plt 14 ∧
    (s 3).budget - 150 - 1 * figure (s 3).plt 14 < figure (s 3).plt 15 * 3 ∧
    (let e := withPoint 40 1000 .fresh 0 (withPoint 41 3 .fresh 0 (s 2))
     ((writeGrants e).arbiter.pumpGrant * 1000 / (writeGrants e).arbiter.grantPumpMax = 1000 ∧
      ((writeGrants e).arbiter.fanGrant : Int) < ((writeGrants e).point 41).value ∧
      e.arbiter.yawGrant = none ∧ (writeGrants e).arbiter.yawGrant.isSome = true ∧ e.faults.length = 64)) ∧
    (let w := withPoint 1 0 .fresh 0 (withPoint 40 1000 .fresh 0 { moving with
       arbiter := { moving.arbiter with pumpClaim := 150, pumpGrant := 150, grantPumpMax := 150 } })
     w.arbiter.yawGrant.isSome = true ∧ (writeGrants w).arbiter.yawGrant = none ∧ w.arbiter.yawClaim.isSome = true ∧
     (0 : Int) < ((writeGrants w).point 40).value ∧ w.condition fcAuxShort = false ∧
     (writeGrants w).arbiter.pumpGrant < (writeGrants w).arbiter.pumpClaim) ∧
    (let g (p : Phase) (twist : Int) := { moving with
       sequencer := { moving.sequencer with step := 0, phase := p }, tracker := { moving.tracker with twist := twist } }
     (g .waiting 9959).sequencer.record = some ⟨1, 40, .heading, .auto, 0x0F⟩ ∧ (g .parked 0).sequencer.phase = .parked ∧
     ((9959 + 40 : Int).natAbs : Int) < moving.twistHard ∧ moving.twistHard ≤ ((9960 + 40 : Int).natAbs : Int) ∧
     moving.startStep = 1 ∧ (yawStep moving.yst 1).trigger = 3 ∧ moving.faults.length = 64) ∧
    (lab.sequencer.phase ≠ .running ∧ moving.sequencer.phase = .running ∧
      (raise fcGrantLost moving.sequencer.step moving).sequencer.phase = .running ∧
      (yawStep moving.yst 2).stop = false ∧ (yawStep moving.yst 6).stop = true ∧
      (let s := { moving with sequencer := { moving.sequencer with step := 6 } }
       (raise fcGrantLost s.sequencer.step s).sequencer = s.sequencer)) ∧
    (let h := { moving with banks := { lab.banks with active := lab.banks.active.set 7 (table (fat.set fcGrantLost 0x011E)) } }
     (raise fcGrantLost h.sequencer.step h).sequencer.phase ≠ .running) := by decide +kernel

theorem meets_RecordsFollowRaisesAndEnds :
    let withFat (l : List Nat) (s : State) := { s with banks := { s.banks with active := s.banks.active.set 7 (table l) } }
    let q := withFat (fat.set 63 0) lab
    let m := withFat (fat.set 34 0x0A) { lab with log := fullLog 200 }
    let r : FaultRecord := { FaultRecord.reset with condition := true, latch := true }
    let p := { lab with faults := lab.faults.set 63 r }
    let g := withFat (fat.set 63 0x1E) p
    (63 < 64 ∧ lab.faults.length = 64 ∧ p.faults.length = 64 ∧ g.faults.length = 64) ∧
    (levelCode 63 = true ∧ (p.fault 63).condition = true) ∧
    (levelCode 30 = false ∧ (lab.fault 63).condition = false ∧ lab.log.records.length < 64) ∧
    ((q.faultEntry 63).log = false ∧ (q.faultEntry 63).severity ≠ 4 ∧ (lab.faultEntry 63).log = true) ∧
    (m.log.records.tail.length = 63 ∧ (m.faultEntry fcLogOverwrite).log = false ∧
      (m.faultEntry fcLogOverwrite).severity ≠ 4 ∧ (m.faultEntry 30).log = true) ∧
    ((g.fault 63).condition = true ∧ (g.faultEntry 63).latching = true ∧ (p.faultEntry 63).latching = false) ∧
    (let o := { lab with log := fullLog 200 }
     o.log.records.tail.length = 63 ∧ Loggable o fcLogOverwrite ∧ Loggable o 30 ∧ ¬ Loggable q 63) ∧
    (let w (v : Int) (t : Quality) (age : Nat) :=
       withPoint 4 v t age (withFat (fat ++ [0x0401, 0, 200, 50, 0x0402, 0xFFFF, 0xFFF6, 20]) lab)
     figure (w 0 .fresh 0).fat 64 = 0x0401 ∧ figure (w 0 .fresh 0).fat 68 = 0x0402 ∧ figure (w 0 .fresh 0).fat 72 = 0 ∧
     ((w 201 .fresh 0).point 4).value = 201 ∧ (w 201 .fresh 0).condition 48 = false ∧
     ((w 201 .forced 9).point 4).quality = .forced ∧ ((w 201 .fresh 1).point 4).age ≠ 0 ∧
     ((w 150 .stale 0).point 4).quality = .stale) ∧
    (let latches (s : State) := s.faults.map (fun r => r.latch)
     latches (raiseRecord 63 5 p) = latches p ∧ latches (raiseRecord 63 5 lab) ≠ latches lab ∧
     latches (endRecord 63 g) = latches g ∧ latches (endRecord 63 p) ≠ latches p) := by
  unfold Loggable; decide +kernel

theorem meets_FilteredTransitionsAreDecoded :
    lab.due = [] ∧ lab.inputs.toothA.level = lab.tracker.filtA ∧ lab.inputs.toothB.level = lab.tracker.filtB ∧
    lab.inputs.index.level = lab.tracker.filtIndex ∧ lab.tracker.quadA = lab.tracker.filtA ∧
    lab.tracker.quadB = lab.tracker.filtB ∧ lab.tracker.filtIndex = true ∧ 20 ≤ lab.filterWidth ∧ lab.filterWidth < 21 ∧
    lab.filterWidth ≤ lab.elapsed (lab.timebase - 20) ∧
    (let s := State.reset
     s.due = [] ∧ s.inputs.toothA.level = s.tracker.filtA ∧ s.inputs.toothB.level = s.tracker.filtB ∧
     s.inputs.index.level = s.tracker.filtIndex ∧ s.tracker.quadA = s.tracker.filtA ∧
     s.tracker.quadB = s.tracker.filtB ∧ s.filterWidth = 0) ∧
    (let s := { lab with tracker := { lab.tracker with filtIndex := false, heading := 3389, quality := .referenced }
                         inputs := { lab.inputs with index := { level := false, since := 0 } } }
     s.due = [] ∧ s.inputs.index.level = s.tracker.filtIndex ∧ s.tracker.filtIndex = false ∧
     s.tracker.quality = .referenced ∧ s.faults.length = 64 ∧
     2 < min (((s.tracker.heading : Int) - s.indexPosition).natAbs : Int)
       ((s.ppr : Int) - (((s.tracker.heading : Int) - s.indexPosition).natAbs : Int))) := by decide +kernel

/-- `lab` at the moment at which TOOTH_A, changed at 0 µs, has held its level for W µs. -/
def heldLab : State :=
  { lab with timebase := lab.timebase + BitVec.ofNat 32 lab.filterWidth
             tracker := { lab.tracker with filtA := !lab.tracker.filtA, quadA := !lab.tracker.filtA } }

/-- The quiet times that the same statement asks for, before and after a transition of `lab` held 21 µs, and after one with
W = 0. -/
theorem meets_FilteredTransitionsAreDecoded_quiet :
    (QuietFor 20 lab ∧ QuietFor lab.filterWidth lab) ∧
    (QuietFor 1 { heldLab with tracker := lab.tracker } ∧ QuietFor 1 (raise fcQuadrature 0 State.reset)) ∧
    QuietFor 20 { toothEdge 1 heldLab with inputs := { lab.inputs with toothA := ⟨true, heldLab.timebase⟩ } } ∧
    QuietFor 1 (toothEdge 1 { heldLab with inputs := { lab.inputs with toothA := ⟨false, 0⟩ } }) ∧
    QuietFor 1 (raise fcQuadrature 0 { heldLab with inputs := { lab.inputs with toothA := ⟨false, 0⟩ } }) := by
  refine ⟨⟨?_, ?_⟩, ⟨?_, ?_⟩, ?_, ?_, ?_⟩ <;> (unfold QuietFor; decide +kernel)

theorem meets_EdgesAreRejectedAbsorbedOrCounted :
    let b := { moving with timebase := 25499 }
    let c := { moving with timebase := 25500 }
    let w (n : Nat) := { c with tracker := { moving.tracker with window := some ⟨1, 0, n⟩ } }
    ((1 : Int) = 1 ∧ (-1 : Int) = -1 ∧ moving.points.length = 256) ∧
    (b.tracker.lastEdge = some 0 ∧ b.elapsed 0 < b.tracker.baseTime * b.bounceMask / 128 ∧ b.sequencer.step ≠ 0 ∧
      min 65535 (b.tracker.bounces + 1) ≠ 16 ∧ { b.tracker with bounces := 15 }.bounces = 15 ∧
      { b with sequencer := Sequencer.reset }.sequencer.step = 0) ∧
    ((∀ e, c.tracker.lastEdge = some e → c.tracker.baseTime * c.bounceMask / 128 ≤ c.elapsed e) ∧
      ((w 25500).tracker.window = some ⟨1, 0, 25500⟩ ∧ (w 25500).elapsed 0 ≤ 25500) ∧
      (∀ v, (w 25499).tracker.window = some v → v.direction ≠ 1 ∨ v.length < (w 25499).elapsed v.start) ∧
      (∀ v, (w 25500).tracker.window = some v → v.direction ≠ -1 ∨ v.length < (w 25500).elapsed v.start) ∧
      c.ppr ≠ 0 ∧ c.sequencer.record.isSome = true) ∧
    ((c.tracker.lastEdge = some 0 ∧ c.sequencer.step ≠ 0 ∧ c.tracker.history ≠ [] ∧ c.tracker.forcedRun = 0) ∧
      { c.tracker with lastEdge := none }.lastEdge = none ∧ { c.tracker with forcedRun := 2 }.forcedRun ≠ 0 ∧
      1 ≤ c.forcedLimit ∧ lab.sequencer.step = 0 ∧ { c.tracker with history := [] }.history = []) ∧
    (let l (n : Nat) := { lab with tracker := { lab.tracker with slips := n } }
     (l 10).sequencer.step = 0 ∧ (l 10).slipLimit < min 65535 (10 + 1) ∧ (l 10).tracker.slipRaised = false ∧
     ¬ (l 9).slipLimit < min 65535 (9 + 1) ∧ lab.faults.length = 64) ∧
    (let h (k counts : Nat) (left : Int) := { moving with sequencer := { moving.sequencer with
       step := k, counts := counts, record := some ⟨1, left, .heading, .auto, 0x0F⟩ } }
     (yawStep moving.yst 2).trigger = 1 ∧ (yawStep moving.yst 2).argument ≤ min 65535 ((h 2 19 40).sequencer.counts + 1) ∧
     ¬ (yawStep moving.yst 2).argument ≤ min 65535 ((h 2 18 40).sequencer.counts + 1) ∧ (yawStep moving.yst 3).trigger = 2 ∧
     (10 : Int) * 1 ≤ ((moving.stopBand * moving.ppr / 3600 : Nat) : Int) ∧
     ¬ (11 : Int) * 1 ≤ ((moving.stopBand * moving.ppr / 3600 : Nat) : Int)) := by
  refine ⟨by decide +kernel, by decide +kernel, ⟨?_, by decide +kernel, ?_, ?_, by decide +kernel, rfl⟩, by decide +kernel,
    by decide +kernel⟩ <;> (intro x h; cases h; decide +kernel)

theorem meets_ForcedAdvanceAndTheTrackersTimers :
    let w := { moving with timebase := 4, tracker := { moving.tracker with window := some ⟨1, 0, 5⟩, forcedRun := 254 } }
    (lab.due = [] ∧ lab.tracker.timer = none ∧ lab.tracker.window = none ∧ lab.tracker.lastEdge = none) ∧
    (w.due = [] ∧ w.tracker.timer = some ⟨0, 306000⟩ ∧ 1 = (w.point 38).value ∧ w.ppr ≠ 0 ∧ w.faults.length = 64 ∧
      w.points.length = 256 ∧ w.tracker.forcedRun < 255) ∧
    (let n := { w with timebase := 305999 }
     let s := letPass false (306000 - n.elapsed 0) n
     s.tracker.timer = some ⟨0, 306000⟩ ∧ 1 = (s.point 38).value ∧ s.ppr ≠ 0 ∧ s.faults.length = 64 ∧
      s.points.length = 256 ∧ s.tracker.forcedRun < 255) ∧
    (let n := { moving with timebase := 305990, inputs := { moving.inputs with toothA := ⟨false, 305971⟩ } }
     n.tracker.timer = some ⟨0, 306000⟩ ∧ (letPass false (306000 - n.elapsed 0) n).tracker.timer ≠ some ⟨0, 306000⟩) ∧
    (w.tracker.window = some ⟨1, 0, 5⟩ ∧ w.tracker.lastEdge = some 0) ∧
    (moving.condition fcTrackLost = decide (moving.forcedLimit ≤ moving.tracker.forcedRun + 1) ∧
      w.condition fcTrackLost ≠ decide (w.forcedLimit ≤ w.tracker.forcedRun + 1)) := by decide +kernel

theorem meets_StepTimeoutEntersItsStep :
    let s := { moving with due := [.stepTimeout], sequencer := { moving.sequencer with step := 1 } }
    (s.due = [.stepTimeout] ∧ s.sequencer.step = 1 ∧
      (raise fcStepTimeout 1 { s with due := [] }).sequencer.phase = .running) ∧
    ({ lab with due := [.stepTimeout] }.sequencer.step = 0) ∧
    (let h := { s with banks := { lab.banks with active := lab.banks.active.set 7 (table (fat.set fcStepTimeout 0x011E)) } }
     (raise fcStepTimeout 1 { h with due := [] }).sequencer.phase ≠ .running) ∧
    (2 ≠ 0 ∧ (yawStep moving.yst 2).trigger ≠ 5 ∧ (yawStep moving.yst 2).trigger ≠ 2 ∧ moving.points.length = 256 ∧
      moving.sequencer.record = some ⟨1, 40, .heading, .auto, 0x0F⟩ ∧ moving.sequencer.record.isSome = true) ∧
    (let f := withPoint 6 20 .fresh 0 moving
     (yawStep f.yst 1).trigger = 3 ∧ (f.point 6).value ≤ ((yawStep f.yst 1).argument : Int) ∧
     (yawStep f.yst 6).trigger = 4 ∧ ¬ ((yawStep f.yst 6).argument : Int) ≤ (f.point 6).value ∧
     (yawStep f.yst 4).trigger = 0 ∧ (yawStep f.yst 4).argument ≤ min 65535 (0 + 1) ∧
     (yawStep f.yst 6).timeout ≠ 0 ∧ (yawStep f.yst 6).timeout ≤ min 65535 (39 + 1) ∧
     ¬ (yawStep f.yst 6).timeout ≤ min 65535 (38 + 1) ∧ (yawStep f.yst 4).timeout = 0) ∧
    (let i := { moving with banks := { lab.banks with active := lab.banks.active.set 6 (table (yst.set 17 0x0502)) } }
     validateTable 6 i.yst = none ∧ (yawStep i.yst 4).trigger = 5 ∧ 4 < 8) ∧
    ∀ r, moving.sequencer.record = some r → r.mode ≠ .seek := by
  refine ⟨by decide +kernel, by decide +kernel, by decide +kernel, by decide +kernel, by decide +kernel, by decide +kernel, ?_⟩
  intro r h; cases h; decide

theorem meets_RestAndExerciseBeginAndEnd :
    let d (x : Due) := { moving with due := [x] }
    lab.faults.length = 64 ∧ (d .restBegin).condition fcDutyRest = false ∧ ((d .restBegin).due = [.restBegin] ∧ (d .restBegin).faults.length = 64) ∧
    (d .restEnd).due = [.restEnd] ∧ (d .exerciseStart).due = [.exerciseStart] ∧ (d .exerciseEnd).due = [.exerciseEnd] ∧
    (∃ r, (raise fcDutyRest 0 (d .restBegin)).sequencer.record = some r ∧ (r.mode = .auto ∨ r.mode = .unwind)) ∧
    (∀ r, (raise fcDutyRest 0 { lab with due := [.restBegin] }).sequencer.record = some r → r.mode ≠ .auto ∧ r.mode ≠ .unwind) := by
  refine ⟨by decide +kernel, by decide +kernel, by decide +kernel, rfl, rfl, rfl, ⟨⟨1, 40, .heading, .auto, 0x0F⟩, by decide +kernel⟩, ?_⟩
  have h : (raise fcDutyRest 0 { lab with due := [.restBegin] }).sequencer.record = none := by decide +kernel
  intro r hr
  rw [h] at hr
  cases hr

theorem meets_ClockSecondAndMinuteCount :
    let d := { lab with due := [.minute true true] }
    (lab.due = [] ∧ true = decide ((letPass false 1000000 lab).opState ≠ .pass)) ∧ (lab.clock.seconds + 1).toNat % 60 ≠ 0 ∧
    ({ lab.clock with seconds := 0xFFFFFFFF }.seconds + 1).toNat % 60 = 0 ∧
    (d.due = [.minute true true] ∧ true = decide (d.opState ≠ .pass)) := by decide +kernel

theorem meets_SilenceTurnsRunIntoIsland :
    let s := { lab with supervision :=
      { armed := true, limit := 20000, timer := some 0, islandTimer := none, waiting := false } }
    let i := { lab with opState := .island, timebase := 9999, supervision :=
      { armed := true, limit := 20000, timer := none, islandTimer := some ⟨0, 10000⟩, waiting := false } }
    (lab.due = [] ∧ lab.supervision.timer = none ∧ lab.supervision.islandTimer = none) ∧
    (s.due = [] ∧ s.supervision.timer = some 0 ∧ s.elapsed 0 < s.supervision.limit ∧ s.faults.length = 64 ∧
      s.condition fcMasterSilent = false ∧ s.opState = .run) ∧
    ({ s with timebase := 20000 }.elapsed 0 = s.supervision.limit ∧ { s with opState := .pass }.opState ≠ .run) ∧
    (let u := letPass false (s.supervision.limit - s.elapsed 0) s
     u.supervision.timer = some 0 ∧ u.supervision.limit = s.supervision.limit ∧ u.faults.length = 64 ∧
      u.condition fcMasterSilent = false ∧ u.opState = .run) ∧
    (i.due = [] ∧ i.supervision.islandTimer = some ⟨0, 10000⟩ ∧ i.elapsed 0 < 10000) ∧
    (i.supervision.waiting = false ∧ i.p1.busy = false ∧ i.hold.occupied = false ∧
      { i.supervision with waiting := true }.waiting = true ∧ { i.p1 with busy := true }.busy = true) := by decide +kernel

/-- The part some µs after pin reset. -/
def settled : State := { State.reset with timebase := 7 }

/-- The part after pin reset with a command waiting. -/
def waitingRun : State := { State.reset with pending := [.run 1] }

theorem meets_EveryStepKeepsTheShape : Shaped settled ∧ (∃ t, step settled = .next t) ∧ ∃ t, step waitingRun = .next t :=
  ⟨by unfold Shaped; decide +kernel, ⟨_, rfl⟩, ⟨_, rfl⟩⟩

theorem meets_EveryStepKeepsTheLogsSequence :
    let r : LogRecord :=
      { sequence := 65535, code := 18, kind := .raised, seconds := 0, timeSet := true, cycle := 255, context := 0 }
    let s := { settled with log := { records := [r], next := 0 } }
    LogLaw s ∧ ∃ t, step s = .next t :=
  ⟨by unfold LogLaw; decide +kernel, ⟨_, rfl⟩⟩

theorem meets_EveryStepKeepsTheActionsInEffect : ActionLaw settled ∧ ∃ t, step settled = .next t :=
  ⟨by unfold ActionLaw; decide +kernel, ⟨_, rfl⟩⟩

theorem meets_EveryStepKeepsTheMovesLaw : MoveLaw moving ∧ (∃ t, step moving = .next t) ∧ MoveLaw settled :=
  ⟨by unfold MoveLaw; decide +kernel, ⟨_, rfl⟩, by unfold MoveLaw; decide +kernel⟩

theorem meets_EveryStepKeepsTheBanksLaws :
    let s := { lab with
      flight := [flown 3 40 1], banks := { lab.banks with
        status := .scheduled 2, lastExchange := some { mask := 2, fromGeneration := 1 }, locks := lab.banks.locks.set 7 true } }
    ListLaw s ∧ LockLaw s ∧ (∃ t, step s = .next t) ∧ NotPinReset s ∧ s.locked 7 = true := by
  refine ⟨⟨by decide +kernel, fun _ => by decide +kernel⟩, ?_, ⟨_, rfl⟩, ?_, by decide +kernel⟩
  · intro mask h; cases h; decide +kernel
  · intro _ _ _ _ _ h; cases h

theorem meets_EveryStepKeepsSilenceAndRecordLaws :
    let s := { lab with opState := .island, faults := lab.faults.set fcMasterSilent { FaultRecord.reset with
        condition := true, latch := true }
                        supervision := { armed := true, limit := 20000, timer := none, islandTimer := some ⟨0, 10000⟩, waiting := false } }
    SilenceLaw s ∧ (∃ t, step s = .next t) ∧ RecordLaw lab ∧ SilenceLaw settled ∧ RecordLaw settled := by
  refine ⟨⟨?_, ?_, ?_, ?_⟩, ⟨_, rfl⟩, ⟨?_, ?_⟩, ⟨?_, ?_, ?_, ?_⟩, ⟨?_, ?_⟩⟩ <;> decide +kernel

end Sys2Proof.Tests
end

section
/-! SUPPORT. Faults and the log: what the discard of R171 leaves in a log that keeps its law (R168), and LOG_DISCARD. -/

namespace Sys2Proof.Machine

open Sys2Proof.Safety

/-! ## Carrying a request (R202, R203) -/

/-- A request that fits its slot is carried out by its own rule, and its response is all else that changes. -/
theorem handRequest_of_carried {len : Nat} {r : Request} (s : State) (h : Carried len r) :
    handRequest len r s = answered (serve r s).2 (serve r s).1 := by
  obtain ⟨hargs, hok⟩ := h
  simp [handRequest, takeRequest, Nat.not_lt.mpr hargs, Nat.not_lt.mpr hok, storeResponse, answered]

/-- A word fits a field of two bytes, so its response field is the word as it travels (R211). -/
theorem putU_two_toNat (w : Word) : putU 2 w.toNat = wordBytes w := by
  have hw := w.isLt
  have hfits : (saturate (fieldMin false 2) (fieldMax false 2) w.toNat % ((2 ^ (8 * 2) : Nat) : Int)).toNat = w.toNat := by
    simp only [saturate, fieldMin, fieldMax, Bool.false_eq_true, if_false]
    omega
  simp only [putU, fieldWrite, wordBytes, hfits]

/-! ## The oldest record and offsets (R170) -/

theorem FaultLog.oldest_of_cons {l : FaultLog} {r : LogRecord} {rest : List LogRecord} (h : l.records = r :: rest) :
    l.oldest = r.sequence := by
  simp [FaultLog.oldest, h]

theorem FaultLog.oldest_eq_getElem {l : FaultLog} (h : 0 < l.records.length) : l.oldest = l.records[0].sequence := by
  obtain ⟨r, rest, hcons⟩ := List.exists_cons_of_length_pos h
  simp [FaultLog.oldest_of_cons hcons, hcons]

theorem FaultLog.offset_inj {l : FaultLog} {p q : Word} : l.offset p = l.offset q ↔ p = q := by
  rw [FaultLog.offset, FaultLog.offset, BitVec.toNat_inj, BitVec.sub_left_inj]

/-! ## The discard (R171) -/

@[simp] theorem FaultLog.discard_next (l : FaultLog) (q : Word) : (l.discard q).next = l.next := by
  unfold FaultLog.discard
  split <;> rfl

theorem FaultLog.discard_of_lt {l : FaultLog} {q : Word} (h : l.offset q < l.records.length) :
    l.discard q = { l with records := l.records.drop (l.offset q + 1) } := if_pos h

theorem FaultLog.discard_of_le {l : FaultLog} {q : Word} (h : l.records.length ≤ l.offset q) : l.discard q = l :=
  if_neg (Nat.not_lt.mpr h)

/-- A discard changes the records alone. -/
theorem FaultLog.discard_eq_with_records (l : FaultLog) (q : Word) :
    l.discard q = { l with records := (l.discard q).records } :=
  congrArg (FaultLog.mk (l.discard q).records) (l.discard_next q)

/-- The records that a discard leaves, from the first record of the log (R171). -/
theorem FaultLog.discard_records_of_cons {l : FaultLog} {r : LogRecord} {rest : List LogRecord} (h : l.records = r :: rest)
    (q : Word) : (l.discard q).records =
      if (q - r.sequence).toNat < l.records.length then l.records.drop ((q - r.sequence).toNat + 1) else l.records := by
  rw [FaultLog.discard, FaultLog.offset, FaultLog.oldest_of_cons h]
  split <;> rfl

/-! ## LOG_DISCARD -/

/-- LOG_DISCARD as a command, with nothing outstanding and a slot that carries it: the discard, and the answer formed of
the log it leaves. -/
theorem exec_logDiscard {len : Nat} {q : Word} {s : State} (hdue : s.due = []) (hlen : Carried len (.logDiscard q)) :
    exec (.logDiscard len q) s = .next (answered
      ([0x00] ++ wordBytes (s.log.discard q).oldest ++ putU 1 (s.log.discard q).records.length)
      { s with log := s.log.discard q }) := by
  have hmeaning : exec (.logDiscard len q) s = .next (handRequest len (.logDiscard q) (settle s)) := rfl
  rw [hmeaning, settle_of_due_nil hdue, handRequest_of_carried s hlen, serve, logDiscardRequest, putU_two_toNat]
  rfl

end Sys2Proof.Machine

namespace Sys2Proof.Safety

open Sys2Proof.Machine

/-! ## Sequences and discards in a log that keeps its law (R168, R171) -/

theorem LogLaw.length_le {s : State} (law : LogLaw s) : s.log.records.length ≤ 64 := And.left law

/-- In a log that keeps its law the record at position `i` has the next sequence less its distance from the end. -/
theorem LogLaw.sequence_getElem {s : State} (law : LogLaw s) {i : Nat} (hi : i < s.log.records.length) :
    s.log.records[i].sequence = s.log.next - BitVec.ofNat 16 (s.log.records.length - i) := by
  obtain ⟨-, hseq⟩ := law
  simpa [hi] using congrArg (·[i]?) hseq

/-- In a log that keeps its law a record's offset is its position. -/
theorem LogLaw.offset_getElem {s : State} (law : LogLaw s) {i : Nat} (hi : i < s.log.records.length) :
    s.log.offset s.log.records[i].sequence = i := by
  have hbound := law.length_le
  rw [FaultLog.offset, FaultLog.oldest_eq_getElem (Nat.zero_lt_of_lt hi), law.sequence_getElem hi,
    law.sequence_getElem (Nat.zero_lt_of_lt hi)]
  bv_omega

/-- In a log that keeps its law a sequence discards through its own record. -/
theorem LogLaw.discard_records_of_split {s : State} (law : LogLaw s) {before after : List LogRecord} {r : LogRecord}
    (h : s.log.records = before ++ r :: after) : (s.log.discard r.sequence).records = after := by
  have hpos : before.length < s.log.records.length := by simp [h]
  have hoffset : s.log.offset r.sequence = before.length := by simpa [h] using law.offset_getElem hpos
  rw [FaultLog.discard_of_lt (hoffset ▸ hpos), hoffset, h]
  simp [← List.drop_drop]

/-- In a log that keeps its law a sequence whose offset is a position is the sequence of the record there, so one that no
record has discards nothing. -/
theorem LogLaw.discard_of_absent {s : State} (law : LogLaw s) {q : Word} (h : ∀ r ∈ s.log.records, r.sequence ≠ q) :
    s.log.discard q = s.log := by
  refine FaultLog.discard_of_le (Nat.not_lt.mp fun hlt => ?_)
  exact h _ (List.getElem_mem hlt) (FaultLog.offset_inj.mp (law.offset_getElem hlt))

/-- After a discard through the record at the sequence's offset the oldest left is the record behind it: from there the
sequence lies 65535 records on, past every log's end. -/
theorem LogLaw.offset_after_discard {s : State} (law : LogLaw s) {q : Word} (h : s.log.offset q + 1 < s.log.records.length) :
    (s.log.discard q).offset q = 65535 := by
  have hq : s.log.records[s.log.offset q].sequence = q :=
    FaultLog.offset_inj.mp (law.offset_getElem (Nat.lt_of_succ_lt h))
  have holdest : (s.log.discard q).oldest = s.log.records[s.log.offset q + 1].sequence := by
    rw [FaultLog.discard_of_lt (Nat.lt_of_succ_lt h)]
    exact FaultLog.oldest_of_cons (List.drop_eq_getElem_cons h)
  have hbehind : s.log.records[s.log.offset q + 1].sequence = q + 1 := by
    rw [law.sequence_getElem h]
    rw [law.sequence_getElem (Nat.lt_of_succ_lt h)] at hq
    have hbound := law.length_le
    bv_omega
  rw [FaultLog.offset, holdest, hbehind]
  bv_omega

/-- In a log that keeps its law a repeated discard removes nothing more. -/
theorem LogLaw.discard_discard {s : State} (law : LogLaw s) (q : Word) :
    (s.log.discard q).discard q = s.log.discard q := by
  have hbound := law.length_le
  rcases Nat.lt_or_ge (s.log.offset q) s.log.records.length with hlt | hle
  · have hlength : (s.log.discard q).records.length = s.log.records.length - (s.log.offset q + 1) := by
      simp [FaultLog.discard_of_lt hlt]
    refine FaultLog.discard_of_le ?_
    rcases Nat.lt_or_ge (s.log.offset q + 1) s.log.records.length with hmore | hlast
    · rw [law.offset_after_discard hmore]
      omega
    · omega
  · rw [FaultLog.discard_of_le hle, FaultLog.discard_of_le hle]

/-- Settles O21: the log left is the discard's, and each clause is what the discard does in a log that keeps its law. -/
theorem logDiscardRemovesThroughTheSequence : Obligations.LogDiscardRemovesThroughTheSequence := by
  intro len q s hdue hlen law
  have hlog := s.log.discard_eq_with_records q
  refine ⟨(s.log.discard q).records, (s.log.discard q).oldest, ?_, fun _ _ => FaultLog.oldest_of_cons,
    fun _ _ hcons => FaultLog.discard_records_of_cons hcons q, ?_, ?_, ?_⟩
  · rw [← hlog]
    exact exec_logDiscard hdue hlen
  · rintro before r after hsplit rfl
    exact law.discard_records_of_split hsplit
  · intro habsent
    rw [law.discard_of_absent habsent]
  · rw [← hlog]
    intro t ht
    rw [exec_logDiscard (s := { s with log := s.log.discard q }) hdue hlen] at ht
    cases ht
    exact law.discard_discard q

end Sys2Proof.Safety
end

section
/-! SUPPORT. What a request that fits its slot and reads answers: the fields of a response (R211, R213), TABLE_READ (R192)
and LOG_READ (R170). -/

namespace Sys2Proof.Machine

open Sys2Proof.Safety

/-! ## A request as a command (R200, R202) -/

/-- A request command hands the interpreter its request. -/
theorem exec_requestCommand (len : Nat) (r : Request) (s : State) :
    exec (requestCommand len r) s = .next (handRequest len r (settle s)) := by
  cases r <;> rfl

/-- A request that fits its slot, with nothing outstanding, and that leaves the state as it is, only answers. -/
theorem exec_requestCommand_of_reads {len : Nat} {r : Request} {s : State} {response : List Byte} (hdue : s.due = [])
    (hlen : Carried len r) (hserve : serve r s = (s, response)) :
    exec (requestCommand len r) s = .next (answered response s) := by
  rw [exec_requestCommand, settle_of_due_nil hdue, handRequest_of_carried s hlen, hserve]

/-! ## Fields that hold their number (R211) -/

/-- A number within an unsigned field's range travels unsaturated. -/
theorem putU_of_lt {w n : Nat} (h : n < 2 ^ (8 * w)) : putU w n = beBytes w n := by
  have hfits : saturate (fieldMin false w) (fieldMax false w) n = n := by
    simp only [saturate, fieldMin, fieldMax, Bool.false_eq_true, if_false]
    omega
  simp only [putU, fieldWrite, hfits]
  rw [← Int.natCast_emod, Int.toNat_natCast, Nat.mod_eq_of_lt h]

theorem putU_one_of_lt {n : Nat} (h : n < 256) : putU 1 n = [BitVec.ofNat 8 n] := by
  rw [putU_of_lt h]
  simp [beBytes]

theorem putU_four_toNat (x : Long) : putU 4 x.toNat = longBytes x := putU_of_lt x.isLt

theorem BankStatus.putU_code (b : BankStatus) : putU 1 b.code = [BitVec.ofNat 8 b.code] :=
  putU_one_of_lt (by cases b <;> simp [BankStatus.code])

theorem LogKind.putU_code (k : LogKind) : putU 1 k.code = [BitVec.ofNat 8 k.code] :=
  putU_one_of_lt (by cases k <;> decide)

theorem putU_flagCode (b : Bool) : putU 1 (flagCode b) = [BitVec.ofNat 8 (if b then 1 else 0)] :=
  putU_one_of_lt (by cases b <;> decide)

/-- No more than `n` list items are taken, so a byte field holds how many. -/
theorem putU_length_take {α : Type} {n : Nat} (h : n < 256) (l : List α) :
    putU 1 (l.take n).length = [BitVec.ofNat 8 (l.take n).length] :=
  putU_one_of_lt (Nat.lt_of_le_of_lt (List.length_take_le n l) h)

/-! ## TABLE_READ (R192) -/

theorem outside_one_eq_true_iff {hi x : Nat} : outside 1 hi x = true ↔ x = 0 ∨ hi < x := by
  simp [outside]

theorem outside_one_eq_false {hi x : Nat} (hlo : 1 ≤ x) (hhi : x ≤ hi) : outside 1 hi x = false := by
  simp [outside, Nat.ne_of_gt hlo, hhi]

/-- Only the tables 0 to 8 have words. -/
theorem le_eight_of_lt_tableSize {t i : Nat} (h : i < tableSize t) : t ≤ 8 := by
  by_contra hid
  have hsize : tableSize t = 0 := List.getD_eq_default _ _ (by simp [tableSizes]; omega)
  omega

theorem tableReadRequest_of_bad {t bank start count : Nat} (s : State)
    (h : 8 < t ∨ tableSize t ≤ start ∨ 1 < bank ∨ count = 0 ∨ 24 < count) :
    tableReadRequest t bank start count s = (s, [0x03]) := by
  rw [← outside_one_eq_true_iff] at h
  exact if_pos h

/-- A TABLE_READ in range answers from the copy that it names: bank 0 ACTIVE, bank 1 SHADOW (R192). -/
theorem tableReadRequest_of_copy {t bank start count : Nat} {s : State} {copy : TableCopy} (hstart : start < tableSize t)
    (hbank : bank ≤ 1) (hlo : 1 ≤ count) (hhi : count ≤ 24)
    (hcopy : (if bank = 0 then s.banks.active else s.banks.shadow)[t]? = some copy) :
    tableReadRequest t bank start count s = (s,
      [0x00, BitVec.ofNat 8 ((copy.words.drop start).take count).length, BitVec.ofNat 8 (if copy.valid then 1 else 0)] ++
        wordBytes s.banks.generation ++ [BitVec.ofNat 8 s.banks.status.code] ++
        ((copy.words.drop start).take count).flatMap wordBytes) := by
  have hgood : ¬ (8 < t ∨ tableSize t ≤ start ∨ 1 < bank ∨ outside 1 24 count = true) := by
    have hid := le_eight_of_lt_tableSize hstart
    rw [outside_one_eq_true_iff]
    omega
  have hread : (if bank = 0 then s.banks.active else s.banks.shadow).getD t (.reset 0) = copy := by
    rw [List.getD_eq_getElem?_getD, hcopy, Option.getD_some]
  simp only [tableReadRequest, if_neg hgood, hread, putU_length_take (Nat.lt_of_le_of_lt hhi (by decide)), putU_flagCode,
    putU_two_toNat, BankStatus.putU_code]
  simp [Status.code]

/-! ## LOG_READ (R170) -/

theorem logFields_eq (r : LogRecord) :
    logFields r = wordBytes r.sequence ++ putU 1 r.code ++ [BitVec.ofNat 8 r.kind.code] ++ longBytes r.seconds ++
      [BitVec.ofNat 8 (if r.timeSet then 1 else 0)] ++ putU 1 r.cycle ++ putS 4 r.context := by
  rw [logFields, putU_two_toNat, LogKind.putU_code, putU_four_toNat, putU_flagCode]

theorem logReadResponse_of_bad {sequence : Word} {count : Nat} (s : State) (h : count = 0 ∨ 3 < count) :
    logReadResponse sequence count s = [0x03] :=
  if_pos (outside_one_eq_true_iff.mpr h)

theorem logReadResponse_of_count {sequence : Word} {count : Nat} (s : State) (hlo : 1 ≤ count) (hhi : count ≤ 3) :
    logReadResponse sequence count s =
      [0x00] ++ wordBytes s.log.oldest ++ putU 1 s.log.records.length ++
        [BitVec.ofNat 8 ((s.log.records.drop (s.log.offset sequence)).take count).length] ++
        ((s.log.records.drop (s.log.offset sequence)).take count).flatMap logFields := by
  simp only [logReadResponse, outside_one_eq_false hlo hhi, putU_two_toNat,
    putU_length_take (Nat.lt_of_le_of_lt hhi (by decide))]
  simp [Status.code]

end Sys2Proof.Machine

namespace Sys2Proof.Safety

open Sys2Proof.Machine

/-- Settles O8: both requests leave the state as it is, so each clause is what the request answers for its arguments. An
empty log's records are none from every sequence on, and its oldest sequence is whatever the log gives. -/
theorem tableReadAndLogReadAnswerTheState : Obligations.TableReadAndLogReadAnswerTheState := by
  intro len s hdue
  refine ⟨?_, ?_, ?_, ?_, ?_⟩
  · intro t bank start count hlen hbad
    exact exec_requestCommand_of_reads hdue hlen (tableReadRequest_of_bad s hbad)
  · intro t bank start count copy hlen hstart hlo hhi hcopy
    refine exec_requestCommand_of_reads hdue hlen ?_
    rcases hcopy with ⟨rfl, hactive⟩ | ⟨rfl, hshadow⟩
    · exact tableReadRequest_of_copy hstart (by decide) hlo hhi hactive
    · exact tableReadRequest_of_copy hstart (by decide) hlo hhi hshadow
  · intro sequence count hlen hbad
    exact exec_requestCommand_of_reads hdue hlen (congrArg (s, ·) (logReadResponse_of_bad s hbad))
  · intro sequence count hlen hlo hhi hempty
    refine ⟨s.log.oldest, exec_requestCommand_of_reads hdue hlen (congrArg (s, ·) ?_)⟩
    rw [logReadResponse_of_count s hlo hhi, hempty, putU_one_of_lt (by decide)]
    simp
  · intro sequence count r rest hlen hlo hhi hcons
    refine exec_requestCommand_of_reads hdue hlen (congrArg (s, ·) ?_)
    rw [logReadResponse_of_count s hlo hhi, FaultLog.offset, FaultLog.oldest_of_cons hcons, funext logFields_eq]

end Sys2Proof.Safety
end

section
/-! SUPPORT. The response fields of IDENTIFY (R206) and FAULT_READ (R159, R213), and the two requests. -/

namespace Sys2Proof.Machine

open Sys2Proof.Safety

/-! ## IDENTIFY (R206) -/

theorem OpState.putU_code (o : OpState) : putU 1 o.code = [BitVec.ofNat 8 o.code] :=
  putU_one_of_lt (by cases o <;> decide)

theorem StrapMode.putU_code (m : StrapMode) : putU 1 m.code = [BitVec.ofNat 8 m.code] :=
  putU_one_of_lt (by cases m <;> decide)

theorem putU_partNumber : putU 2 Config.partNumber = [0x1B, 0xD0] := by decide

theorem putU_dieRevision : putU 1 Config.dieRevision = [0x01] := by decide

theorem identifyResponse_eq (s : State) :
    identifyResponse s =
      [0x00, 0x1B, 0xD0, 0x01, BitVec.ofNat 8 s.opState.code, BitVec.ofNat 8 s.strap.code] ++
        wordBytes s.banks.generation ++ [BitVec.ofNat 8 s.banks.status.code] := by
  simp only [identifyResponse, putU_partNumber, putU_dieRevision, OpState.putU_code, StrapMode.putU_code, putU_two_toNat,
    BankStatus.putU_code]
  simp [Status.code]

/-! ## FAULT_READ (R159, R213) -/

theorem putU_one_toNat (b : Byte) : putU 1 b.toNat = [b] := by
  rw [putU_one_of_lt b.isLt, BitVec.ofNat_toNat, BitVec.setWidth_eq]

theorem flagCode_le_one (b : Bool) : flagCode b ≤ 1 := by
  cases b <;> decide

/-- Each of the four marks stands in the flags with its own weight (R213). -/
theorem FaultRecord.flags_eq (r : FaultRecord) :
    r.flags = (if r.condition then 1 else 0) + (if r.latch then 2 else 0) + (if r.pending then 4 else 0) +
      (if r.reasserted then 8 else 0) := by
  simp only [FaultRecord.flags, flagCode, mul_ite, mul_one, mul_zero]

theorem FaultRecord.putU_flags (r : FaultRecord) : putU 1 r.flags = [BitVec.ofNat 8 r.flags] := by
  refine putU_one_of_lt ?_
  have hcondition := flagCode_le_one r.condition
  have hlatch := flagCode_le_one r.latch
  have hpending := flagCode_le_one r.pending
  have hreasserted := flagCode_le_one r.reasserted
  simp only [FaultRecord.flags]
  omega

/-- A severity is two bits of its FAT word and one more, 1 to 4 (R155, R216). -/
theorem State.faultEntry_severity_le_four (s : State) (k : Nat) : (s.faultEntry k).severity ≤ 4 := by
  simp only [State.faultEntry, Machine.faultEntry, bitsOf]
  omega

theorem State.putU_severity (s : State) (k : Nat) :
    putU 1 (s.faultEntry k).severity = [BitVec.ofNat 8 (s.faultEntry k).severity] :=
  putU_one_of_lt (Nat.lt_of_le_of_lt (s.faultEntry_severity_le_four k) (by decide))

theorem faultReadResponse_of_bad {code : Nat} (s : State) (h : 63 < code) : faultReadResponse code s = [0x03] :=
  if_pos h

theorem faultReadResponse_of_code {code : Byte} (s : State) (h : code.toNat ≤ 63) :
    faultReadResponse code.toNat s =
      [0x00, code, BitVec.ofNat 8 (s.fault code.toNat).flags] ++ putU 1 (s.fault code.toNat).count ++
        putS 4 (s.fault code.toNat).context ++ longBytes (s.fault code.toNat).raiseTime ++
        [BitVec.ofNat 8 (s.faultEntry code.toNat).severity] := by
  simp only [faultReadResponse, if_neg (Nat.not_lt.mpr h), putU_one_toNat, FaultRecord.putU_flags, putU_four_toNat,
    State.putU_severity]
  simp [Status.code]

/-! ## The slots that carry them (R202, R213) -/

theorem carried_identify {len : Nat} (h : 9 ≤ len) : Carried len .identify :=
  ⟨Nat.le_trans (by decide) h, h⟩

theorem carried_faultRead {len : Nat} (code : Byte) (h : 13 ≤ len) : Carried len (.faultRead code) :=
  ⟨Nat.le_trans (show 2 ≤ 13 by decide) h, h⟩

end Sys2Proof.Machine

namespace Sys2Proof.Safety

open Sys2Proof.Machine

/-- Settles O6: both requests leave the state as it is, so each clause is the response formed from the fields named. -/
theorem identifyAndFaultReadAnswerTheState : Obligations.IdentifyAndFaultReadAnswerTheState := by
  intro len s hdue
  refine ⟨?_, ?_, ?_⟩
  · intro hlen
    exact exec_requestCommand_of_reads hdue (carried_identify hlen) (congrArg (s, ·) (identifyResponse_eq s))
  · intro code hlen hbad
    exact exec_requestCommand_of_reads hdue (carried_faultRead code hlen)
      (congrArg (s, ·) (faultReadResponse_of_bad s hbad))
  · intro code hlen hgood
    rw [← FaultRecord.flags_eq]
    exact exec_requestCommand_of_reads hdue (carried_faultRead code hlen)
      (congrArg (s, ·) (faultReadResponse_of_code s hgood))

end Sys2Proof.Safety
end

section
/-! SUPPORT. What the fault manager does to the records it holds, one record at a time (R159 to R163, R167 to R169): each operation's
effect on the record named, that it leaves every other record, LOG_OVERWRITE's apart, and the number of records. -/

set_option Elab.async false

namespace Sys2Proof.Machine

open Sys2Proof.Safety

/-! ## The log's append (R168, R169) -/

/-- An append to a log that is not full places the record and does nothing else. -/
theorem logAppend_of_lt {s : State} (k : Nat) (kind : LogKind) (c : Int) (h : s.log.records.length < 64) :
    logAppend k kind c s = logPlace k kind c s := by
  unfold logAppend
  split
  · rfl
  · exact if_pos h

/-- An append to a full log places the record in the oldest one's stead, which LOG_OVERWRITE then names. -/
theorem logAppend_of_full {s : State} {oldest : LogRecord} {rest : List LogRecord} (k : Nat) (kind : LogKind) (c : Int)
    (hlog : s.log.records = oldest :: rest) (h : 64 ≤ s.log.records.length) :
    logAppend k kind c s = raiseOverwrite oldest.sequence (logPlace k kind c s) := by
  unfold logAppend
  rw [hlog] at h ⊢
  exact if_neg (Nat.not_lt.mpr h)

/-- What an append can do to a predicate on states: it places a record, and at most LOG_OVERWRITE follows. -/
theorem logAppend_induction {Q : State → Prop} {k : Nat} {kind : LogKind} {c : Int} {s : State}
    (hplace : Q (logPlace k kind c s)) (hover : ∀ w, Q (raiseOverwrite w (logPlace k kind c s))) :
    Q (logAppend k kind c s) := by
  unfold logAppend
  split
  · exact hplace
  · dsimp only
    split
    · exact hplace
    · exact hover _

/-- The same of an append that the code's log enable decides. -/
theorem logIf_induction {Q : State → Prop} {k : Nat} {kind : LogKind} {c : Int} {s : State} (hnone : Q s)
    (hplace : Q (logPlace k kind c s)) (hover : ∀ w, Q (raiseOverwrite w (logPlace k kind c s))) :
    Q (logIf k kind c s) := by
  unfold logIf
  split
  · exact logAppend_induction hplace hover
  · exact hnone

/-! ## Fault records under the log and the spotlight -/

@[simp] theorem faults_logPlace (k : Nat) (kind : LogKind) (c : Int) (s : State) :
    (logPlace k kind c s).faults = s.faults := rfl

@[simp] theorem faults_markSpotlight (k : Nat) (s : State) : (markSpotlight k s).faults = s.faults := rfl

@[simp] theorem fault_logPlace (k : Nat) (kind : LogKind) (c : Int) (s : State) (j : Nat) :
    (logPlace k kind c s).fault j = s.fault j := rfl

@[simp] theorem fault_markSpotlight (k : Nat) (s : State) (j : Nat) : (markSpotlight k s).fault j = s.fault j := rfl

/-- LOG_OVERWRITE changes its own record alone. -/
theorem faults_raiseOverwrite (w : Word) (s : State) :
    (raiseOverwrite w s).faults = s.faults.set fcLogOverwrite
      (raisedRecord false (s.faultEntry fcLogOverwrite) w.toNat s.clock.seconds (s.fault fcLogOverwrite)) := by
  unfold raiseOverwrite
  dsimp only
  split <;> rfl

theorem fault_raiseOverwrite_ne {j : Nat} (h : j ≠ fcLogOverwrite) (w : Word) (s : State) :
    (raiseOverwrite w s).fault j = s.fault j := by
  simp only [State.fault, faults_raiseOverwrite, List.getD_eq_getElem?_getD, List.getElem?_set_ne h.symm]

@[simp] theorem faults_length_raiseOverwrite (w : Word) (s : State) :
    (raiseOverwrite w s).faults.length = s.faults.length := by
  simp [faults_raiseOverwrite]

@[simp] theorem faults_length_logIf (k : Nat) (kind : LogKind) (c : Int) (s : State) :
    (logIf k kind c s).faults.length = s.faults.length :=
  logIf_induction (Q := fun t => t.faults.length = s.faults.length) rfl rfl (fun _ => by simp)

/-- A log record leaves every record but LOG_OVERWRITE's. -/
theorem fault_logIf_ne {j : Nat} (h : j ≠ fcLogOverwrite) (k : Nat) (kind : LogKind) (c : Int) (s : State) :
    (logIf k kind c s).fault j = s.fault j :=
  logIf_induction (Q := fun t => t.fault j = s.fault j) rfl rfl
    (fun w => by rw [fault_raiseOverwrite_ne h]; rfl)

/-- A log with room leaves every record. -/
theorem faults_logIf_of_lt {s : State} (h : s.log.records.length < 64) (k : Nat) (kind : LogKind) (c : Int) :
    (logIf k kind c s).faults = s.faults := by
  unfold logIf
  split
  · rw [logAppend_of_lt k kind c h]; rfl
  · rfl

theorem fault_logIf_of {s : State} {j : Nat} (h : s.log.records.length < 64 ∨ j ≠ fcLogOverwrite) (k : Nat)
    (kind : LogKind) (c : Int) : (logIf k kind c s).fault j = s.fault j := by
  rcases h with h | h
  · rw [State.fault, faults_logIf_of_lt h]; rfl
  · exact fault_logIf_ne h k kind c s

/-! ## Raise, end and clear of one record (R160 to R162) -/

@[simp] theorem faults_length_setFault (k : Nat) (r : FaultRecord) (s : State) :
    (s.setFault k r).faults.length = s.faults.length := by
  simp

/-- A raise of a level code that is PRESENT changes its context alone (R154). -/
theorem raiseRecord_of_present {s : State} {k : Nat} (c : Int) (hl : levelCode k = true) (hp : (s.fault k).condition = true) :
    raiseRecord k c s = s.setFault k { s.fault k with context := c } := by
  unfold raiseRecord
  simp [hl, hp]

/-- Any other raise writes the record, marks the spotlight and logs (R160). -/
theorem raiseRecord_of_absent {s : State} {k : Nat} (c : Int) (h : levelCode k = false ∨ (s.fault k).condition = false) :
    raiseRecord k c s = logIf k .raised c (markSpotlight k
      (s.setFault k (raisedRecord (levelCode k) (s.faultEntry k) c s.clock.seconds (s.fault k)))) := by
  unfold raiseRecord
  rcases h with h | h <;> simp [h]

/-- What a raise can do, case by case. -/
theorem raiseRecord_induction {Q : State → Prop} {k : Nat} {c : Int} {s : State}
    (hpresent : levelCode k = true → (s.fault k).condition = true → Q (s.setFault k { s.fault k with context := c }))
    (hrose : levelCode k = false ∨ (s.fault k).condition = false → Q (logIf k .raised c (markSpotlight k
      (s.setFault k (raisedRecord (levelCode k) (s.faultEntry k) c s.clock.seconds (s.fault k)))))) :
    Q (raiseRecord k c s) := by
  cases hl : levelCode k
  · rw [raiseRecord_of_absent c (.inl hl)]; exact hrose (.inl hl)
  · cases hp : (s.fault k).condition
    · rw [raiseRecord_of_absent c (.inr hp)]; exact hrose (.inr hp)
    · rw [raiseRecord_of_present c hl hp]; exact hpresent hl hp

/-- An end of a condition already ABSENT changes nothing (R154). -/
theorem endRecord_of_absent {s : State} {k : Nat} (h : (s.fault k).condition = false) : endRecord k s = s := by
  simp [endRecord, h]

/-- Under LATCHING an end changes the record alone (R161). -/
theorem endRecord_of_latching {s : State} {k : Nat} (h : (s.fault k).condition = true)
    (hl : (s.faultEntry k).latching = true) :
    endRecord k s = s.setFault k { s.fault k with condition := false, reasserted := false } := by
  simp [endRecord, h, hl]

/-- Under SELF_CLEARING it clears the latch and is logged (R161). -/
theorem endRecord_of_selfClearing {s : State} {k : Nat} (h : (s.fault k).condition = true)
    (hl : (s.faultEntry k).latching = false) :
    endRecord k s = logIf k .ended (s.fault k).context
      (s.setFault k { s.fault k with condition := false, latch := false, reasserted := false }) := by
  simp [endRecord, h, hl]

/-- What an end can do, case by case. -/
theorem endRecord_induction {Q : State → Prop} {k : Nat} {s : State} (habsent : (s.fault k).condition = false → Q s)
    (hlatching : Q (s.setFault k { s.fault k with condition := false, reasserted := false }))
    (hclearing : Q (logIf k .ended (s.fault k).context
      (s.setFault k { s.fault k with condition := false, latch := false, reasserted := false }))) :
    Q (endRecord k s) := by
  cases hc : (s.fault k).condition
  · rw [endRecord_of_absent hc]; exact habsent hc
  · cases hl : (s.faultEntry k).latching
    · rw [endRecord_of_selfClearing hc hl]; exact hclearing
    · rw [endRecord_of_latching hc hl]; exact hlatching

/-- A clear of a code that is ABSENT, but latched or pending, clears both marks and is logged (R162). -/
theorem clearRecord_of_absent {s : State} {k : Nat} (h : (s.fault k).condition = false)
    (hm : (s.fault k).latch = true ∨ (s.fault k).pending = true) :
    clearRecord k s = logIf k .cleared (s.fault k).context
      (s.setFault k { s.fault k with latch := false, pending := false }) := by
  unfold clearRecord
  rcases hm with hm | hm <;> simp [h, hm]

/-- A clear of a code that is PRESENT reasserts it, once (R162). -/
theorem clearRecord_of_present {s : State} {k : Nat} (h : (s.fault k).condition = true)
    (hr : (s.fault k).reasserted = false) :
    clearRecord k s = logIf k .reasserted (s.fault k).context (markSpotlight k (s.setFault k
      { s.fault k with
        reasserted := true, count := bump 255 (s.fault k).count, raiseTime := s.clock.seconds,
        pending := (s.fault k).pending || (s.faultEntry k).reportable })) := by
  simp [clearRecord, h, hr]

/-- A clear with nothing to clear, or of a code reasserted already, changes nothing (R162). -/
theorem clearRecord_of_idle {s : State} {k : Nat}
    (h : ((s.fault k).condition = false ∧ (s.fault k).latch = false ∧ (s.fault k).pending = false) ∨
      ((s.fault k).condition = true ∧ (s.fault k).reasserted = true)) : clearRecord k s = s := by
  unfold clearRecord
  rcases h with ⟨hc, hl, hp⟩ | ⟨hc, hr⟩
  · simp [hc, hl, hp]
  · simp [hc, hr]

/-- What a clear can do, case by case. -/
theorem clearRecord_induction {Q : State → Prop} {k : Nat} {s : State} (hidle : Q s)
    (hcleared : (s.fault k).condition = false → Q (logIf k .cleared (s.fault k).context
      (s.setFault k { s.fault k with latch := false, pending := false })))
    (hreasserted : (s.fault k).condition = true → Q (logIf k .reasserted (s.fault k).context (markSpotlight k (s.setFault k
      { s.fault k with
        reasserted := true, count := bump 255 (s.fault k).count, raiseTime := s.clock.seconds,
        pending := (s.fault k).pending || (s.faultEntry k).reportable })))) :
    Q (clearRecord k s) := by
  by_cases hi : ((s.fault k).condition = false ∧ (s.fault k).latch = false ∧ (s.fault k).pending = false) ∨
      ((s.fault k).condition = true ∧ (s.fault k).reasserted = true)
  · rw [clearRecord_of_idle hi]; exact hidle
  · cases hc : (s.fault k).condition
    · rw [clearRecord_of_absent hc (by grind)]; exact hcleared hc
    · rw [clearRecord_of_present hc (by grind)]; exact hreasserted hc

end Sys2Proof.Machine
end

section
/-! SUPPORT. How an invariant is carried through a step. `Managed` says what the fault manager can do to its own fields, `lawView`
and `Sized` what of the state any law reads; `Keeps` gathers what a law has to withstand of the blocks' operations, and
`FreeOfMoves` says that a law which no move concerns withstands it. -/

set_option Elab.async false

namespace Sys2Proof.Machine

open Sys2Proof.Safety

/-! ## What the fault manager does to its own fields -/

/-- From `s` the fault manager comes to the second state by placing log records, by a change of the spotlight and by writing fault
records, whose condition it sets only for a level code (R154, R160). -/
inductive Managed (s : State) : State → Prop where
  | refl : Managed s s
  | place {t : State} (k : Nat) (kind : LogKind) (c : Int) : Managed s t → Managed s (logPlace k kind c t)
  | spot {t : State} (sp : Option Spotlight) : Managed s t → Managed s { t with spotlight := sp }
  | record {t : State} (k : Nat) (r : FaultRecord) : Managed s t →
      (r.condition = true → levelCode k = true ∨ (t.fault k).condition = true) → Managed s (t.setFault k r)

namespace Managed

variable {s t u : State}

theorem trans (h : Managed s t) (h' : Managed t u) : Managed s u := by
  induction h' with
  | refl => exact h
  | place k kind c _ ih => exact ih.place k kind c
  | spot sp _ ih => exact ih.spot sp
  | record k r _ hr ih => exact ih.record k r hr

theorem mark (h : Managed s t) (k : Nat) : Managed s (markSpotlight k t) := h.spot _

theorem overwrite (h : Managed s t) (w : Word) : Managed s (raiseOverwrite w t) := by
  unfold raiseOverwrite
  dsimp only
  have hr := (h.record fcLogOverwrite (raisedRecord false (t.faultEntry fcLogOverwrite) w.toNat t.clock.seconds
    (t.fault fcLogOverwrite)) (by simp [raisedRecord])).mark fcLogOverwrite
  split
  · exact hr.place _ _ _
  · exact hr

theorem log (h : Managed s t) (k : Nat) (kind : LogKind) (c : Int) : Managed s (logIf k kind c t) :=
  logIf_induction h (h.place k kind c) (fun w => (h.place k kind c).overwrite w)

theorem raised (h : Managed s t) (k : Nat) (c : Int) : Managed s (raiseRecord k c t) :=
  raiseRecord_induction (fun hl _ => h.record k _ (fun _ => .inl hl))
    (fun _ => ((h.record k _ (fun hc => .inl hc)).mark k).log k _ _)

theorem ended (h : Managed s t) (k : Nat) : Managed s (endRecord k t) :=
  endRecord_induction (fun _ => h) (h.record k _ (by simp)) ((h.record k _ (by simp)).log k _ _)

theorem cleared (h : Managed s t) (k : Nat) : Managed s (clearRecord k t) :=
  clearRecord_induction h (fun _ => (h.record k _ (by exact .inr)).log k _ _) (fun _ => ((h.record k _ (by exact .inr)).mark k).log k _ _)

theorem latched (h : Managed s t) (k : Nat) : Managed s (fatSwapLatch t k) := by
  unfold fatSwapLatch
  dsimp only
  split
  · exact (h.record k _ (by exact .inr)).log k _ _
  · exact h

theorem watched (h : Managed s t) (j : Nat) : Managed s (fatSwapWatch t j) := by
  unfold fatSwapWatch
  split
  · exact h.ended _
  · exact h

theorem settled (h : Managed s t) (carried : Bool) : Managed s (settleSpotlight carried t) := by
  unfold settleSpotlight
  split
  · exact h
  · dsimp only
    split
    · exact (h.spot none).record _ _ (by exact .inr)
    · exact h.spot none

theorem foldl {f : State → Nat → State} (hf : ∀ {v : State} (k : Nat), Managed s v → Managed s (f v k)) (ks : List Nat)
    (h : Managed s t) : Managed s (ks.foldl f t) := by
  induction ks generalizing t with
  | nil => exact h
  | cons k ks ih => exact ih (hf k h)

/-- Nothing but the fault manager's own fields has changed. -/
theorem outside (h : Managed s t) : outsideFaults t = outsideFaults s := by
  induction h with
  | refl => rfl
  | place k kind c _ ih => exact ih
  | spot sp _ ih => exact ih
  | record k r _ _ ih => exact ih

theorem faults_length (h : Managed s t) : t.faults.length = s.faults.length := by
  induction h with
  | refl => rfl
  | place k kind c _ ih => exact ih
  | spot sp _ ih => exact ih
  | record k r _ _ ih => rw [faults_length_setFault]; exact ih

end Managed

/-! ## The condition of a code under raises, ends and clears -/

theorem condition_setFault {s : State} {j k : Nat} {r : FaultRecord} (h : j = k → r.condition = (s.fault k).condition) :
    (s.setFault k r).condition j = s.condition j := by
  by_cases hj : k = j
  · subst hj
    by_cases hk : k < s.faults.length
    · rw [State.condition, fault_setFault_same hk, h rfl]; rfl
    · have hset : s.setFault k r = s := by
        simp only [State.setFault, List.set_eq_of_length_le (Nat.not_lt.mp hk)]
      rw [hset]
  · rw [State.condition, fault_setFault_ne hj]; rfl

theorem condition_logIf_level {s : State} {j : Nat} (h : levelCode j = true) (k : Nat) (kind : LogKind) (c : Int) :
    (logIf k kind c s).condition j = s.condition j := by
  rw [State.condition, fault_logIf_ne (by rintro rfl; exact absurd h (by decide))]; rfl

/-- A raise of a level code does not end the condition of any. -/
theorem condition_raiseRecord {s : State} {j : Nat} (hj : levelCode j = true) (hp : s.condition j = true) (k : Nat) (c : Int) :
    (raiseRecord k c s).condition j = true := by
  have hset : ∀ r : FaultRecord, (j = k → r.condition = true) → (s.setFault k r).condition j = true := by
    intro r hr
    rw [condition_setFault (fun hjk => by subst hjk; rw [hr rfl]; exact hp.symm)]
    exact hp
  refine raiseRecord_induction (Q := fun t => t.condition j = true) (fun _ hk => hset _ (fun _ => hk)) (fun _ => ?_)
  rw [condition_logIf_level hj]
  exact hset _ (fun hjk => by subst hjk; exact hj)

/-- An end leaves the condition of every other level code. -/
theorem condition_endRecord_ne {s : State} {j k : Nat} (hj : levelCode j = true) (h : j ≠ k) :
    (endRecord k s).condition j = s.condition j :=
  endRecord_induction (Q := fun t => t.condition j = s.condition j) (fun _ => rfl)
    (condition_setFault (fun hjk => absurd hjk h))
    ((condition_logIf_level hj ..).trans (condition_setFault (fun hjk => absurd hjk h)))

/-- A clear leaves the condition of every level code (R162). -/
theorem condition_clearRecord {s : State} {j : Nat} (hj : levelCode j = true) (k : Nat) :
    (clearRecord k s).condition j = s.condition j :=
  clearRecord_induction (Q := fun t => t.condition j = s.condition j) rfl
    (fun _ => (condition_logIf_level hj ..).trans (condition_setFault (fun hjk => by subst hjk; rfl)))
    (fun _ => (condition_logIf_level hj ..).trans (condition_setFault (fun hjk => by subst hjk; rfl)))

/-! ## What of the state a law reads -/

/-- The lists whose sizes only the shape of the state speaks of (R3, R7, R22, R23, R39, R63, R77, R113). -/
def Sized (s : State) : Prop :=
  s.entryHits.length = 48 ∧ s.thermal.rises.length = 12 ∧
  (s.envelope.history = [] ∨ s.envelope.history.length = 8) ∧
  (s.tracker.history = [] ∨ s.tracker.history.length = 8) ∧
  s.rx0.seen.length ≤ 2 ∧ s.hold.stored ≤ 1024 ∧ s.hold.bytes.length ≤ s.hold.stored ∧
  s.outLane.recv.length ≤ 1024 ∧ s.retLane.recv.length ≤ 1024

/-- The fields that a law which no move concerns reads, but for those of `Sized`; all others at their reset values. -/
def lawView (s : State) : State :=
  { State.cleared .normal false false false with
    flight := s.flight, opState := s.opState, points := s.points, banks := { s.banks with lastExchange := none }
    envelope := { Envelope.reset with limit := s.envelope.limit, tripSeen := s.envelope.tripSeen }
    faults := s.faults, summary := s.summary, log := s.log
    supervision := { s.supervision with limit := 0, waiting := false } }

/-- The fields that any law reads, but for those of `Sized`: also the move, its claim and grant, and the edge timer. -/
def moveView (s : State) : State :=
  { lawView s with
    arbiter := { Arbiter.reset with yawClaim := s.arbiter.yawClaim, yawGrant := s.arbiter.yawGrant }
    tracker := { Tracker.reset false false false with timer := s.tracker.timer }
    sequencer := { s.sequencer with commits := 0, counts := 0 } }

/-- What a law withstands of the blocks' operations: a change of fields that no law reads, points written and never FORCED, a
lower limit, what the fault manager does, ends and steps of a move, and grants. MASTER_SILENT (R178) stands through all of
them. -/
structure Keeps (P : State → Prop) : Prop where
  quiet {s t : State} : P s → moveView t = moveView s → (Sized s → Sized t) → P t
  points {s : State} (ps : List Point) : ps.length = s.points.length →
    (∀ n, 32 ≤ n → n ≤ 63 → (ps.getD n .reset).quality = .forced → (s.point n).quality = .forced) →
    P s → P { s with points := ps }
  limit {s : State} (l : Nat) : (s.envelope.tripSeen = true → l = 0) → P s →
    P { s with envelope := { s.envelope with limit := l } }
  managed {s t : State} : Managed s t → (s.condition fcMasterSilent = true → t.condition fcMasterSilent = true) → P s →
    P (handHold s.summary.yawHold (recomputeSince s t))
  abort {s : State} : P s → P (abortMove s)
  stop {s : State} : P s → P (stopMove s)
  steps {s : State} (d : Int) : P s → P (handStep d s)
  take {s : State} (r : MoveRecord) : s.summary.yawHold = false → P s → P (takeMove r s)
  grants {s : State} : P s → P (handGrant s.arbiter.yawGrant.isSome (lowerFan (lowerPump (writeGrants s))))
  enter {s : State} (k : Nat) : s.sequencer.phase = .running ∨ s.sequencer.step ≠ 0 → P s → P (enterStep k s)
  edgeTimer {s : State} : s.tracker.timer.isSome = true → P s → P (startEdgeTimer s)

/-- What a law withstands that no move concerns. -/
structure FreeOfMoves (P : State → Prop) : Prop where
  quiet {s t : State} : P s → lawView t = lawView s → (Sized s → Sized t) → P t
  points {s : State} (ps : List Point) : ps.length = s.points.length →
    (∀ n, 32 ≤ n → n ≤ 63 → (ps.getD n .reset).quality = .forced → (s.point n).quality = .forced) →
    P s → P { s with points := ps }
  limit {s : State} (l : Nat) : (s.envelope.tripSeen = true → l = 0) → P s →
    P { s with envelope := { s.envelope with limit := l } }
  managed {s t : State} : Managed s t → (s.condition fcMasterSilent = true → t.condition fcMasterSilent = true) → P s →
    P (recomputeSince s t)

/-- An output write forces no point (R44). -/
theorem output_not_forced {s : State} {n m : Nat} {v : Int}
    (h : ((s.points.set n { value := v, quality := .fresh, age := 0 }).getD m .reset).quality = .forced) :
    (s.point m).quality = .forced := by
  by_cases hnm : n = m
  · subst hnm
    by_cases hn : n < s.points.length
    · simp [hn] at h
    · simpa [List.set_eq_of_length_le (Nat.not_lt.mp hn), State.point] using h
  · simpa [State.point, hnm] using h

/-! ## A law that no move concerns -/

/-- Fields that no such law reads may change, as long as the sizes stand. -/
theorem FreeOfMoves.upd {P : State → Prop} (h : FreeOfMoves P) {s t : State} (hs : P s)
    (hv : lawView t = lawView s := by rfl) (hz : Sized s → Sized t := by exact id) : P t :=
  h.quiet hs hv hz

section
variable {P : State → Prop} (h : FreeOfMoves P) {s : State} (hs : P s)
include h hs

theorem free_output (n : Nat) (v : Int) : P (outputWrite n v s) :=
  h.points _ (by simp) (fun _ _ _ hf => output_not_forced hf) hs

theorem free_writePattern (k : Nat) : P (writePattern k s) :=
  free_output h (free_output h (free_output h (free_output h (free_output h hs 36 _) 37 _) 38 _) 39 _) 60 _

theorem free_setYawMode (m : YawMode) : P (setYawMode m s) :=
  free_output h (h.upd hs) 59 _

theorem free_raiseQuiet (k : Nat) (c : Int) : P (raiseQuiet k c s) :=
  h.managed (Managed.refl.raised k c) (fun hp => condition_raiseRecord (by decide) hp k c) hs

theorem free_endQuiet {k : Nat} (hk : k ≠ fcMasterSilent) : P (endQuiet k s) :=
  h.managed (Managed.refl.ended k) (fun hp => by rw [condition_endRecord_ne (by decide) hk.symm]; exact hp) hs

theorem free_judgeQuiet {k : Nat} (hk : k ≠ fcMasterSilent) (present : Bool) (c : Int) : P (judgeQuiet k present c s) := by
  unfold judgeQuiet
  split
  · exact free_raiseQuiet h hs k c
  · split
    · exact free_endQuiet h hs hk
    · exact hs

theorem free_blockRefused : P (blockRefused s) := by
  have hb : P { s with decision := { s.decision with blocked := true } } := h.upd hs
  unfold blockRefused
  dsimp only
  refine free_judgeQuiet h ?_ (by decide) _ _
  split
  · exact free_judgeQuiet h hb (by decide) _ _
  · exact hb

theorem free_decisionMoveEnd (mode : YawMode) (cause : EndCause) : P (decisionMoveEnd mode cause s) := by
  have hd : P { s with decision := { s.decision with startDwell := 0 } } := h.upd hs
  have hseek : ∀ u : State, P u → P (if mode = .seek ∧ u.decision.mode = .seek then
      setYawMode .hold (raiseQuiet fcSeekFailed u.tracker.heading u) else u) := by
    intro u hu
    split
    · exact free_setYawMode h (free_raiseQuiet h hu _ _) _
    · exact hu
  unfold decisionMoveEnd
  apply hseek
  split
  · exact free_blockRefused h hd
  · exact hd

theorem free_trackerStepEntry (k : Nat) (motion : Bool) (d : Int) : P (trackerStepEntry k motion d s) := by
  unfold trackerStepEntry startEdgeTimer
  split
  · exact h.upd hs
  · split
    · exact h.upd hs
    · exact h.upd hs

theorem free_enterParked : P (enterParked s) :=
  free_trackerStepEntry h (h.upd (free_writePattern h hs 0)) 0 false 0

theorem free_endMove (cause : EndCause) : P (endMove cause s) := by
  have hend : ∀ (mode : YawMode) (u : State), P u → P (decisionMoveEnd mode cause { u with
      sequencer := { u.sequencer with record := none, phase := .none }
      arbiter := { u.arbiter with yawClaim := none, yawGrant := none } }) :=
    fun mode u hu => free_decisionMoveEnd h (h.upd hu) mode cause
  unfold endMove
  split
  · exact hs
  · apply hend
    split
    · exact hs
    · exact free_enterParked h hs

theorem free_enterStepOnce (k : Nat) (start : Option Bool) : P (enterStepOnce k start s) := by
  have hw : P { writePattern k s with
      sequencer := { (writePattern k s).sequencer with step := k, commits := 0, counts := 0 } } :=
    h.upd (free_writePattern h hs k)
  unfold enterStepOnce
  apply free_trackerStepEntry h
  split
  · refine h.upd hw (hz := fun hz => ?_)
    obtain ⟨hits, rises, voltages, -, rest⟩ := hz
    exact ⟨hits, rises, voltages, .inr (by simp [trackerMoveStart]), rest⟩
  · exact hw

theorem free_enterStepChain (fuel k : Nat) (start : Option Bool) : P (enterStepChain fuel k start s) := by
  induction fuel generalizing k start s with
  | zero => exact hs
  | succ fuel ih =>
    unfold enterStepChain
    dsimp only
    split
    · exact free_endMove h (free_enterParked h hs) _
    · split
      · exact ih (free_enterStepOnce h hs k start) _ _
      · exact free_enterStepOnce h hs k start

theorem free_abortMove : P (abortMove s) := by
  unfold abortMove
  split
  · exact hs
  · exact free_endMove h hs _

theorem free_handHold (before : Bool) : P (handHold before s) := by
  unfold handHold
  split
  · exact free_abortMove h hs
  · exact hs

theorem free_stopMove : P (stopMove s) := by
  unfold stopMove enterStep
  split
  · exact hs
  · split
    · exact hs
    · exact free_enterStepChain h hs _ _ _
  · exact free_endMove h hs _
  · exact free_endMove h hs _

theorem free_handStep (d : Int) : P (handStep d s) := by
  have hq : ∀ q : Sequencer, P { s with sequencer := q } := fun q => h.upd hs
  unfold handStep enterStep
  dsimp only
  split
  · exact hq _
  · split
    · exact free_enterStepChain h (hq _) _ _ _
    · exact hq _

theorem free_takeMove (r : MoveRecord) : P (takeMove r s) := by
  unfold takeMove
  split
  · exact h.upd hs
  · exact hs

theorem free_pumpWrite (interval : Nat) (v : Int) : P (pumpWrite interval v s) :=
  h.upd (free_output h hs 40 v)

theorem free_lowerPump : P (lowerPump s) := by
  unfold lowerPump
  split
  · exact free_pumpWrite h hs _ _
  · exact hs

theorem free_lowerFan : P (lowerFan s) := by
  unfold lowerFan
  split
  · exact free_output h hs _ _
  · exact hs

theorem free_withdrawMove : P (withdrawMove s) := by
  unfold withdrawMove
  split
  · split
    · exact free_endMove h hs _
    · exact h.upd (free_enterParked h hs)
  · exact hs

theorem free_withdrawGrant : P (withdrawGrant s) := by
  unfold withdrawGrant raise
  split
  · exact free_withdrawMove h (free_handHold h (free_raiseQuiet h hs _ _) _)
  · exact hs

theorem free_gainGrant : P (gainGrant s) := by
  unfold gainGrant
  split
  · exact hs
  · split
    · split
      · exact free_enterStepChain h (h.upd hs) _ _ _
      · exact free_endMove h hs _
    · exact hs

theorem free_handGrant (held : Bool) : P (handGrant held s) := by
  unfold handGrant
  split
  · exact free_withdrawGrant h hs
  · split
    · exact free_gainGrant h hs
    · exact hs

end

theorem lawView_of_moveView {s t : State} (h : moveView t = moveView s) : lawView t = lawView s := by
  have hv : lawView (moveView t) = lawView (moveView s) := congrArg lawView h
  exact hv

/-- A law that no move concerns withstands all that the blocks do. -/
theorem FreeOfMoves.keeps {P : State → Prop} (h : FreeOfMoves P) : Keeps P where
  quiet hs hv := h.quiet hs (lawView_of_moveView hv)
  points := h.points
  limit := h.limit
  managed hm hc hs := free_handHold h (h.managed hm hc hs) _
  abort := free_abortMove h
  stop := free_stopMove h
  steps d hs := free_handStep h hs d
  take r _ hs := free_takeMove h hs r
  grants hs := free_handGrant h (free_lowerFan h (free_lowerPump h (h.upd hs))) _
  enter k _ hs := free_enterStepChain h hs _ _ _
  edgeTimer _ hs := h.upd hs

end Sys2Proof.Machine
end

section
/-! SUPPORT. Every operation of a block keeps a law that withstands what `Keeps` gathers. -/

set_option Elab.async false

namespace Sys2Proof.Machine

open Sys2Proof.Safety

/-- Fields that no law reads may change, as long as the sizes stand. -/
theorem Keeps.upd {P : State → Prop} (h : Keeps P) {s t : State} (hs : P s)
    (hv : moveView t = moveView s := by rfl) (hz : Sized s → Sized t := by exact id) : P t :=
  h.quiet hs hv hz

theorem recomputeSince_of_latches {before s : State} (h : s.faults.map (·.latch) = before.faults.map (·.latch)) :
    recomputeSince before s = s := if_pos h

theorem handHold_of_eq {before : Bool} {s : State} (h : s.summary.yawHold = before) : handHold before s = s := by
  subst h
  simp [handHold]

section
variable {P : State → Prop} (h : Keeps P) {s : State} (hs : P s)
include h hs

/-! ## Faults (R154 to R163, R167) -/

theorem keeps_raise (k : Nat) (c : Int) : P (raise k c s) :=
  h.managed (Managed.refl.raised k c) (fun hp => condition_raiseRecord (by decide) hp k c) hs

theorem keeps_endCondition {k : Nat} (hk : k ≠ fcMasterSilent) : P (endCondition k s) :=
  h.managed (Managed.refl.ended k) (fun hp => by rw [condition_endRecord_ne (by decide) hk.symm]; exact hp) hs

/-- A condition may be judged, but for MASTER_SILENT's end. -/
theorem keeps_judge {k : Nat} {present : Bool} (hk : k ≠ fcMasterSilent ∨ present = true) (c : Int) :
    P (judge k present c s) := by
  unfold judge
  split
  · exact keeps_raise h hs k c
  · split
    next hp =>
      rcases hk with hk | rfl
      · exact keeps_endCondition h hs hk
      · simp at hp
    · exact hs

theorem keeps_raiseAll (fs : List (Nat × Int)) : P (raiseAll fs s) := by
  unfold raiseAll
  induction fs generalizing s with
  | nil => exact hs
  | cons f fs ih => exact ih (keeps_raise h hs _ _)

theorem keeps_clearFault (k : Nat) : P (clearFault k s) :=
  h.managed (Managed.refl.cleared k) (fun hp => by rw [condition_clearRecord (by decide)]; exact hp) hs

theorem keeps_clearAllFaults : P (clearAllFaults s) := by
  have hstands : ∀ (ks : List Nat) (t : State), t.condition fcMasterSilent = true →
      (ks.foldl (fun acc k => clearRecord k acc) t).condition fcMasterSilent = true := by
    intro ks
    induction ks with
    | nil => exact fun t ht => ht
    | cons k ks ih => exact fun t ht => ih _ (by rw [condition_clearRecord (by decide)]; exact ht)
  exact h.managed (Managed.refl.foldl (fun k hv => hv.cleared k) _) (hstands _ s) hs

theorem keeps_settleSpotlight (carried : Bool) : P (settleSpotlight carried s) := by
  have hlatch : (settleSpotlight carried s).faults.map (·.latch) = s.faults.map (·.latch) ∧
      (s.condition fcMasterSilent = true → (settleSpotlight carried s).condition fcMasterSilent = true) := by
    unfold settleSpotlight
    split
    · exact ⟨rfl, id⟩
    next sp _ =>
      dsimp only
      split
      · refine ⟨?_, fun hp => ?_⟩
        · apply List.ext_getElem?
          intro i
          by_cases hi : sp.code = i
          · subst hi
            by_cases hlt : sp.code < s.faults.length
            · simp [State.setFault, State.fault, hlt]
            · simp [State.setFault, hlt]
          · simp [State.setFault, hi]
        · rw [condition_setFault (fun hj => by rw [← hj])]
          exact hp
      · exact ⟨rfl, id⟩
  have hk := h.managed (Managed.refl.settled carried) hlatch.2 hs
  have hhold : (settleSpotlight carried s).summary.yawHold = s.summary.yawHold :=
    by
    have hout := ((Managed.refl (s := s)).settled carried).outside
    have hsummary := congrArg State.summary hout
    exact congrArg Summary.yawHold hsummary
  rw [recomputeSince_of_latches hlatch.1, handHold_of_eq hhold] at hk
  exact hk

theorem keeps_watchUpdate (j : Nat) : P (watchUpdate s j) := by
  have hcode : fcWatch j ≠ fcMasterSilent := by
    simp only [fcWatch, fcMasterSilent]
    omega
  have hjudged : ∀ becomes ends : Bool, P (if becomes then raise (fcWatch j) (s.pointValue (watchOf s.fat j).point) s
      else if ends then endCondition (fcWatch j) s else s) := by
    intro becomes ends
    cases becomes
    · cases ends
      · exact hs
      · exact keeps_endCondition h hs hcode
    · exact keeps_raise h hs _ _
  unfold watchUpdate
  dsimp only
  refine iteInduction (fun _ => ?_) (fun _ => hs)
  exact hjudged _ _

theorem keeps_watchesUpdate : P (watchesUpdate s) := by
  unfold watchesUpdate
  generalize List.range 16 = l
  induction l generalizing s with
  | nil => exact hs
  | cons j l ih => exact ih (keeps_watchUpdate h hs j)

/-! ## Output writes (R44) -/

theorem keeps_output (n : Nat) (v : Int) : P (outputWrite n v s) :=
  h.points _ (by simp) (fun _ _ _ hf => output_not_forced hf) hs

theorem keeps_writeFaultOutputs : P (writeFaultOutputs s) := keeps_output h (keeps_output h hs 45 _) 61 _

theorem keeps_writeHeading : P (writeHeading s) :=
  keeps_output h (keeps_output h (keeps_output h hs 42 _) 43 _) 63 _

theorem keeps_writePattern (k : Nat) : P (writePattern k s) :=
  keeps_output h (keeps_output h (keeps_output h (keeps_output h (keeps_output h hs 36 _) 37 _) 38 _) 39 _) 60 _

theorem keeps_setYawMode (m : YawMode) : P (setYawMode m s) := keeps_output h (h.upd hs) 59 _

theorem keeps_pumpWrite (interval : Nat) (v : Int) : P (pumpWrite interval v s) := h.upd (keeps_output h hs 40 v)

theorem keeps_lowerPump : P (lowerPump s) := by
  unfold lowerPump
  split
  · exact keeps_pumpWrite h hs _ _
  · exact hs

/-! ## Points (R42 to R49) -/

theorem keeps_evaluateStale : P (evaluateStale s) := by
  unfold evaluateStale
  split
  · exact keeps_judge h hs (.inl (by decide)) _
  · exact keeps_judge h hs (.inl (by decide)) _

theorem keeps_evaluateForced (n : Nat) : P (evaluateForced n s) := keeps_judge h hs (.inl (by decide)) _

theorem keeps_agePoints (advance : Nat) : P (agePoints advance s) := by
  refine keeps_evaluateStale h (h.points _ (by simp) (fun n _ _ hf => ?_) hs)
  rw [List.getD_eq_getElem?_getD, List.getElem?_mapIdx] at hf
  rw [State.point, List.getD_eq_getElem?_getD]
  cases hp : s.points[n]? with
  | none => rw [hp] at hf; exact hf
  | some p =>
    rw [hp] at hf
    simp only [Option.map_some, Option.getD_some, agePoint] at hf ⊢
    split at hf
    · cases hf
    · exact hf

end

theorem commitPoint_length (ps : List Point) (n : Nat) (v : Int) : (commitPoint ps n v).length = ps.length := by
  unfold commitPoint
  split <;> simp

theorem commitPoints_length (ps : List Point) (values : List (Nat × Int)) :
    (commitPoints ps values).length = ps.length := by
  unfold commitPoints
  induction values generalizing ps with
  | nil => rfl
  | cons x values ih => exact (ih _).trans (commitPoint_length ..)

/-- A commit forces no point (R43). -/
theorem commitPoints_not_forced {ps : List Point} {values : List (Nat × Int)} {m : Nat}
    (hf : ((commitPoints ps values).getD m .reset).quality = .forced) : (ps.getD m .reset).quality = .forced := by
  unfold commitPoints at hf
  induction values generalizing ps with
  | nil => exact hf
  | cons x values ih =>
    have hx : ((commitPoint ps x.1 x.2).getD m .reset).quality = .forced := ih hf
    unfold commitPoint at hx
    split at hx
    · exact hx
    · exact output_not_forced (s := { State.reset with points := ps }) hx

section
variable {P : State → Prop} (h : Keeps P) {s : State} (hs : P s)
include h hs

theorem keeps_commit (values : List (Nat × Int)) : P (commit values s) :=
  keeps_evaluateStale h (h.points _ (commitPoints_length ..) (fun _ _ _ hf => commitPoints_not_forced hf) hs)

theorem keeps_pointForceRequest (n : Nat) (v : Int) : P (pointForceRequest n v s).1 := by
  unfold pointForceRequest
  dsimp only
  split
  next hst =>
    refine keeps_evaluateForced h (keeps_evaluateStale h (h.points _ (by simp) (fun m hlo hhi hf => ?_) hs)) n
    have hne : n ≠ m := by
      rintro rfl
      simp only [forceStatus, if_neg (by omega : ¬ n ≤ 31), if_pos hhi] at hst
      cases hst
    simpa [State.point, hne] using hf
  · exact hs

theorem keeps_pointReleaseRequest (n : Nat) : P (pointReleaseRequest n s).1 := by
  unfold pointReleaseRequest
  split
  · refine keeps_evaluateStale h (keeps_evaluateForced h (h.points _ (by simp) (fun m _ _ hf => ?_) hs) n)
    by_cases hnm : n = m
    · subst hnm
      by_cases hn : n < s.points.length
      · simp only [List.getD_eq_getElem?_getD, List.getElem?_set_self hn, Option.getD_some, releasePoint] at hf
        by_cases hq : (s.point n).quality = .forced
        · exact hq
        · rwa [if_neg hq] at hf
      · simpa [List.set_eq_of_length_le (Nat.not_lt.mp hn), State.point] using hf
    · simpa [State.point, hnm] using hf
  · exact hs

/-! ## The envelope unit (R52 to R70) -/

theorem keeps_rideThroughUpdate : P (rideThroughUpdate s) := by
  have hh : P { s with envelope := { s.envelope with
      history := enterVoltage (s.pointValue 0) s.envelope.history
      vAvg := some (averageOf (figure s.drtG 6) (enterVoltage (s.pointValue 0) s.envelope.history)) } } := by
    refine h.upd hs (hz := fun hz => ?_)
    obtain ⟨hits, rises, voltages, rest⟩ := hz
    refine ⟨hits, rises, .inr ?_, rest⟩
    rcases voltages with hv | hv
    · simp [enterVoltage, hv]
    · have hne : s.envelope.history ≠ [] := by
        intro hnil
        simp [hnil] at hv
      simp [enterVoltage, hv, hne]
  have tripped : ∀ {u : State} {ended : Nat} (v : Int), ended ≠ fcMasterSilent → P u → P (enterTripped ended v u) :=
    fun v he hu => keeps_judge h (keeps_judge h (h.upd hu) (.inl he) _) (.inl (by decide)) _
  have sag : ∀ {u : State} (v : Int), P u → P (enterSag v u) :=
    fun v hu => keeps_judge h (h.upd hu) (.inl (by decide)) _
  have swell : ∀ {u : State} (v : Int), P u → P (enterSwell v u) :=
    fun v hu => keeps_judge h (h.upd hu) (.inl (by decide)) _
  have normal : ∀ {u : State}, P u → P (enterNormal u) := fun hu => h.upd hu
  unfold rideThroughUpdate
  dsimp only
  split
  · unfold normalRule
    split_ifs
    · exact sag _ hh
    · exact swell _ hh
    · exact hh
  · unfold sagRule
    dsimp only
    split_ifs
    · exact tripped _ (by decide) (h.upd hh)
    · exact keeps_judge h (h.upd hh) (.inl (by decide)) _
    · exact h.upd hh
  · unfold swellRule
    dsimp only
    split_ifs
    · exact tripped _ (by decide) (h.upd hh)
    · exact keeps_judge h (normal (h.upd hh)) (.inl (by decide)) _
    · exact h.upd hh
  · unfold recoveryRule
    dsimp only
    split_ifs
    · exact sag _ (h.upd hh)
    · exact swell _ (h.upd hh)
    · exact normal (h.upd hh)
    · exact h.upd hh
  · unfold trippedRule
    dsimp only
    split_ifs
    · exact keeps_judge h hh (.inl (by decide)) _
    · exact normal (keeps_judge h hh (.inl (by decide)) _)

theorem keeps_writeEnvelope (f : Int) : P (writeEnvelope f s) :=
  keeps_output h (keeps_output h (keeps_output h (keeps_output h (keeps_output h (keeps_output h hs 32 _) 33 _) 34 _)
    35 _) 62 _) 58 _

theorem keeps_envelopeUpdate (written : List Nat) : P (envelopeUpdate written s) := by
  have hlimit : ∀ (u : State) (target ramp sag : Nat) (f : Int), P u → P (writeEnvelope f { u with envelope :=
      { u.envelope with limit := newLimit target u.envelope.limit ramp u.envelope.tripSeen, lastSagFactor := sag } }) :=
    fun u target ramp sag f hu => keeps_writeEnvelope h (h.upd
      (h.limit (newLimit target u.envelope.limit ramp u.envelope.tripSeen) (fun ht => by simp [newLimit, ht]) hu)) f
  unfold envelopeUpdate
  dsimp only
  refine keeps_judge h (hlimit _ _ _ _ _ ?_) (.inl (by decide)) _
  split
  · exact keeps_rideThroughUpdate h hs
  · exact hs

/-! ## The arbiter (R98 to R106) -/

theorem keeps_arbiterEvaluate : P (arbiterEvaluate s) := keeps_judge h (h.grants hs) (.inl (by decide)) _

theorem keeps_arbiterPltSwap : P (arbiterPltSwap s) := keeps_lowerPump h (h.upd hs)

/-! ## The thermal unit (R76 to R92) -/

theorem keeps_moduleUpdate (m : Nat) : P (moduleUpdate s m) := by
  unfold moduleUpdate
  dsimp only
  split
  · refine keeps_output h (h.upd hs (hz := fun hz => ?_)) _ _
    obtain ⟨hits, rises, rest⟩ := hz
    exact ⟨hits, by simpa using rises, rest⟩
  · exact hs

theorem keeps_junctionUpdate : P (junctionUpdate s) := by
  have hfold : ∀ (ms : List Nat) (u : State), P u → P (ms.foldl moduleUpdate u) := by
    intro ms
    induction ms with
    | nil => exact fun u hu => hu
    | cons m ms ih => exact fun u hu => ih _ (keeps_moduleUpdate h hu m)
  have hlast : ∀ u : State, P u → P (match u.hottest with | some t => outputWrite 44 t u | none => u) := by
    intro u hu
    split
    · exact keeps_output h hu _ _
    · exact hu
  unfold junctionUpdate
  apply hlast
  apply hfold
  split
  · exact hs
  · refine h.upd hs (hz := fun hz => ?_)
    obtain ⟨hits, -, rest⟩ := hz
    exact ⟨hits, by simp, rest⟩

theorem keeps_judgeLive {k : Nat} (hk : k ≠ fcMasterSilent) (point : Nat) (present : Int → Bool) :
    P (judgeLive k point present s) := by
  unfold judgeLive
  dsimp only
  split
  · exact keeps_judge h hs (.inl hk) _
  · exact hs

theorem keeps_thermalConditions : P (thermalConditions s) := by
  unfold thermalConditions
  exact keeps_judgeLive h (keeps_judgeLive h (keeps_judge h hs (.inl (by decide)) _) (by decide) _ _) (by decide) _ _

theorem keeps_pumpUpdate : P (pumpUpdate s) := keeps_pumpWrite h (h.upd hs) _ _

theorem keeps_fanUpdate : P (fanUpdate s) := keeps_output h (h.upd hs) 41 _

theorem keeps_thermalUpdate : P (thermalUpdate s) :=
  keeps_fanUpdate h (keeps_pumpUpdate h (keeps_thermalConditions h (keeps_junctionUpdate h hs)))

theorem keeps_thermalSecond : P (thermalSecond s) := by
  unfold thermalSecond
  split
  · split
    · dsimp only
      split
      · exact h.upd hs
      · exact h.upd hs
    · exact hs
  · exact hs

theorem keeps_thermalMinute : P (thermalMinute s) := by
  unfold thermalMinute
  split
  · split
    · split
      · exact h.upd hs
      · dsimp only
        split
        · exact h.upd hs
        · exact h.upd hs
    · exact hs
  · exact hs

/-! ## The yaw decision (R138 to R149) -/

theorem keeps_judgeTwistLimit : P (judgeTwistLimit s) := by
  have hj : P (judge fcTwistLimit s.twistLimit s.tracker.twist s) := keeps_judge h hs (.inl (by decide)) _
  unfold judgeTwistLimit
  dsimp only
  split
  · exact h.abort hj
  · exact hj

theorem keeps_judgeTwist : P (judgeTwist s) := keeps_judgeTwistLimit h (keeps_judge h hs (.inl (by decide)) _)

theorem keeps_setBlock (b : Bool) : P (setBlock b s) := by
  unfold setBlock
  dsimp only
  split
  · exact keeps_judgeTwist h (h.upd hs)
  · exact keeps_judgeTwistLimit h (h.upd hs)

theorem keeps_handMove (c : Int) (target : TargetKind) : P (handMove c target s) := by
  unfold handMove
  dsimp only
  split
  · exact keeps_setBlock h hs _
  next hhold => exact h.take _ (by simpa using hhold) (keeps_setBlock h hs _)

theorem keeps_planMove (c : Int) (target : TargetKind) (exempt : Bool) : P (planMove c target exempt s) := by
  unfold planMove
  split_ifs
  · exact hs
  · exact hs
  · exact keeps_raise h hs _ _
  · exact keeps_handMove h hs _ _
  · split
    · exact keeps_handMove h hs _ _
    · exact keeps_setBlock h hs _

theorem keeps_modeChanges (windTaken : Bool) : P (modeChanges windTaken s) := by
  have hmode : ∀ m, P (setYawMode m s) := keeps_setYawMode h hs
  unfold modeChanges
  dsimp only
  split
  · refine iteInduction (fun _ => keeps_judge h (hmode _) (.inl (by decide)) _) (fun _ => ?_)
    exact iteInduction (fun _ => hmode _) (fun _ => hs)
  · split
    · exact keeps_judge h (hmode _) (.inl (by decide)) _
    · exact hs
  · split
    · exact hmode _
    · exact hs
  · exact hs

theorem keeps_setDwell (n : Nat) : P (setDwell n s) := h.upd hs

theorem keeps_windPlanning : P (windPlanning s) := by
  have hd : ∀ n, P (setDwell n s) := keeps_setDwell h hs
  unfold windPlanning
  dsimp only
  split
  · exact hd _
  · split
    · exact hd _
    · exact iteInduction (fun _ => keeps_setDwell h (keeps_planMove h (hd _) _ _ _) _) (fun _ => hd _)

theorem keeps_planning (dirTaken : Bool) : P (planning dirTaken s) := by
  unfold planning
  split
  · split
    · exact keeps_windPlanning h hs
    · exact hs
  · split
    · exact keeps_windPlanning h hs
    · exact hs
  · split
    · exact keeps_planMove h hs _ _ _
    · exact hs
  · exact hs

theorem keeps_decisionUpdate (written : List Nat) : P (decisionUpdate written s) := by
  have hw : ∀ (b : Bool) (u : State), P u → P (if b then windUpdate u else u) := by
    intro b u hu
    split
    · exact h.upd hu
    · exact hu
  have hm : ∀ (b : Bool) (u : State), P u → P (if b then misalignUpdate u else u) := by
    intro b u hu
    split
    · exact h.upd hu
    · exact hu
  exact keeps_planning h (keeps_modeChanges h (keeps_judgeTwist h
    (hm _ _ (hw _ _ (keeps_output h hs 59 _)))) _) _

theorem keeps_yawModeRequest (m : Byte) : P (yawModeRequest m s).1 := by
  unfold yawModeRequest
  split
  · exact hs
  · split
    · exact hs
    · dsimp only
      have hstop : ∀ wanted, P (stopMove (setBlock false (setDwell 0 (setYawMode wanted s)))) :=
        fun wanted => h.stop (keeps_setBlock h (keeps_setDwell h (keeps_setYawMode h hs _) _) _)
      split
      · exact keeps_judge h (hstop _) (.inl (by decide)) _
      · exact hstop _

theorem keeps_yawTargetRequest (heading : Nat) (choice : Byte) : P (yawTargetRequest heading choice s).1 := by
  unfold yawTargetRequest
  split
  · exact hs
  · dsimp only
    split_ifs
    · exact hs
    · exact hs
    · exact hs
    · exact hs
    · exact keeps_raise h hs _ _
    · exact h.upd hs
    · split
      · exact keeps_setBlock h hs _
      · exact h.upd (keeps_handMove h hs _ _)

theorem keeps_yawSeekRequest : P (yawSeekRequest s).1 := by
  unfold yawSeekRequest
  split_ifs
  · exact hs
  · exact hs
  · exact hs
  · exact keeps_raise h hs _ _
  · split
    · exact keeps_setBlock h hs _
    · dsimp only
      apply keeps_handMove h
      split
      · exact keeps_judge h (keeps_setYawMode h hs _) (.inl (by decide)) _
      · exact keeps_setYawMode h hs _

theorem keeps_decisionIndex : P (decisionIndex s) := by
  unfold decisionIndex
  split
  · exact h.stop (keeps_setYawMode h hs _)
  · exact hs

theorem keeps_decisionSecond : P (decisionSecond s) := by
  unfold decisionSecond
  split
  · dsimp only
    split
    · exact h.upd hs
    · exact h.upd hs
  · exact hs

theorem keeps_decisionMinute : P (decisionMinute s) := by
  unfold decisionMinute
  split
  · exact hs
  · split
    · exact h.upd hs
    · dsimp only
      split
      · exact h.upd hs
      · exact h.upd hs

theorem keeps_beginRest : P (beginRest s) := by
  have hj : P (judge fcDutyRest true s.decision.duty { s with decision := { s.decision with rest := some s.restTime } }) :=
    keeps_judge h (h.upd hs) (.inl (by decide)) _
  unfold beginRest
  dsimp only
  split
  · split
    · exact h.stop hj
    · exact hj
  · exact hj

theorem keeps_endRest : P (endRest s) := keeps_judge h (h.upd hs) (.inl (by decide)) _

/-! ## The heading tracker (R109 to R125) -/

theorem keeps_judgeTrackLost (before : Nat) : P (judgeTrackLost before s) := by
  unfold judgeTrackLost
  split
  · exact hs
  · exact keeps_judge h hs (.inl (by decide)) _

theorem keeps_enterEdgeInterval (previous : Option Micros) : P (enterEdgeInterval previous s) := by
  unfold enterEdgeInterval
  split
  · split
    · exact hs
    · unfold enterInterval
      split
      · exact hs
      next hne =>
        refine h.upd hs (hz := fun hz => ?_)
        obtain ⟨hits, rises, voltages, intervals, rest⟩ := hz
        refine ⟨hits, rises, voltages, .inr ?_, rest⟩
        rcases intervals with hi | hi
        · simp [hi] at hne
        · simp [List.length_take, hi]
  · exact hs

theorem keeps_restartEdgeTimer : P (restartEdgeTimer s) := by
  unfold restartEdgeTimer
  split
  next ht => exact h.edgeTimer ht hs
  · exact hs

theorem keeps_countedEdge (d : Int) (previous : Option Micros) : P (countedEdge d previous s) := by
  have hslip : ∀ (p : Prop) [Decidable p] (u : State), P u → P (if p then
      raise fcSlip u.tracker.slips { u with tracker := { u.tracker with slipRaised := true } } else u) := by
    intro p _ u hu
    split
    · exact keeps_raise h (h.upd hu) _ _
    · exact hu
  have hcount : ∀ (b : Bool) (u : State), P u →
      P (if b then { u with tracker := { u.tracker with slips := bump 65535 u.tracker.slips } } else u) := by
    intro b u hu
    split
    · exact h.upd hu
    · exact hu
  unfold countedEdge
  exact keeps_judgeTwist h (h.steps d (hslip _ _ (keeps_judgeTrackLost h (keeps_writeHeading h (hcount _ _
    (keeps_restartEdgeTimer h (keeps_enterEdgeInterval h (h.upd hs) _)))) _)))

theorem keeps_absorbedEdge (previous : Option Micros) : P (absorbedEdge previous s) := by
  have hw : ∀ (b : Bool) (u : State), P u → P (if b then writeHeading u else u) := by
    intro b u hu
    split
    · exact keeps_writeHeading h hu
    · exact hu
  unfold absorbedEdge
  exact keeps_judgeTrackLost h (hw _ _ (keeps_restartEdgeTimer h (keeps_enterEdgeInterval h (h.upd hs) _))) _

theorem keeps_rejectBounce : P (rejectBounce s) := by
  unfold rejectBounce
  split
  · exact hs
  · dsimp only
    split
    · exact keeps_raise h (h.upd hs) _ _
    · exact h.upd hs

theorem keeps_toothEdge (d : Int) : P (toothEdge d s) := by
  unfold toothEdge
  split
  · exact keeps_rejectBounce h hs
  · dsimp only
    split
    · exact keeps_absorbedEdge h (h.upd hs) _
    · exact keeps_countedEdge h (h.upd hs) _ _

theorem keeps_toothChange (changeA changeB : Bool) : P (toothChange changeA changeB s) := by
  have hc : ∀ a b : Bool, P { s with tracker := { s.tracker with filtA := a, filtB := b, quadA := a, quadB := b } } :=
    fun a b => h.upd hs
  unfold toothChange
  cases changeA
  · cases changeB
    · exact hs
    · exact keeps_toothEdge h (hc ..) _
  · cases changeB
    · exact keeps_toothEdge h (hc ..) _
    · exact keeps_raise h (hc ..) _ _

theorem keeps_indexReference : P (indexReference s) := by
  have hr : ∀ u : State, P u → P (decisionIndex (judgeTrackLost u.tracker.forcedRun (writeHeading { u with tracker :=
      { u.tracker with heading := u.indexPosition, quality := .referenced, deadReckon := 0, window := none,
                       forcedRun := 0 } }))) :=
    fun u hu => keeps_decisionIndex h (keeps_judgeTrackLost h (keeps_writeHeading h (h.upd hu)) _)
  unfold indexReference
  apply hr
  split
  · exact keeps_raise h hs _ _
  · exact hs

theorem keeps_indexChange (change : Bool) : P (indexChange change s) := by
  unfold indexChange
  split
  · dsimp only
    split
    · exact keeps_indexReference h (h.upd hs)
    · exact h.upd hs
  · exact hs

theorem keeps_takeTransitions (indexFirst : Bool) : P (takeTransitions indexFirst s) := by
  unfold takeTransitions filteredChanges
  split
  · exact keeps_toothChange h (keeps_indexChange h hs _) _ _
  · exact keeps_indexChange h (keeps_toothChange h hs _ _) _

theorem keeps_takeBeforeSample (a b index indexFirst : Bool) : P (takeBeforeSample a b index indexFirst s) := by
  unfold takeBeforeSample
  split
  · exact keeps_takeTransitions h hs _
  · exact hs

/-- A forced advance at the expiry of a RUNNING timer (R115, R116). -/
theorem keeps_expireEdgeTimer (ht : s.tracker.timer.isSome = true) : P (expireEdgeTimer s) := by
  have hstart : ∀ t : Tracker, t.timer = s.tracker.timer → t.history = s.tracker.history →
      P (startEdgeTimer { s with tracker := t }) := by
    intro t htimer hhistory
    refine h.edgeTimer (htimer ▸ ht) (h.upd hs (hv := ?_) (hz := fun hz => ?_))
    · simp only [moveView, lawView, htimer]
    · simpa only [Sized, hhistory] using hz
  unfold expireEdgeTimer forcedAdvance
  refine keeps_judgeTwist h (h.steps _ ?_)
  refine keeps_judgeTrackLost h ?_ _
  exact keeps_writeHeading h (hstart _ (by rfl) (by rfl))

theorem keeps_setHeadingRequest (count : Nat) : P (setHeadingRequest count s).1 := by
  unfold setHeadingRequest
  split_ifs
  · exact hs
  · exact hs
  · exact keeps_judgeTrackLost h (keeps_writeHeading h (h.upd hs)) _

theorem keeps_setTwistRequest (twist : Int) : P (setTwistRequest twist s).1 := by
  unfold setTwistRequest
  split_ifs
  · exact hs
  · exact hs
  · exact keeps_judgeTwist h (keeps_writeHeading h (h.upd hs))

theorem keeps_trackerYcfSwap (oldPpr : Nat) : P (trackerYcfSwap oldPpr s) := by
  unfold trackerYcfSwap
  dsimp only
  refine keeps_judge h ?_ (.inl (by decide)) _
  split
  · exact h.upd hs
  · exact keeps_writeHeading h (h.upd hs)

/-! ## The sequencer at a commit and at a timeout (R129, R130) -/

theorem keeps_stepTimeout : P (stepTimeout s) := by
  unfold stepTimeout
  dsimp only
  split
  · exact hs
  · split
    next hrun => exact h.enter _ (.inl hrun) (keeps_raise h hs _ _)
    · exact keeps_raise h hs _ _

theorem keeps_sequencerCommit (defer : Bool) : P (sequencerCommit defer s) := by
  have hw : P (writePattern s.sequencer.step s) := keeps_writePattern h hs _
  have hc : P { writePattern s.sequencer.step s with sequencer := { (writePattern s.sequencer.step s).sequencer with
      commits := bump 65535 (writePattern s.sequencer.step s).sequencer.commits } } := h.upd hw
  unfold sequencerCommit
  dsimp only
  split
  · exact hw
  next hstep =>
    split
    · exact h.enter _ (.inr hstep) hc
    · split
      · split
        · exact h.upd hw
        · exact keeps_stepTimeout h hc
      · exact hc

/-! ## The blocks of a return-lane commit (R12) -/

theorem keeps_runBlock (raises : List (Nat × Int)) (written : List Nat) (isLast : Bool) (b : Block) :
    P (runBlock raises written isLast b s) := by
  cases b
  case stagedFaults => exact keeps_raiseAll h hs _
  case envelope => exact keeps_envelopeUpdate h hs _
  case thermal => exact keeps_thermalUpdate h hs
  case arbiter => exact keeps_arbiterEvaluate h hs
  case decision => exact keeps_decisionUpdate h hs _
  case sequencer => exact keeps_sequencerCommit h hs _
  case tracker => exact keeps_writeHeading h hs
  case faultOutputs => exact keeps_writeFaultOutputs h hs
  case watches => exact keeps_watchesUpdate h hs

theorem keeps_runBlocks (raises : List (Nat × Int)) (written : List Nat) (blocks : List Block) :
    P (runBlocks raises written blocks s) := by
  induction blocks generalizing s with
  | nil => exact hs
  | cons b blocks ih => exact ih (keeps_runBlock h hs _ _ _ _)

theorem keeps_returnCommit (order : List Block) (e : Engine) : P (returnCommit order e s) :=
  keeps_runBlocks h (keeps_commit h hs _) _ _ _

/-! ## Bytes, slots and ports (R1 to R36) -/

theorem keeps_sendBytes (lane : Lane) (bs : List Byte) : P (sendBytes lane bs s) := by
  unfold sendBytes
  split
  · exact h.upd hs
  · split
    · exact hs
    · exact h.upd hs

/-- A lane's engine may change, as long as the bytes received stay within the bound (R7). -/
theorem keeps_setEngine (lane : Lane) (e : Engine) (he : (s.engine lane).recv.length ≤ 1024 → e.recv.length ≤ 1024) :
    P (s.setEngine lane e) := by
  cases lane
  · refine h.upd hs (hz := fun hz => ?_)
    obtain ⟨hits, rises, voltages, intervals, seen, stored, bytes, out, ret⟩ := hz
    exact ⟨hits, rises, voltages, intervals, seen, stored, bytes, he out, ret⟩
  · refine h.upd hs (hz := fun hz => ?_)
    obtain ⟨hits, rises, voltages, intervals, seen, stored, bytes, out, ret⟩ := hz
    exact ⟨hits, rises, voltages, intervals, seen, stored, bytes, out, he ret⟩

theorem keeps_forwardHeld (lane : Lane) : P (forwardHeld lane s) := by
  unfold forwardHeld
  exact keeps_sendBytes h (keeps_setEngine h hs lane _ (by exact id)) _ _

theorem keeps_countHit (e : Nat) (f : EntryHits → EntryHits) : P (countHit e f s) := by
  refine h.upd hs (hz := fun hz => ?_)
  obtain ⟨hits, rest⟩ := hz
  exact ⟨by simpa [countHit] using hits, rest⟩

theorem keeps_mapStaging (lane : Lane) (f : Staging → Staging) : P (mapStaging lane f s) :=
  keeps_setEngine h hs lane _ (by exact id)

theorem keeps_applyAction (lane : Lane) (entry tag : Nat) (payload : List Byte) (a : FieldAction) :
    P (applyAction lane entry tag (payload, s) a).2 := by
  unfold applyAction
  split
  · exact keeps_countHit h (keeps_mapStaging h hs _ _) _ _
  · split
    · exact keeps_mapStaging h hs _ _
    · exact hs
    · unfold clampAction
      dsimp only
      split
      · exact hs
      · exact keeps_countHit h hs _ _
    · unfold checkAction
      dsimp only
      split
      · exact keeps_mapStaging h hs _ _
      · exact hs
    · exact hs

theorem keeps_applyEntry (lane : Lane) (position : Nat) (e : SlotEntry) (payload : List Byte) :
    P (applyEntry lane position e payload s).2 := by
  unfold applyEntry
  generalize e.actions = actions
  induction actions generalizing payload s with
  | nil => exact hs
  | cons a actions ih => exact ih (keeps_applyAction h hs ..) _

theorem keeps_slotApply (lane : Lane) : P (slotApply lane s) := by
  unfold slotApply
  dsimp only
  split
  · exact hs
  · exact keeps_forwardHeld h (keeps_setEngine h (keeps_applyEntry h hs ..) lane _ (by exact id)) lane

theorem keeps_overlayReport (contents : List Byte) : P (overlayReport contents s) := h.upd hs

theorem keeps_takeReport : P (takeReport s) := by
  unfold takeReport
  split
  · exact keeps_overlayReport h hs _
  · split
    · exact keeps_overlayReport h (h.upd hs) _
    · exact keeps_overlayReport h hs _

theorem keeps_writeService : P (writeService s) := by
  unfold writeService
  split
  · exact h.upd hs
  · exact hs

theorem keeps_addDue (d : Due) : P (s.addDue d) := h.upd hs

theorem keeps_setParse (lane : Lane) (p : Parse) : P (setParse lane p s) := keeps_setEngine h hs lane _ (by exact id)

theorem keeps_headerByte (lane : Lane) : P (headerByte lane s) := by
  unfold headerByte
  dsimp only
  split_ifs
  · exact hs
  · exact keeps_setParse h hs _ _
  all_goals first
    | exact keeps_setParse h (keeps_addDue h hs _) _ _
    | exact hs

theorem keeps_tagByte (lane : Lane) (b : Byte) : P (tagByte lane b s) := by
  unfold tagByte
  dsimp only
  split
  · exact keeps_setParse h hs _ _
  · split
    · exact keeps_setParse h hs _ _
    · exact keeps_setEngine h hs lane _ (by exact id)

theorem keeps_openSlot (lane : Lane) (tag : Byte) (len : Nat) : P (openSlot lane tag len s) := by
  unfold openSlot
  dsimp only
  split_ifs
  · unfold openReport
    split
    · exact keeps_overlayReport h hs _
    · exact keeps_addDue h hs _
  · exact hs
  · unfold openService
    split
    · exact h.upd hs
    · split
      · exact hs
      · exact keeps_addDue h hs _
  · exact hs
  · exact hs
  · unfold openMapped
    dsimp only
    split
    · split
      · split
        · exact keeps_addDue h (keeps_setEngine h hs lane _ (by exact id)) _
        · exact keeps_setEngine h hs lane _ (by exact id)
      · exact hs
    · exact hs

theorem keeps_lengthByte (lane : Lane) (tag b : Byte) : P (lengthByte lane tag b s) := by
  unfold lengthByte
  dsimp only
  split
  · exact keeps_setParse h hs _ _
  · exact keeps_openSlot h (keeps_setParse h hs _ _) _ _ _

theorem keeps_payloadByte (lane : Lane) (tag : Byte) (len left : Nat) : P (payloadByte lane tag len left s) := by
  unfold payloadByte
  dsimp only
  split
  · exact keeps_setEngine h hs lane _ (by exact id)
  · split
    · exact keeps_addDue h (keeps_setEngine h hs lane _ (by exact id)) _
    · exact keeps_setEngine h hs lane _ (by exact id)

theorem keeps_walkByte (lane : Lane) (b : Byte) : P (walkByte lane b s) := by
  unfold walkByte
  split
  · exact keeps_headerByte h hs _
  · exact keeps_tagByte h hs _ _
  · exact keeps_lengthByte h hs _ _ _
  · exact keeps_payloadByte h hs _ _ _ _
  · exact hs
  · exact hs

theorem keeps_beginReturn (b : Byte) : P (beginReturn b s) := by
  unfold beginReturn
  split
  · exact hs
  · exact h.upd hs

theorem keeps_feedByte (lane : Lane) (b : Byte) : P (feedByte lane b s) := by
  have hset : ∀ u : State, P u → P (u.setEngine lane { s.engine lane with
      recv := (s.engine lane).recv ++ [b], held := (s.engine lane).held ++ [(s.engine lane).overlay.headD b]
      overlay := (s.engine lane).overlay.drop 1 }) ∨ 1024 ≤ (s.engine lane).recv.length := by
    intro u hu
    by_cases hfull : 1024 ≤ (s.engine lane).recv.length
    · exact .inr hfull
    · exact .inl (keeps_setEngine h hu lane _ (fun _ => by simp; omega))
  unfold feedByte
  dsimp only
  split
  · exact keeps_addDue h hs _
  next hfull =>
    refine keeps_forwardHeld h (keeps_walkByte h ((hset _ ?_).resolve_right hfull) _ _) _
    split
    · exact keeps_beginReturn h hs _
    · exact hs

theorem keeps_setMode0 (m : RxMode) : P (setMode0 m s) := h.upd hs

theorem keeps_setMode2 (m : RxMode) : P (setMode2 m s) := h.upd hs

theorem keeps_setLine (port : RxId) (l : LineState) : P (setLine port l s) := by
  cases port
  · exact h.upd hs
  · exact h.upd hs

theorem keeps_emptyHold : P (emptyHold s) := by
  refine h.upd hs (hz := fun hz => ?_)
  obtain ⟨hits, rises, voltages, intervals, seen, -, -, lanes⟩ := hz
  exact ⟨hits, rises, voltages, intervals, seen, Nat.zero_le _, Nat.le_refl _, lanes⟩

/-- The bytes seen of a dropped frame may be set anew, two at most (R23). -/
theorem keeps_rx0 (r : RxPort) (hr : s.rx0.seen.length ≤ 2 → r.seen.length ≤ 2) : P { s with rx0 := r } := by
  refine h.upd hs (hz := fun hz => ?_)
  obtain ⟨hits, rises, voltages, intervals, seen, rest⟩ := hz
  exact ⟨hits, rises, voltages, intervals, hr seen, rest⟩

theorem keeps_ringOverrun : P (ringOverrun s) :=
  keeps_raise h (keeps_rx0 h hs _ (fun _ => Nat.zero_le _)) _ _

/-- A frame beginning on P1: the engine has received nothing yet. -/
theorem keeps_beginOut (source : OutSource) : P (beginOut source s) :=
  keeps_setEngine h (h.upd hs (t := { s with p1 := .begun })) .out (s.outLane.opened source) (fun _ => Nat.zero_le _)

theorem keeps_beginIsland : P (beginIsland s) := keeps_beginOut h (h.upd hs) _

theorem keeps_arbitrate : P (arbitrate s) := by
  unfold arbitrate arbitrateIsland
  split_ifs
  · exact hs
  · exact hs
  · exact keeps_beginOut h (h.upd hs) _
  · exact keeps_beginIsland h hs
  · exact h.upd hs
  · exact hs

theorem keeps_holdEnd (truncated : Bool) : P (holdEnd truncated s) := by
  unfold holdEnd
  dsimp only
  split
  · exact keeps_arbitrate h (keeps_emptyHold h (h.upd hs))
  · exact h.upd hs

theorem keeps_startAtP0 : P (startAtP0 s) := by
  unfold startAtP0
  split_ifs
  · exact keeps_rx0 h hs _ (fun _ => Nat.zero_le _)
  · refine keeps_setMode0 h (h.upd hs (hz := fun hz => ?_)) _
    obtain ⟨hits, rises, voltages, intervals, seen, -, -, lanes⟩ := hz
    exact ⟨hits, rises, voltages, intervals, seen, Nat.zero_le _, Nat.le_refl _, lanes⟩
  · exact keeps_beginOut h (keeps_setMode0 h hs _) _

theorem keeps_startAtP2 : P (startAtP2 s) :=
  keeps_setMode2 h (keeps_setEngine h hs .ret (s.retLane.opened .p0) (fun _ => Nat.zero_le _)) _

theorem keeps_storeHeld (b : Byte) : P (storeHeld b s) := by
  unfold storeHeld
  dsimp only
  split
  next hlt =>
    refine h.upd hs (hz := fun hz => ?_)
    obtain ⟨hits, rises, voltages, intervals, seen, stored, bytes, lanes⟩ := hz
    exact ⟨hits, rises, voltages, intervals, seen, hlt, by simpa using bytes, lanes⟩
  · exact h.upd hs

theorem keeps_byteAtP0 (b : Byte) : P (byteAtP0 b s) := by
  unfold byteAtP0
  split
  · exact hs
  · exact keeps_feedByte h hs _ _
  · exact keeps_storeHeld h hs _
  · exact keeps_rx0 h hs _ (fun _ => List.length_take_le ..)
  · exact hs

theorem keeps_byteAtP2 (b : Byte) : P (byteAtP2 b s) := by
  unfold byteAtP2
  split
  · exact keeps_feedByte h hs _ _
  · exact hs

theorem keeps_byteFromHold : P (byteFromHold s) := by
  unfold byteFromHold
  split
  · split
    next b rest hbytes =>
      refine keeps_feedByte h (h.upd hs (hz := fun hz => ?_)) _ _
      obtain ⟨hits, rises, voltages, intervals, seen, stored, bytes, lanes⟩ := hz
      rw [hbytes] at bytes
      exact ⟨hits, rises, voltages, intervals, seen, stored, Nat.le_of_succ_le bytes, lanes⟩
    · split
      · exact keeps_feedByte h hs _ _
      · exact hs
  · exact hs

theorem keeps_byteFromIsland : P (byteFromIsland s) := by
  unfold byteFromIsland
  split
  · split
    · exact keeps_feedByte h (h.upd hs) _ _
    · exact hs
  · exact hs

theorem keeps_frameByte (source : ByteSource) : P (frameByte source s) := by
  cases source
  · exact keeps_byteAtP0 h hs _
  · exact keeps_byteFromHold h hs
  · exact keeps_byteFromIsland h hs
  · exact keeps_byteAtP2 h hs _

theorem keeps_becomeIdle : P (becomeIdle s) := by
  unfold becomeIdle
  split
  · exact keeps_arbitrate h (h.upd hs)
  · exact hs

theorem keeps_returnFrameStart : P (returnFrameStart s) := by
  have hset : ∀ e : Engine, e.recv = s.retLane.recv → P { s with retLane := e } :=
    fun e he => keeps_setEngine h hs .ret e (fun hb => by rw [he]; exact hb)
  unfold returnFrameStart
  dsimp only
  split
  · exact hset _ rfl
  · split
    · split
      · exact h.upd (hset _ rfl)
      · exact keeps_raise h (hset _ (by rfl)) _ _
    · exact keeps_raise h (hset _ (by rfl)) _ _

/-! ## Frame ends (R8, R13, R14) -/

theorem keeps_sendTail (lane : Lane) : P (sendTail lane s) := keeps_sendBytes h hs lane _

theorem keeps_endOut (bad : Bool) : P (endOut bad s) :=
  h.upd (s := sendBytes .out (endCheck bad (sendTail .out s).p1.bytes) (sendTail .out s))
    (keeps_sendBytes h (keeps_sendTail h hs .out) .out _)

theorem keeps_endReturn (bad : Bool) : P (endReturn bad s) := by
  have hsend : ∀ u : State, P u → P { sendBytes .ret (endCheck bad (sendTail .ret u).p3.bytes) (sendTail .ret u) with
      p3 := { (sendBytes .ret (endCheck bad (sendTail .ret u).p3.bytes) (sendTail .ret u)).p3 with
        busy := false, ended := true } } :=
    fun u hu => h.upd (keeps_sendBytes h (keeps_sendBytes h hu .ret _) .ret _)
  unfold endReturn
  split
  · exact hs
  · apply hsend
    split
    · exact keeps_beginReturn h hs _
    · exact hs

theorem keeps_setBad (lane : Lane) (n : Nat) : P (setBad lane n s) := by
  unfold setBad
  cases lane
  · exact keeps_judge h (h.upd hs) (.inl (by decide)) _
  · exact keeps_judge h (h.upd hs) (.inl (by decide)) _

theorem keeps_countBad (lane : Lane) : P (countBad lane s) := keeps_setBad h hs _ _

theorem keeps_outCommit (e : Engine) : P (outCommit e s) := by
  unfold outCommit
  split
  · exact keeps_raiseAll h (keeps_commit h hs _) _
  · exact hs

theorem keeps_discardRest (lane : Lane) (source : OutSource) : P (discardRest lane source s) := by
  unfold discardRest
  split
  · exact keeps_setMode2 h hs _
  · exact keeps_setMode0 h hs _
  · split
    · exact keeps_emptyHold h hs
    · exact hs
  · exact hs

end

end Sys2Proof.Machine
end

section
/-! SUPPORT. A law carried through every command: what it has to withstand besides `Keeps` (`Steady` of the frames and the passing of
time, `Serves` of the requests), and that every command but PIN_RESET then keeps it. -/

set_option Elab.async false

namespace Sys2Proof.Machine

open Sys2Proof.Safety

/-! ## What a law withstands of frames and of time -/

/-- What a law withstands besides `Keeps`: frames leaving and entering the list, the swap, and the events of chapter 9. -/
structure Steady (P : State → Prop) : Prop extends Keeps P where
  flights {s : State} (l : List FlightRecord) : l.length ≤ s.flight.length →
    (∀ x ∈ l, ∃ r ∈ s.flight, x.generation = r.generation) → P s → P { s with flight := l }
  drain {s : State} : P s → P (bankDrain s)
  bind {s : State} : P s → P (pushOut s) → P (bindOut s)
  swap {s : State} (mask : Word) : s.banks.status = .scheduled mask → P s → P (swapExchange mask s)
  goodCycle {s : State} : P s → P (goodCycleEnd s)
  expire {s : State} : s.supervision.timer.isSome = true → P s → P (expireSupervision s)
  island {s : State} : s.supervision.islandTimer.isSome = true → P s → P (islandDue s)

/-- What a law `P` withstands of a request, which may leave it weakened to `R`: UNLOCK alone does (R198). -/
structure Serves (P R : State → Prop) : Prop extends Steady P where
  answer : Keeps R
  response {s : State} (l : List FlightRecord) : l.length ≤ s.flight.length →
    (∀ x ∈ l, ∃ r ∈ s.flight, x.generation = r.generation) → R s → R { s with flight := l }
  weaken {s : State} : P s → R s
  run {s : State} : s.opState = .pass → P s → P { s with opState := .run }
  pass {s : State} : s.opState = .run → P s → P { s with opState := .pass }
  arm {s : State} : P s → P { s with supervision :=
    { s.supervision with armed := true, limit := s.supervisionLimit, timer := some s.timebase } }
  soft {s : State} : P s → P (softCleared s)
  shadow {s : State} (l : List TableCopy) :
    (s.banks.active.map (fun c => c.words.length) = tableSizes → s.banks.shadow.map (fun c => c.words.length) = tableSizes →
      l.map (fun c => c.words.length) = tableSizes) → P s → P { s with banks := { s.banks with shadow := l } }
  schedule {s : State} (mask g : Word) : s.lockedMask mask = 0 → s.banks.status = .idle → P s → P { s with banks :=
    { s.banks with status := .scheduled mask, lastExchange := some { mask := mask, fromGeneration := g } } }
  lock {s : State} (mask : Word) : s.banks.status.isScheduled = false → P s → P (setLocks mask true s)
  unlock {s : State} (mask : Word) : P s → R (setLocks mask false s)
  discard {s : State} (q : Word) : P s → P { s with log := s.log.discard q }

@[simp] theorem keeping_recv (gone : List FlightRecord) (e : Engine) : (e.keeping gone).recv = e.recv := by
  unfold Engine.keeping
  split
  · split <;> rfl
  · rfl

/-- A list whose records are changed, each keeping its generation. -/
theorem mapped_generations {l : List FlightRecord} {f : FlightRecord → FlightRecord}
    (hf : ∀ r, (f r).generation = r.generation) : ∀ x ∈ l.map f, ∃ r ∈ l, x.generation = r.generation := by
  intro x hx
  obtain ⟨r, hr, rfl⟩ := List.mem_map.mp hx
  exact ⟨r, hr, hf r⟩

section
variable {P : State → Prop} (h : Steady P) {s : State} (hs : P s)
include h hs

/-! ## Frame starts (R15 to R18) -/

theorem steady_pushOut : P (pushOut s) := by
  unfold pushOut
  split
  next r rest hlist =>
    split
    · have hrest : P { s with flight := rest } :=
        h.flights rest (by simp [hlist]) (fun x hx => ⟨x, by simp [hlist, hx], rfl⟩) hs
      refine keeps_raise h.toKeeps (h.drain ?_) _ _
      exact keeps_setEngine h.toKeeps hrest .ret (s.retLane.keeping [r])
        (fun hb => by rw [keeping_recv]; exact hb)
    · exact hs
  · exact hs

theorem steady_swapIfScheduled : P (swapIfScheduled s) := by
  unfold swapIfScheduled
  split
  next mask hstatus => exact h.swap mask hstatus hs
  · exact hs

theorem steady_outFrameStart : P (outFrameStart s) := by
  have hcount : ∀ (u : State) (c : Nat), P u → P { u with prevCycle := some c } := fun u c hu => h.toKeeps.upd hu
  have hrestart : ∀ (b : Bool) (c : Int) (u : State), P u → P (if b then raise fcMasterRestart c u else u) := by
    intro b c u hu
    cases b
    · exact hu
    · exact keeps_raise h.toKeeps hu _ _
  have hbind : ∀ (a : Nat) (u : State), P u → P (bindOut (agePoints a (swapIfScheduled u))) := by
    intro a u hu
    have haged := keeps_agePoints h.toKeeps (steady_swapIfScheduled h hu) a
    exact h.bind haged (steady_pushOut h haged)
  exact hbind _ _ (hcount _ _ (hrestart _ _ _ (keeps_setEngine h.toKeeps hs .out _ (by exact id))))

theorem steady_frameStart (lane : Lane) : P (frameStart lane s) := by
  cases lane
  · exact steady_outFrameStart h hs
  · exact keeps_returnFrameStart h.toKeeps hs

/-! ## Frame ends (R11 to R14, R17) -/

theorem steady_setOutcome (e : Engine) (o : FrameOutcome) : P (setOutcome e o s) := by
  unfold setOutcome
  split
  · exact h.flights _ (by simp) (mapped_generations (fun r => by split <;> rfl)) hs
  · exact hs

theorem steady_outBadEnd (e : Engine) : P (outBadEnd e s) :=
  keeps_countBad h.toKeeps (steady_setOutcome h hs e .bad) .out

/-- The lane's part of an out-lane end, before the blocks are told. -/
theorem steady_outClosed (bad : Bool) : P { endOut bad s with outLane := s.outLane.closed } :=
  keeps_setEngine h.toKeeps (keeps_endOut h.toKeeps hs bad) .out s.outLane.closed (fun _ => Nat.zero_le _)

theorem steady_closeOut_truncated : P (closeOut true s) := by
  have hbad : (s.outLane.sound && !true) = false := Bool.and_false _
  simp only [closeOut, hbad]
  exact steady_outBadEnd h (steady_outClosed h hs _) _

theorem steady_removeRecord (e : Engine) : P (removeRecord e s) := by
  unfold removeRecord
  split
  · exact h.drain (h.flights _ (List.length_filter_le ..) (fun x hx => ⟨x, List.mem_of_mem_filter hx, rfl⟩) hs)
  · exact hs

theorem steady_returnGoodEnd (order : List Block) (e : Engine) : P (returnGoodEnd order e s) := by
  unfold returnGoodEnd
  refine keeps_settleSpotlight h.toKeeps (keeps_setBad h.toKeeps (steady_removeRecord h
    (keeps_raiseAll h.toKeeps ?_ _) _) _ _) _
  split
  · exact keeps_returnCommit h.toKeeps hs order e
  · exact hs

theorem steady_returnBadEnd (e : Engine) : P (returnBadEnd e s) :=
  keeps_settleSpotlight h.toKeeps (keeps_countBad h.toKeeps (steady_removeRecord h hs e) .ret) false

theorem steady_closeReturn (truncated : Bool) (order : List Block) : P (closeReturn truncated order s) := by
  have hclosed : ∀ bad : Bool, P { endReturn bad s with retLane := s.retLane.closed } := fun bad =>
    keeps_setEngine h.toKeeps (keeps_endReturn h.toKeeps hs bad) .ret s.retLane.closed (fun _ => Nat.zero_le _)
  unfold closeReturn
  dsimp only
  split
  · exact steady_returnGoodEnd h (hclosed _) order _
  · exact steady_returnBadEnd h (hclosed _) _

/-! ## Ends at the ports (R1, R7, R22, R23) -/

theorem steady_endAtP0_truncated : P (endAtP0 true s) := by
  have hmode : P (setMode0 .none s) := keeps_setMode0 h.toKeeps hs _
  unfold endAtP0
  dsimp only
  split
  · exact hmode
  · exact steady_closeOut_truncated h hmode
  · exact keeps_holdEnd h.toKeeps hmode _
  · exact keeps_ringOverrun h.toKeeps hmode
  · exact hmode

theorem steady_endAtP2 (truncated : Bool) (order : List Block) : P (endAtP2 truncated order s) := by
  have hmode : P (setMode2 .none s) := keeps_setMode2 h.toKeeps hs _
  unfold endAtP2
  dsimp only
  split
  · exact steady_closeReturn h hmode _ _
  · exact hmode

theorem steady_overlengthCut (lane : Lane) : P (overlengthCut lane s) := by
  have hrest : P (discardRest lane s.outLane.source s) := keeps_discardRest h.toKeeps hs lane _
  unfold overlengthCut
  cases lane
  · exact steady_closeOut_truncated h hrest
  · exact steady_closeReturn h hrest _ _

/-! ## Consequences (log entry 4) -/

theorem steady_minuteEvent (thermal decision : Bool) : P (minuteEvent thermal decision s) := by
  have hslips : P (trackerMinute s) := h.toKeeps.upd hs
  have hthermal : P (if thermal then thermalMinute (trackerMinute s) else trackerMinute s) := by
    split
    · exact keeps_thermalMinute h.toKeeps hslips
    · exact hslips
  unfold minuteEvent
  dsimp only
  split
  · exact keeps_decisionMinute h.toKeeps hthermal
  · exact hthermal

theorem steady_runDue (d : Due) : P (runDue d s) := by
  cases d with
  | frameStart lane => exact steady_frameStart h hs lane
  | slotApply lane => exact keeps_slotApply h.toKeeps hs lane
  | overlengthCut lane => exact steady_overlengthCut h hs lane
  | reportTaken => exact keeps_takeReport h.toKeeps hs
  | serviceWrite => exact keeps_writeService h.toKeeps hs
  | stepTimeout => exact keeps_stepTimeout h.toKeeps hs
  | minute thermal decision => exact steady_minuteEvent h hs thermal decision
  | restBegin => exact keeps_beginRest h.toKeeps hs
  | restEnd => exact keeps_endRest h.toKeeps hs
  | exerciseStart => exact h.toKeeps.upd hs
  | exerciseEnd => exact h.toKeeps.upd hs

theorem steady_takeUntil (wanted : Due → Bool) (fuel : Nat) : P (takeUntil wanted fuel s) := by
  induction fuel generalizing s with
  | zero => exact hs
  | succ fuel ih =>
    unfold takeUntil
    split
    · exact hs
    next d rest _ =>
      have hrun : P (runDue d { s with due := rest }) := steady_runDue h (h.toKeeps.upd hs) d
      dsimp only
      split
      · exact hrun
      · exact ih hrun

theorem steady_settle : P (settle s) := steady_takeUntil h hs _ _

theorem steady_takeDue (wanted : Due → Bool) : P (takeDue wanted s) := by
  unfold takeDue
  split
  · exact steady_takeUntil h hs _ _
  · exact hs

/-! ## The passing of time (R24, R172) -/

theorem steady_passTime (n : Nat) : P (s.passTime n) := h.toKeeps.upd hs

theorem steady_clockSecond (thermalFirst decisionFirst : Bool) : P (clockSecond thermalFirst decisionFirst s) := by
  have hthermal : ∀ (b : Bool) (u : State), P u → P (if b then settle (thermalMinute u) else u) := by
    intro b u hu
    cases b
    · exact hu
    · exact steady_settle h (keeps_thermalMinute h.toKeeps hu)
  have hdecision : ∀ (b : Bool) (u : State), P u → P (if b then settle (decisionMinute u) else u) := by
    intro b u hu
    cases b
    · exact hu
    · exact steady_settle h (keeps_decisionMinute h.toKeeps hu)
  have hminute : ∀ (b : Bool) (d : Due) (u : State), P u → P (if b then u.addDue d else u) := by
    intro b d u hu
    cases b
    · exact hu
    · exact keeps_addDue h.toKeeps hu d
  have htick : P (clockTick s) := h.toKeeps.upd hs
  exact hminute _ _ _ (keeps_decisionSecond h.toKeeps (keeps_thermalSecond h.toKeeps (hdecision _ _ (hthermal _ _ htick))))

/-- An event whose time is measured is taken. -/
theorem steady_runTimed {e : Timed} (ht : (s.timing e).isSome = true) : P (runTimed e s) := by
  cases e with
  | window => exact h.toKeeps.upd hs
  | lastEdge => exact h.toKeeps.upd hs
  | edgeTimer => exact keeps_expireEdgeTimer h.toKeeps hs (by simpa [State.timing] using ht)
  | second => exact steady_clockSecond h hs false false
  | supervision => exact h.expire (by simpa [State.timing] using ht) hs
  | island => exact h.island (by simpa [State.timing] using ht) hs

theorem steady_takeTimed (e : Timed) : P (takeTimed s e) := by
  unfold takeTimed
  split
  next hmoment =>
    have ht : (s.timing e).isSome = true := by
      cases htiming : s.timing e with
      | none => simp [htiming] at hmoment
      | some t => rfl
    exact steady_settle h (steady_runTimed h hs ht)
  · exact hs

theorem steady_takeMicrosecond (indexFirst : Bool) : P (takeMicrosecond indexFirst s) := by
  have hfold : ∀ (es : List Timed) (u : State), P u → P (es.foldl takeTimed u) := by
    intro es
    induction es with
    | nil => exact fun u hu => hu
    | cons e es ih => exact fun u hu => ih _ (steady_takeTimed h hu e)
  exact hfold _ _ (keeps_takeTransitions h.toKeeps hs indexFirst)

theorem steady_passThrough (indexFirst : Bool) (fuel n : Nat) : P (passThrough indexFirst fuel n s) := by
  induction fuel generalizing n s with
  | zero => exact steady_passTime h hs n
  | succ fuel ih =>
    unfold passThrough
    dsimp only
    split
    · exact steady_passTime h hs n
    · exact ih (steady_passTime h (steady_takeMicrosecond h (steady_passTime h hs _) indexFirst) 1) _

theorem steady_letPass (indexFirst : Bool) (n : Nat) : P (letPass indexFirst n s) := steady_passThrough h hs _ _ _

theorem steady_bringAbout {e : Timed} {run : State → State}
    (hrun : ∀ u : State, (u.timing e).isSome = true → P u → P (run u)) : P (bringAbout e run s) := by
  unfold bringAbout
  split
  · exact hs
  next t _ =>
    have hpassed : P (letPass false (s.left t) s) := steady_letPass h hs _ _
    dsimp only
    split
    next hstill => exact hrun _ (by rw [hstill]; rfl) hpassed
    · exact hpassed

theorem steady_filteredTransition (a b index : Bool) (held : Nat) (indexFirst : Bool) :
    P (filteredTransition a b index held indexFirst s) := by
  have hbefore := keeps_takeBeforeSample h.toKeeps hs a b index indexFirst
  exact steady_letPass h (h.toKeeps.upd hbefore) indexFirst held

theorem steady_idle : P (idle s) := by
  unfold idle
  split
  · exact steady_letPass h hs false 1
  · exact steady_settle h hs

end

/-! ## Requests (chapter 11) -/

/-- A write of the page of a table keeps its size (R191). -/
theorem placeWords_length {start : Nat} {new old : List Word} (h : start + new.length ≤ old.length) :
    (placeWords start new old).length = old.length := by
  simp only [placeWords, List.length_append, List.length_take, List.length_drop]
  omega

/-- A copy put in a table's place leaves all sizes, if it has its size. -/
theorem map_size_set {l : List TableCopy} {t : Nat} {c : TableCopy} {sizes : List Nat}
    (hl : l.map (fun c => c.words.length) = sizes) (hc : t < l.length → c.words.length = sizes.getD t 0) :
    (l.set t c).map (fun c => c.words.length) = sizes := by
  by_cases ht : t < l.length
  · subst hl
    have hsize := hc ht
    have hentry : (l.map (fun c => c.words.length)).getD t 0 = (l.map (fun c => c.words.length))[t]'(by simpa using ht) := by
      simp [ht]
    rw [List.map_set, hsize, hentry, List.set_getElem_self]
  · rw [List.set_eq_of_length_le (Nat.not_lt.mp ht), hl]

theorem size_of_sizes {l : List TableCopy} {t : Nat} (hl : l.map (fun c => c.words.length) = tableSizes) (ht : t < l.length) :
    (l.getD t (.reset 0)).words.length = tableSize t := by
  rw [tableSize, ← hl]
  simp [ht]

section
variable {P R : State → Prop} (h : Serves P R) {s : State} (hs : P s)
include h hs

theorem serves_refuseLocked (mask : Nat) : P (refuseLocked mask s).1 := keeps_raise h.toKeeps hs _ _

theorem serves_tableWriteRequest (t start : Nat) (words : List Word) : P (tableWriteRequest t start words s).1 := by
  unfold tableWriteRequest
  split
  · exact hs
  next hargs =>
    split
    · exact serves_refuseLocked h hs _
    · split
      · exact hs
      · refine h.shadow _ (fun hactive hshadow => map_size_set hshadow (fun ht => ?_)) hs
        have hsize : (s.shadow t).length = tableSize t := size_of_sizes hshadow ht
        rw [show tableSizes.getD t 0 = tableSize t from rfl, ← hsize]
        refine placeWords_length ?_
        rw [List.length_take, hsize, wordsPlaced]
        omega

theorem serves_copyRequest (mask : Word) : P (copyRequest mask s).1 := by
  have hfold : ∀ (ts : List Nat) (u : State), P u → P (ts.foldl copyTable u) := by
    intro ts
    induction ts with
    | nil => exact fun u hu => hu
    | cons t ts ih =>
      refine fun u hu => ih _ (h.shadow _ (fun hactive hshadow => map_size_set hshadow (fun ht => ?_)) hu)
      refine size_of_sizes hactive ?_
      have hlength := congrArg List.length (hactive.trans hshadow.symm)
      rw [List.length_map, List.length_map] at hlength
      omega
  unfold copyRequest
  split
  · exact hs
  · split
    · exact serves_refuseLocked h hs _
    · split
      · exact hs
      · exact hfold _ _ hs

theorem serves_exchangeRequest (mask g : Word) : P (exchangeRequest mask g s).1 := by
  unfold exchangeRequest
  split
  · exact hs
  · split
    · exact hs
    · split
      · exact serves_refuseLocked h hs _
      next hunlocked =>
        split
        · exact hs
        next hidle =>
          split
          · exact hs
          · split
            · exact hs
            · split
              · exact hs
              · exact h.schedule mask g (not_not.mp hunlocked) (by simpa [State.banksBusy] using hidle) hs

theorem serves_lockRequest (mask : Word) : P (lockRequest mask s).1 := by
  unfold lockRequest
  split
  · exact hs
  · split
    · exact hs
    next hnot => exact h.lock mask (by simpa using hnot) hs

theorem serves_unlockRequest (mask : Word) : R (unlockRequest mask s).1 := by
  unfold unlockRequest
  split
  · exact h.weaken hs
  · split
    · exact h.unlock mask hs
    · exact h.weaken (serves_refuseLocked h hs _)

theorem serves_softReset : P (softReset s) := by
  unfold softReset
  dsimp only
  split
  · exact h.soft hs
  · exact keeps_raise h.toKeeps (h.soft hs) _ _

theorem serves_runRequest : P (runRequest s).1 := by
  unfold runRequest
  split
  next hpass =>
    split
    · exact h.run hpass hs
    · exact hs
  · exact hs
  · exact hs

theorem serves_passRequest : P (passRequest s).1 := by
  unfold passRequest
  split
  · exact hs
  next hrun => exact h.pass hrun hs
  · exact hs

theorem serves_armResponse : P (armResponse s).1 := by
  unfold armResponse armRequest
  dsimp only
  split
  · exact hs
  · split
    · exact hs
    · exact h.arm hs

/-- Every request leaves the law, UNLOCK leaves it weakened. -/
theorem serves_serve (r : Request) : R (serve r s).1 := by
  cases r with
  | unlock mask => exact serves_unlockRequest h hs mask
  | identify => exact h.weaken hs
  | run => exact h.weaken (serves_runRequest h hs)
  | pass => exact h.weaken (serves_passRequest h hs)
  | softReset => exact h.weaken (serves_softReset h hs)
  | tableWrite t start words => exact h.weaken (serves_tableWriteRequest h hs ..)
  | tableRead t bank start count =>
    refine h.weaken ?_
    simp only [serve, tableReadRequest]
    split <;> exact hs
  | copy mask => exact h.weaken (serves_copyRequest h hs mask)
  | exchange mask g => exact h.weaken (serves_exchangeRequest h hs mask g)
  | lock mask => exact h.weaken (serves_lockRequest h hs mask)
  | pointRead points => exact h.weaken hs
  | pointForce n v => exact h.weaken (keeps_pointForceRequest h.toKeeps hs ..)
  | pointRelease n => exact h.weaken (keeps_pointReleaseRequest h.toKeeps hs _)
  | slotStats first count => exact h.weaken hs
  | faultRead code => exact h.weaken hs
  | faultClear code =>
    refine h.weaken ?_
    simp only [serve, plain, faultClearRequest]
    split
    · exact hs
    · exact keeps_clearFault h.toKeeps hs _
  | faultClearAll =>
    refine h.weaken ?_
    simp only [serve]
    exact keeps_clearAllFaults h.toKeeps hs
  | logRead sequence count => exact h.weaken hs
  | logDiscard sequence => exact h.weaken (h.discard sequence hs)
  | setTime seconds =>
    have hclock : P { s with clock := { seconds := seconds, phaseStart := s.timebase, timeSet := true } } := h.toKeeps.upd hs
    have htime : P (setTimeRequest seconds s) := keeps_judge h.toKeeps hclock (.inl (by decide)) _
    exact h.weaken htime
  | setHeading count => exact h.weaken (keeps_setHeadingRequest h.toKeeps hs _)
  | setTwist twist => exact h.weaken (keeps_setTwistRequest h.toKeeps hs _)
  | yawMode mode => exact h.weaken (keeps_yawModeRequest h.toKeeps hs mode)
  | yawTarget heading choice => exact h.weaken (keeps_yawTargetRequest h.toKeeps hs ..)
  | yawSeek => exact h.weaken (keeps_yawSeekRequest h.toKeeps hs)
  | armSupervision => exact h.weaken (serves_armResponse h hs)

omit hs in
theorem serves_storeResponse {r : State × List Byte} (hr : R r.1) : R (storeResponse r) := by
  have hanswered : R { r.1 with response := some r.2 } := h.answer.upd hr
  exact h.response _ (by simp) (mapped_generations (fun x => by split <;> rfl)) hanswered

theorem serves_handRequest (len : Nat) (r : Request) : R (handRequest len r s) := by
  refine serves_storeResponse h ?_
  unfold takeRequest
  split
  · exact h.weaken hs
  · split
    · exact h.weaken hs
    · exact serves_serve h hs r

theorem serves_handPayload (payload : List Byte) : R (handPayload payload s) := by
  unfold handPayload
  split
  · exact serves_handRequest h hs ..
  · exact serves_storeResponse h (h.weaken hs)

/-! ## Every command -/

theorem serves_outGoodEnd (e : Engine) : R (outGoodEnd e s) := by
  have hcommitted : P (raiseMisplaced e (outCommit e s)) := keeps_raiseAll h.toKeeps (keeps_outCommit h.toKeeps hs e) _
  have hcycle : ∀ u : State, P u → P (if e.kind = kindCycle then goodCycleEnd u else u) := by
    intro u hu
    split
    · exact h.goodCycle hu
    · exact hu
  have hrequest : ∀ u : State, P u →
      R (match e.staging.request with | some payload => handPayload payload u | none => u) := by
    intro u hu
    split
    · exact serves_handPayload h hu _
    · exact h.weaken hu
  exact keeps_setBad h.answer (hrequest _ (steady_setOutcome h.toSteady (hcycle _ hcommitted) e .good)) .out 0

theorem serves_closeOut (truncated : Bool) : R (closeOut truncated s) := by
  have hclosed := steady_outClosed h.toSteady hs
  unfold closeOut
  dsimp only
  split
  · exact serves_outGoodEnd h (hclosed _) _
  · exact h.weaken (steady_outBadEnd h.toSteady (hclosed _) _)

theorem serves_endAtP0 (truncated : Bool) : R (endAtP0 truncated s) := by
  have hmode : P (setMode0 .none s) := keeps_setMode0 h.toKeeps hs _
  unfold endAtP0
  dsimp only
  split
  · exact h.weaken hmode
  · exact serves_closeOut h hmode _
  · exact h.weaken (keeps_holdEnd h.toKeeps hmode _)
  · exact h.weaken (keeps_ringOverrun h.toKeeps hmode)
  · exact h.weaken hmode

theorem serves_outFrameEnd (source : OutSource) : R (outFrameEnd source s) := by
  cases source with
  | p0 =>
    simp only [outFrameEnd, endDelimiterAtP0]
    split
    · exact h.weaken hs
    · exact serves_endAtP0 h hs _
  | holdBuffer =>
    simp only [outFrameEnd, endFromHold]
    split
    · split
      · exact serves_closeOut h (keeps_emptyHold h.toKeeps hs) _
      · exact h.weaken hs
    · exact h.weaken hs
  | island =>
    simp only [outFrameEnd, endFromIsland]
    split
    · exact serves_closeOut h hs _
    · exact h.weaken hs

theorem steady_loseLock (port : RxId) : P (loseLock port s) := by
  cases port
  · exact steady_endAtP0_truncated h.toSteady (keeps_setLine h.toKeeps hs _ _)
  · exact steady_endAtP2 h.toSteady (keeps_setLine h.toKeeps hs _ _) _ _

theorem steady_delimiterAtP0 : P (delimiterAtP0 s) := by
  unfold delimiterAtP0
  split
  · exact keeps_startAtP0 h.toKeeps (steady_endAtP0_truncated h.toSteady hs)
  · exact hs

theorem steady_delimiterAtP2 : P (delimiterAtP2 s) := by
  unfold delimiterAtP2
  split
  · exact keeps_startAtP2 h.toKeeps (steady_endAtP2 h.toSteady hs _ _)
  · exact hs

/-- The end delimiter of a frame being dropped ends no frame in passage, so no request is taken. -/
theorem steady_dropEnd : P (dropEnd s) := by
  unfold dropEnd
  split
  next hmode =>
    simp only [endAtP0, hmode]
    exact keeps_ringOverrun h.toKeeps (keeps_setMode0 h.toKeeps hs _)
  · exact hs

/-- Every command but PIN_RESET. -/
theorem serves_exec (i : Instr) (hi : ∀ service a b index, i ≠ .pinReset service a b index) :
    ∃ t, exec i s = .next t ∧ R t := by
  have hsettled : P (settle s) := steady_settle h.toSteady hs
  have hdue : ∀ wanted, R (takeDue wanted s) := fun wanted => h.weaken (steady_takeDue h.toSteady hs wanted)
  have hreq : ∀ len r, R (handRequest len r (settle s)) := fun len r => serves_handRequest h hsettled len r
  have htimed : ∀ e run, (∀ u : State, (u.timing e).isSome = true → P u → P (run u)) →
      R (bringAbout e run (settle s)) := fun e run hrun => h.weaken (steady_bringAbout h.toSteady hsettled hrun)
  have hevent : ∀ e, R (bringAbout e (runTimed e) (settle s)) :=
    fun e => htimed e _ (fun u ht hu => steady_runTimed h.toSteady hu ht)
  cases i with
  | pinReset service a b index => exact absurd rfl (hi service a b index)
  | lineLockGained port => exact ⟨_, rfl, h.weaken (keeps_setLine h.toKeeps hsettled _ _)⟩
  | lineLockLost port => exact ⟨_, rfl, h.weaken (steady_loseLock h hsettled port)⟩
  | startDelimiterAtP0 => exact ⟨_, rfl, h.weaken (steady_delimiterAtP0 h hsettled)⟩
  | startDelimiterAtP2 => exact ⟨_, rfl, h.weaken (steady_delimiterAtP2 h hsettled)⟩
  | frameDropped => exact ⟨_, rfl, h.weaken (steady_dropEnd h hsettled)⟩
  | p1BecomesIdle => exact ⟨_, rfl, h.weaken (keeps_becomeIdle h.toKeeps hsettled)⟩
  | outFrameStart => exact ⟨_, rfl, hdue _⟩
  | returnFrameStart => exact ⟨_, rfl, hdue _⟩
  | slotEntryApply lane => exact ⟨_, rfl, hdue _⟩
  | frameOverlengthCut lane => exact ⟨_, rfl, hdue _⟩
  | outFrameEnd source => exact ⟨_, rfl, serves_outFrameEnd h hsettled source⟩
  | returnFrameEnd order => exact ⟨_, rfl, h.weaken (steady_endAtP2 h.toSteady hsettled false order)⟩
  | yawStepTimeout => exact ⟨_, rfl, hdue _⟩
  | reportContentsTaken => exact ⟨_, rfl, hdue _⟩
  | serviceResponseWrite => exact ⟨_, rfl, hdue _⟩
  | supervisionExpiry => exact ⟨_, rfl, hevent .supervision⟩
  | islandFrameDue => exact ⟨_, rfl, hevent .island⟩
  | filteredTransition a b index held first =>
    exact ⟨_, rfl, h.weaken (steady_filteredTransition h.toSteady hsettled ..)⟩
  | forcedAdvance => exact ⟨_, rfl, hevent .edgeTimer⟩
  | absorptionWindowClose => exact ⟨_, rfl, hevent .window⟩
  | lastEdgeForget => exact ⟨_, rfl, hevent .lastEdge⟩
  | clockSecond thermalFirst decisionFirst =>
    exact ⟨_, rfl, htimed .second _ (fun u _ hu => steady_clockSecond h.toSteady hu thermalFirst decisionFirst)⟩
  | clockMinute => exact ⟨_, rfl, hdue _⟩
  | restBegin => exact ⟨_, rfl, hdue _⟩
  | restEnd => exact ⟨_, rfl, hdue _⟩
  | pumpExerciseStart => exact ⟨_, rfl, hdue _⟩
  | pumpExerciseEnd => exact ⟨_, rfl, hdue _⟩
  | frameByte source => exact ⟨_, rfl, h.weaken (keeps_frameByte h.toKeeps hsettled source)⟩
  | identify len => exact ⟨_, rfl, hreq len .identify⟩
  | run len => exact ⟨_, rfl, hreq len .run⟩
  | pass len => exact ⟨_, rfl, hreq len .pass⟩
  | softReset len => exact ⟨_, rfl, hreq len .softReset⟩
  | tableWrite len t start words => exact ⟨_, rfl, hreq len (.tableWrite t start words)⟩
  | tableRead len t bank start count => exact ⟨_, rfl, hreq len (.tableRead t bank start count)⟩
  | copy len mask => exact ⟨_, rfl, hreq len (.copy mask)⟩
  | exchange len mask g => exact ⟨_, rfl, hreq len (.exchange mask g)⟩
  | lock len mask => exact ⟨_, rfl, hreq len (.lock mask)⟩
  | unlock len mask => exact ⟨_, rfl, hreq len (.unlock mask)⟩
  | pointRead len points => exact ⟨_, rfl, hreq len (.pointRead points)⟩
  | pointForce len n v => exact ⟨_, rfl, hreq len (.pointForce n v)⟩
  | pointRelease len n => exact ⟨_, rfl, hreq len (.pointRelease n)⟩
  | slotStats len first count => exact ⟨_, rfl, hreq len (.slotStats first count)⟩
  | faultRead len code => exact ⟨_, rfl, hreq len (.faultRead code)⟩
  | faultClear len code => exact ⟨_, rfl, hreq len (.faultClear code)⟩
  | faultClearAll len => exact ⟨_, rfl, hreq len .faultClearAll⟩
  | logRead len q count => exact ⟨_, rfl, hreq len (.logRead q count)⟩
  | logDiscard len q => exact ⟨_, rfl, hreq len (.logDiscard q)⟩
  | setTime len seconds => exact ⟨_, rfl, hreq len (.setTime seconds)⟩
  | setHeading len count => exact ⟨_, rfl, hreq len (.setHeading count)⟩
  | setTwist len twist => exact ⟨_, rfl, hreq len (.setTwist twist)⟩
  | yawMode len mode => exact ⟨_, rfl, hreq len (.yawMode mode)⟩
  | yawTarget len heading choice => exact ⟨_, rfl, hreq len (.yawTarget heading choice)⟩
  | yawSeek len => exact ⟨_, rfl, hreq len .yawSeek⟩
  | armSupervision len => exact ⟨_, rfl, hreq len .armSupervision⟩

/-- Every step whose command is not PIN_RESET. -/
theorem serves_step {t : State} (hn : NotPinReset s) (hstep : step s = .next t) : R t := by
  unfold step at hstep
  split at hstep
  next c rest hpending =>
    have hrest : P { s with pending := rest } := h.toKeeps.upd hs
    obtain ⟨u, hu, hR⟩ := serves_exec h hrest c (fun service a b index hc => hn service a b index rest (hc ▸ hpending))
    rw [hu] at hstep
    cases hstep
    exact hR
  · cases hstep
    exact h.weaken (steady_idle h.toSteady hs)

end

/-- A law that pin reset establishes stands after every step. -/
theorem serves_every_step {P R : State → Prop} (h : Serves P R) (hreset : ∀ service a b index u, R (pinReset service a b index u))
    {s t : State} (hs : P s) (hstep : step s = .next t) : R t := by
  by_cases hn : NotPinReset s
  · exact serves_step h hs hn hstep
  · simp only [NotPinReset, not_forall, not_not] at hn
    obtain ⟨service, a, b, index, rest, hpending⟩ := hn
    simp only [step, hpending, exec, execPinReset] at hstep
    cases hstep
    exact hreset _ _ _ _ _

end Sys2Proof.Machine
end

section
/-! SUPPORT. Laws that read neither the move nor the action summary, and what the swap and the events of chapter 9 ask of a law. -/

set_option Elab.async false

namespace Sys2Proof.Machine

open Sys2Proof.Safety

/-! ## A law that the action summary does not concern -/

/-- The fields that a law read which neither a move nor the action summary concerns, but for those of `Sized`. -/
def plainView (s : State) : State := { lawView s with summary := .reset, envelope := .reset }

/-- What such a law withstands. `silence` says that it reads MASTER_SILENT's presence, which then has to stand. -/
structure Plain (silence : Prop) (P : State → Prop) : Prop where
  quiet {s t : State} : P s → plainView t = plainView s → (Sized s → Sized t) → P t
  points {s : State} (ps : List Point) : ps.length = s.points.length →
    (∀ n, 32 ≤ n → n ≤ 63 → (ps.getD n .reset).quality = .forced → (s.point n).quality = .forced) →
    P s → P { s with points := ps }
  managed {s t : State} : Managed s t → (silence → s.condition fcMasterSilent = true → t.condition fcMasterSilent = true) →
    P s → P t

/-- What a view keeps of the state is equal where the views are. -/
theorem eq_of_view {v : State → State} {s t : State} {α : Type} (h : v t = v s) (f : State → α)
    (hf : ∀ u, f (v u) = f u := by exact fun _ => rfl) : f t = f s := by
  rw [← hf t, h, hf s]

theorem plainView_of_lawView {s t : State} (h : lawView t = lawView s) : plainView t = plainView s := by
  have hv : plainView (lawView t) = plainView (lawView s) := congrArg plainView h
  exact hv

section
variable {silence : Prop} {P : State → Prop} (h : Plain silence P) {s : State} (hs : P s)
include h hs

theorem plain_output (n : Nat) (v : Int) : P (outputWrite n v s) :=
  h.points _ (by simp) (fun _ _ _ hf => output_not_forced hf) hs

theorem plain_envelope (l : Nat) (b : Bool) : P { s with envelope := { s.envelope with limit := l, tripSeen := b } } :=
  h.quiet hs rfl id

theorem plain_summary (m : Summary) : P { s with summary := m } := h.quiet hs rfl id

theorem plain_recompute : P (recompute s) := by
  have hsummary := plain_summary h hs s.formSummary
  have houtputs : ∀ (c : Prop) [Decidable c] (u : State), P u → P (if c then writeFaultOutputs u else u) := by
    intro c _ u hu
    split
    · exact plain_output h (plain_output h hu 45 _) 61 _
    · exact hu
  have htrip : ∀ (b c : Bool) (u : State), P u → P (if b then tripOn u else if c then tripOff u else u) := by
    intro b c u hu
    cases b
    · cases c
      · exact hu
      · exact plain_output h (plain_envelope h hu u.envelope.limit false) 34 0
    · exact plain_output h (plain_output h (plain_output h (plain_envelope h hu 0 true) 32 0) 33 0) 34 1
  exact htrip _ _ _ (houtputs _ _ hsummary)

end

theorem Plain.freeOfMoves {silence : Prop} {P : State → Prop} (h : Plain silence P) : FreeOfMoves P where
  quiet hs hv := h.quiet hs (plainView_of_lawView hv)
  points := h.points
  limit l _ hs := h.quiet hs rfl id
  managed hm hc hs := by
    have ht := h.managed hm (fun _ => hc) hs
    unfold recomputeSince
    split
    · exact ht
    · exact plain_recompute h ht

theorem Plain.keeps {silence : Prop} {P : State → Prop} (h : Plain silence P) : Keeps P := h.freeOfMoves.keeps

/-! ## The fault manager's hand-over of a new FAT (R158) -/

/-- What the swap of the FAT asks of a law: the summary recomputed whatever has changed, and the yaw hold handed over. -/
def Reforms (P : State → Prop) : Prop :=
  ∀ {s t : State}, Managed s t → (s.condition fcMasterSilent = true → t.condition fcMasterSilent = true) → P s →
    P (handHold s.summary.yawHold (recompute t))

theorem Plain.reforms {silence : Prop} {P : State → Prop} (h : Plain silence P) : Reforms P :=
  fun hm hc hs => free_handHold h.freeOfMoves (plain_recompute h (h.managed hm (fun _ => hc) hs)) _

theorem condition_fatSwapLatch {s : State} {j : Nat} (hj : levelCode j = true) (k : Nat) :
    (fatSwapLatch s k).condition j = s.condition j := by
  unfold fatSwapLatch
  dsimp only
  split
  · exact (condition_logIf_level hj ..).trans (condition_setFault (fun _ => rfl))
  · rfl

theorem condition_fatSwapWatch {s : State} {i j : Nat} (hj : levelCode j = true) (h : j ≠ fcWatch i) :
    (fatSwapWatch s i).condition j = s.condition j := by
  unfold fatSwapWatch
  split
  · exact condition_endRecord_ne hj h
  · rfl

/-- The swap of the FAT ends no condition but a watch's. -/
theorem condition_fatSwap_masterSilent {s : State} (ks is : List Nat) (h : s.condition fcMasterSilent = true) :
    (is.foldl fatSwapWatch (ks.foldl fatSwapLatch s)).condition fcMasterSilent = true := by
  induction ks generalizing s with
  | cons k ks ih => exact ih (by rw [condition_fatSwapLatch (by decide)]; exact h)
  | nil =>
    induction is generalizing s with
    | nil => exact h
    | cons i is ih =>
      have hcode : fcMasterSilent ≠ fcWatch i := by
        simp only [fcWatch, fcMasterSilent]
        omega
      exact ih ((condition_fatSwapWatch (by decide) hcode).trans h)

theorem reforms_fatSwap {P : State → Prop} (h : Reforms P) {s : State} (hs : P s) : P (fatSwap s) :=
  h (Managed.foldl (fun j hv => hv.watched j) (List.range 16)
      (Managed.foldl (fun k hv => hv.latched k) (List.range 64) Managed.refl))
    (condition_fatSwap_masterSilent (List.range 64) (List.range 16)) hs

/-- The swap with its hand-over to the owners (R196): the fault manager comes last, on a state that keeps what the owners before it
keep of the state whose copies have changed places. -/
theorem swapExchange_owners (mask : Word) (s : State) : ∃ u, swapExchange mask s = (if bitOf mask 7 then fatSwap u else u) ∧
    ∀ P : State → Prop, Keeps P → P (swapBanks mask s) → P u := by
  refine ⟨_, rfl, fun P h hs => ?_⟩
  have hhits : ∀ (b : Bool) (u : State), P u → P (if b then resetHits u else u) := by
    intro b u hu
    cases b
    · exact hu
    · refine h.upd hu (hz := fun hz => ?_)
      obtain ⟨-, rest⟩ := hz
      exact ⟨List.length_replicate, rest⟩
  have hplt : ∀ (b : Bool) (u : State), P u → P (if b then arbiterPltSwap u else u) := by
    intro b u hu
    cases b
    · exact hu
    · exact keeps_arbiterPltSwap h hu
  have hycf : ∀ (b : Bool) (p : Nat) (u : State), P u → P (if b then judgeTwist (trackerYcfSwap p u) else u) := by
    intro b p u hu
    cases b
    · exact hu
    · exact keeps_judgeTwist h (keeps_trackerYcfSwap h hu p)
  exact hycf _ _ _ (hplt _ _ (hhits _ _ hs))

/-- The swap for a law that stands in the state whose copies have changed places. -/
theorem keeps_swapExchange {P : State → Prop} (h : Keeps P) {s : State} {mask : Word} (hfat : ∀ u : State, P u → P (fatSwap u))
    (hs : P (swapBanks mask s)) : P (swapExchange mask s) := by
  obtain ⟨u, hu, howners⟩ := swapExchange_owners mask s
  rw [hu]
  split
  · exact hfat u (howners P h hs)
  · exact howners P h hs

/-! ## A law that the silence supervision does not concern (chapter 9) -/

/-- What such a law withstands: any change of supervision and operating state, and MASTER_SILENT's end. -/
structure Unwatched (P : State → Prop) : Prop extends Keeps P where
  managedAny {s t : State} : Managed s t → P s → P (handHold s.summary.yawHold (recomputeSince s t))
  supervise {s : State} (v : Supervision) (o : OpState) : P s → P { s with supervision := v, opState := o }

/-- A law that does not read MASTER_SILENT's presence withstands whatever the fault manager does. -/
theorem plain_managedAny {P : State → Prop} (h : Plain False P) {s t : State} (hm : Managed s t) (hs : P s) :
    P (handHold s.summary.yawHold (recomputeSince s t)) := by
  have ht := h.managed hm (fun hno => hno.elim) hs
  refine free_handHold h.freeOfMoves ?_ _
  unfold recomputeSince
  split
  · exact ht
  · exact plain_recompute h ht

theorem plain_judge {P : State → Prop} (h : Plain False P) {s : State} (hs : P s) (k : Nat) (present : Bool) (c : Int) :
    P (judge k present c s) := by
  unfold judge
  split
  · exact plain_managedAny h (Managed.refl.raised k c) hs
  · split
    · exact plain_managedAny h (Managed.refl.ended k) hs
    · exact hs

theorem Plain.unwatched {P : State → Prop} (h : Plain False P)
    (hv : ∀ {s : State} (v : Supervision) (o : OpState), P s → P { s with supervision := v, opState := o }) : Unwatched P where
  toKeeps := h.keeps
  managedAny := plain_managedAny h
  supervise := hv

section
variable {P : State → Prop} (h : Unwatched P) {s : State} (hs : P s)
include h hs

theorem unwatched_goodCycleEnd : P (goodCycleEnd s) := by
  have hv : ∀ (u : State) (v : Supervision), P u → P { u with supervision := v } := fun u v hu => h.supervise v u.opState hu
  have hrestart : P (restartSupervision s) := by
    unfold restartSupervision
    split
    · exact hv _ _ hs
    · exact hs
  have hended : P (judge fcMasterSilent false 0 (restartSupervision s)) := by
    unfold judge
    split
    · exact keeps_raise h.toKeeps hrestart _ _
    · split
      · exact h.managedAny (Managed.refl.ended _) hrestart
      · exact hrestart
  unfold goodCycleEnd
  dsimp only
  split
  · exact h.supervise _ _ hended
  · exact hended

theorem unwatched_islandDue : P (islandDue s) := by
  have hv : ∀ (u : State) (v : Supervision), P u → P { u with supervision := v } := fun u v hu => h.supervise v u.opState hu
  unfold islandDue
  dsimp only
  split
  · exact hv _ _ hs
  · split
    · exact keeps_beginIsland h.toKeeps (hv _ _ hs)
    · exact hv _ _ (hv _ _ hs)

theorem unwatched_expireSupervision : P (expireSupervision s) := by
  have hstopped : P { s with supervision := { s.supervision with timer := none } } := h.supervise _ s.opState hs
  have hraised : ∀ c : Int, P (judge fcMasterSilent true c { s with supervision := { s.supervision with timer := none } }) :=
    fun c => keeps_judge h.toKeeps hstopped (.inr rfl) c
  unfold expireSupervision
  dsimp only
  split
  · exact unwatched_islandDue h (h.supervise _ _ (hraised _))
  · exact hraised _

end

/-- The record that an out-lane frame start enters into the list (R16). -/
def boundRecord (s : State) : FlightRecord :=
  { id := s.nextFlight, cycle := s.outLane.cycle, generation := s.banks.generation, origin := s.outLane.origin,
    outcome := .pending, response := none }

/-- The binding of an out-lane frame, for a law that stands with its record in the list (R16). -/
theorem keeps_bindOut {P : State → Prop} (h : Keeps P) {s : State}
    (hs : P { pushOut s with flight := (pushOut s).flight ++ [boundRecord (pushOut s)] }) : P (bindOut s) := by
  have hnext : P { pushOut s with
      flight := (pushOut s).flight ++ [boundRecord (pushOut s)], nextFlight := (pushOut s).nextFlight + 1 } := h.upd hs
  exact keeps_setEngine h hnext .out _ (by exact id)

/-- A law that reads neither the banks, nor the list, nor the supervision, withstands every command but SOFT_RESET and
LOG_DISCARD. -/
theorem Unwatched.serves {P : State → Prop} (h : Unwatched P)
    (hflights : ∀ {s : State} (l : List FlightRecord), P s → P { s with flight := l })
    (hbanks : ∀ {s : State} (b : Banks), P s → P { s with banks := b })
    (hreform : Reforms P) (hsoft : ∀ {s : State}, P s → P (softCleared s))
    (hdiscard : ∀ {s : State} (q : Word), P s → P { s with log := s.log.discard q }) : Serves P P where
  toKeeps := h.toKeeps
  flights l _ _ hs := hflights l hs
  drain hs := by
    unfold bankDrain
    split
    · exact hbanks _ hs
    · exact hs
  bind _ hp := keeps_bindOut h.toKeeps (hflights _ hp)
  swap mask _ hs := keeps_swapExchange h.toKeeps (fun u hu => reforms_fatSwap hreform hu) (hbanks _ hs)
  goodCycle := unwatched_goodCycleEnd h
  expire _ := unwatched_expireSupervision h
  island _ := unwatched_islandDue h
  answer := h.toKeeps
  response l _ _ hs := hflights l hs
  weaken := id
  run _ hs := h.supervise _ _ hs
  pass _ hs := h.supervise _ _ hs
  arm hs := h.supervise _ _ hs
  soft := hsoft
  shadow _ _ hs := hbanks _ hs
  schedule _ _ _ _ hs := hbanks _ hs
  lock _ _ hs := hbanks _ hs
  unlock _ hs := hbanks _ hs
  discard := hdiscard

/-- The law stands after pin reset if it stands in the state before TIME_NOT_SET is raised. -/
theorem keeps_pinReset {P : State → Prop} (h : Keeps P) (hclear : ∀ strap a b index, P (State.cleared strap a b index))
    (service a b index : Bool) (s : State) : P (pinReset service a b index s) := by
  have hcleared : P { State.cleared (if service then .service else .normal) a b index with pending := s.pending } :=
    h.upd (hclear (if service then .service else .normal) a b index)
  exact keeps_raise h hcleared _ _

end Sys2Proof.Machine
end

section
/-! SUPPORT. The laws of the log and of the records, and of the silence supervision, carried through every command. -/

set_option Elab.async false

namespace Sys2Proof.Safety

open Sys2Proof.Machine

/-! ## The law of the log (R168, R169, R171) -/

theorem logLaw_iff {s : State} : LogLaw s ↔ s.log.records.length ≤ 64 ∧
    ∀ (i : Nat) (h : i < s.log.records.length),
      s.log.records[i].sequence = s.log.next - BitVec.ofNat 16 (s.log.records.length - i) := by
  refine and_congr_right (fun _ => ⟨fun hseq i hi => by simpa [hi] using congrArg (·[i]?) hseq, fun hseq => ?_⟩)
  apply List.ext_getElem
  · simp
  · intro i hi _
    simpa using hseq i (by simpa using hi)

/-- A record placed has the next sequence, behind the ones kept (R168). -/
theorem LogLaw.place {s : State} (law : LogLaw s) (k : Nat) (kind : LogKind) (c : Int) : LogLaw (logPlace k kind c s) := by
  have hbound := law.length_le
  have hseq := fun i hi => law.sequence_getElem (i := i) hi
  rw [logLaw_iff]
  by_cases hfull : s.log.records.length < 64
  · simp only [logPlace, if_pos hfull, List.length_append, List.length_singleton]
    refine ⟨by omega, fun i hi => ?_⟩
    by_cases hlast : i < s.log.records.length
    · rw [List.getElem_append_left hlast, hseq i hlast]
      bv_omega
    · rw [List.getElem_append_right (Nat.not_lt.mp hlast)]
      simp only [List.getElem_singleton]
      bv_omega
  · simp only [logPlace, if_neg hfull, List.length_append, List.length_singleton, List.length_drop]
    refine ⟨by omega, fun i hi => ?_⟩
    by_cases hlast : i < s.log.records.length - 1
    · rw [List.getElem_append_left (by simpa using hlast), List.getElem_drop, hseq (1 + i) (by omega)]
      bv_omega
    · rw [List.getElem_append_right (by simpa using hlast)]
      simp only [List.getElem_singleton]
      bv_omega

theorem LogLaw.discard {s : State} (law : LogLaw s) (q : Word) : LogLaw { s with log := s.log.discard q } := by
  have hbound := law.length_le
  by_cases h : s.log.offset q < s.log.records.length
  · rw [logLaw_iff, FaultLog.discard_of_lt h]
    simp only [List.length_drop, List.getElem_drop]
    refine ⟨by omega, fun i hi => ?_⟩
    rw [law.sequence_getElem (by omega)]
    bv_omega
  · rw [FaultLog.discard_of_le (Nat.not_lt.mp h)]
    exact law

theorem LogLaw.managed {s t : State} (law : LogLaw s) (h : Managed s t) : LogLaw t := by
  induction h with
  | refl => exact law
  | place k kind c _ ih => exact ih.place k kind c
  | spot sp _ ih => exact ih
  | record k r _ _ ih => exact ih

theorem plain_logLaw : Plain False LogLaw where
  quiet {s t} hs hv _ := by
    have hlog : t.log = s.log := eq_of_view hv State.log
    simpa only [LogLaw, hlog] using hs
  points _ _ _ hs := hs
  managed hm _ hs := hs.managed hm

theorem serves_logLaw : Serves LogLaw LogLaw :=
  (plain_logLaw.unwatched (fun _ _ hs => hs)).serves (fun _ hs => hs) (fun _ hs => hs) plain_logLaw.reforms (fun hs => hs)
    (fun q hs => hs.discard q)

theorem logLaw_cleared (strap : StrapMode) (a b index : Bool) : LogLaw (State.cleared strap a b index) :=
  ⟨Nat.zero_le _, rfl⟩

/-! ## Event conditions and forced outputs (R44, R45, R154, R160) -/

theorem condition_reset (k : Nat) : ((List.replicate 64 FaultRecord.reset).getD k .reset).condition = false := by
  by_cases hk : k < 64
  · rw [List.getD_eq_getElem?_getD, List.getElem?_replicate_of_lt hk]
    rfl
  · rw [List.getD_eq_getElem?_getD, List.getElem?_eq_none (by rw [List.length_replicate]; omega)]
    rfl

theorem quality_reset (n : Nat) : ((List.replicate 256 Point.reset).getD n .reset).quality = .empty := by
  by_cases hn : n < 256
  · rw [List.getD_eq_getElem?_getD, List.getElem?_replicate_of_lt hn]
    rfl
  · rw [List.getD_eq_getElem?_getD, List.getElem?_eq_none (by rw [List.length_replicate]; omega)]
    rfl

theorem recordLaw_of_reset {s : State} (hf : s.faults = List.replicate 64 .reset) (hp : s.points = List.replicate 256 .reset) :
    RecordLaw s := by
  refine ⟨fun k _ _ => ?_, fun n _ _ => ?_⟩
  · rw [State.condition, State.fault, hf]
    exact condition_reset k
  · rw [State.point, hp, quality_reset]
    decide

/-- The fault manager makes no event's condition PRESENT. -/
theorem Managed.condition_event {s t : State} (h : Managed s t) {k : Nat} (hk : levelCode k = false)
    (hs : s.condition k = false) : t.condition k = false := by
  induction h with
  | refl => exact hs
  | place j kind c _ ih => exact ih
  | spot sp _ ih => exact ih
  | @record u j r _ hr ih =>
    rw [condition_setFault (fun hkj => ?_)]
    · exact ih
    · subst hkj
      rw [State.condition] at ih
      rw [ih]
      by_contra hcontra
      rcases hr (by simpa using hcontra) with hl | hc
      · rw [hk] at hl
        cases hl
      · rw [ih] at hc
        cases hc

theorem plain_recordLaw : Plain False RecordLaw where
  quiet {s t} hs hv _ := by
    have hfaults : t.faults = s.faults := eq_of_view hv State.faults
    have hpoints : t.points = s.points := eq_of_view hv State.points
    simpa only [RecordLaw, State.condition, State.fault, State.point, hfaults, hpoints] using hs
  points ps _ hps hs := by
    obtain ⟨hevents, hforced⟩ := hs
    exact ⟨hevents, fun n hlo hhi hf => hforced n hlo hhi (hps n hlo hhi hf)⟩
  managed {s t} hm _ hs := by
    obtain ⟨hevents, hforced⟩ := hs
    have hout := hm.outside
    have hpoints : t.points = s.points := eq_of_view hout State.points
    refine ⟨fun k hk hl => Managed.condition_event hm hl (hevents k hk hl), ?_⟩
    simpa only [State.point, hpoints] using hforced

theorem serves_recordLaw : Serves RecordLaw RecordLaw :=
  (plain_recordLaw.unwatched (fun _ _ hs => hs)).serves (fun _ hs => hs) (fun _ hs => hs) plain_recordLaw.reforms
    (fun _ => recordLaw_of_reset rfl rfl) (fun _ hs => hs)

/-! ## The law of silence (R175 to R180, R184) -/

/-- The law of silence but for MASTER_SILENT. -/
def WatchLaw (s : State) : Prop :=
  s.faults.length = 64 ∧ (s.opState = .island ↔ s.supervision.islandTimer.isSome = true) ∧
  (s.supervision.armed = false → s.supervision.timer = none ∧ s.opState ≠ .island)

theorem silenceLaw_iff {s : State} :
    SilenceLaw s ↔ WatchLaw s ∧ (s.opState = .island → s.condition fcMasterSilent = true) := by
  simp only [SilenceLaw, WatchLaw]
  tauto

/-- MASTER_SILENT present. -/
def SilentNow (s : State) : Prop := s.condition fcMasterSilent = true

theorem plain_watchLaw : Plain False WatchLaw where
  quiet {s t} hs hv _ := by
    have hfaults : t.faults = s.faults := eq_of_view hv State.faults
    have hop : t.opState = s.opState := eq_of_view hv State.opState
    have harmed := eq_of_view hv (fun u => u.supervision.armed)
    have htimer := eq_of_view hv (fun u => u.supervision.timer)
    have hisland := eq_of_view hv (fun u => u.supervision.islandTimer)
    simpa only [WatchLaw, hfaults, hop, harmed, htimer, hisland] using hs
  points _ _ _ hs := hs
  managed {s t} hm _ hs := by
    have hout := hm.outside
    have hop : t.opState = s.opState := eq_of_view hout State.opState
    have hsup : t.supervision = s.supervision := eq_of_view hout State.supervision
    simpa only [WatchLaw, hm.faults_length, hop, hsup] using hs

theorem plain_silentNow : Plain True SilentNow where
  quiet {s t} hs hv _ := by
    have hfaults : t.faults = s.faults := eq_of_view hv State.faults
    simpa only [SilentNow, State.condition, State.fault, hfaults] using hs
  points _ _ _ hs := hs
  managed _ hc hs := hc trivial hs

theorem plain_silenceLaw : Plain True SilenceLaw where
  quiet {s t} hs hv hz := by
    obtain ⟨hwatch, hsilent⟩ := silenceLaw_iff.mp hs
    have hfaults : t.faults = s.faults := eq_of_view hv State.faults
    have hop : t.opState = s.opState := eq_of_view hv State.opState
    refine silenceLaw_iff.mpr ⟨plain_watchLaw.quiet hwatch hv hz, ?_⟩
    simpa only [State.condition, State.fault, hfaults, hop] using hsilent
  points _ _ _ hs := hs
  managed {s t} hm hc hs := by
    obtain ⟨hwatch, hsilent⟩ := silenceLaw_iff.mp hs
    have hout := hm.outside
    have hop : t.opState = s.opState := eq_of_view hout State.opState
    exact silenceLaw_iff.mpr ⟨plain_watchLaw.managed hm (fun hno => hno.elim) hwatch,
      fun hi => hc trivial (hsilent (hop ▸ hi))⟩

/-- MASTER_SILENT is present once it is judged to be (R178). -/
theorem silentNow_judge {s : State} (hs : s.faults.length = 64) (c : Int) : SilentNow (judge fcMasterSilent true c s) := by
  by_cases hp : s.condition fcMasterSilent = true
  · have hjudge : judge fcMasterSilent true c s = s := by simp [judge, hp]
    rw [hjudge]
    exact hp
  · have hjudge : judge fcMasterSilent true c s = raise fcMasterSilent c s := by simp [judge, hp]
    have hraised : SilentNow (raiseRecord fcMasterSilent c s) := by
      have hlt : fcMasterSilent < s.faults.length := by rw [hs]; decide
      refine raiseRecord_induction (Q := SilentNow) (fun _ hk => absurd hk hp) (fun _ => ?_)
      rw [SilentNow, condition_logIf_level (by decide), State.condition, fault_markSpotlight, fault_setFault_same hlt]
      rfl
    rw [hjudge]
    refine free_handHold plain_silentNow.freeOfMoves ?_ _
    unfold raiseQuiet recomputeSince
    split
    · exact hraised
    · exact plain_recompute plain_silentNow hraised

/-- An island frame falling due, for a state that keeps the law once the island timer has restarted. -/
theorem silence_islandDue {s : State} (hs : SilenceLaw { s with supervision :=
    { s.supervision with islandTimer := some { start := s.timebase, period := s.islandPeriod } } }) :
    SilenceLaw (islandDue s) := by
  unfold islandDue
  dsimp only
  split
  · exact hs
  · split
    · exact keeps_beginIsland plain_silenceLaw.keeps hs
    · exact plain_silenceLaw.keeps.upd hs

theorem silence_goodCycleEnd {s : State} (hs : SilenceLaw s) : SilenceLaw (goodCycleEnd s) := by
  obtain ⟨hwatch, -⟩ := silenceLaw_iff.mp hs
  have hrestart : WatchLaw (restartSupervision s) := by
    unfold restartSupervision
    split
    next harmed =>
      obtain ⟨hfaults, hisland, -⟩ := hwatch
      exact ⟨hfaults, hisland, fun hno => absurd harmed (by rw [hno]; decide)⟩
    · exact hwatch
  have hended : WatchLaw (judge fcMasterSilent false 0 (restartSupervision s)) := plain_judge plain_watchLaw hrestart _ _ _
  obtain ⟨hfaults, hisland, harmed⟩ := hended
  unfold goodCycleEnd
  dsimp only
  split
  next hop =>
    refine silenceLaw_iff.mpr ⟨⟨hfaults, ?_, fun hno => ?_⟩, fun hi => nomatch hi⟩
    · simp
    · exact ⟨(harmed hno).left, by simp⟩
  next hop => exact silenceLaw_iff.mpr ⟨⟨hfaults, hisland, harmed⟩, fun hi => absurd hi hop⟩

theorem silence_expireSupervision {s : State} (ht : s.supervision.timer.isSome = true) (hs : SilenceLaw s) :
    SilenceLaw (expireSupervision s) := by
  have harmed : s.supervision.armed = true := by
    obtain ⟨-, -, -, hunarmed⟩ := hs
    by_contra hno
    obtain ⟨hnone, -⟩ := hunarmed (by simpa using hno)
    rw [hnone] at ht
    cases ht
  have hstopped : SilenceLaw { s with supervision := { s.supervision with timer := none } } := by
    obtain ⟨hfaults, hisland, hsilent, hunarmed⟩ := hs
    exact ⟨hfaults, hisland, hsilent, fun hno => ⟨rfl, (hunarmed hno).right⟩⟩
  have hraised : ∀ c : Int, SilenceLaw (judge fcMasterSilent true c { s with supervision :=
      { s.supervision with timer := none } }) := fun c => keeps_judge plain_silenceLaw.keeps hstopped (.inr rfl) c
  have hsilent : ∀ c : Int, SilentNow (judge fcMasterSilent true c { s with supervision :=
      { s.supervision with timer := none } }) := fun c => silentNow_judge hstopped.left c
  have hsup : ∀ c : Int, (judge fcMasterSilent true c { s with supervision :=
      { s.supervision with timer := none } }).supervision = { s.supervision with timer := none } :=
    fun c => eq_of_view (outsideMoves_judge fcMasterSilent true c _) State.supervision
  unfold expireSupervision
  dsimp only
  split
  · refine silence_islandDue ?_
    obtain ⟨hfaults, -, -, -⟩ := hraised (s.prevCycle.getD 255)
    refine ⟨hfaults, by simp, fun _ => hsilent _, fun hno => ?_⟩
    dsimp only at hno
    rw [hsup] at hno
    exact absurd harmed (by rw [hno]; decide)
  · exact hraised _

theorem serves_silenceLaw : Serves SilenceLaw SilenceLaw where
  toKeeps := plain_silenceLaw.keeps
  flights _ _ _ hs := hs
  drain hs := by
    unfold bankDrain
    split
    · exact hs
    · exact hs
  bind _ hp := keeps_bindOut plain_silenceLaw.keeps hp
  swap mask _ hs := keeps_swapExchange plain_silenceLaw.keeps (fun u hu => reforms_fatSwap plain_silenceLaw.reforms hu) hs
  goodCycle := silence_goodCycleEnd
  expire := silence_expireSupervision
  island {s} ht hs := by
    refine silence_islandDue ?_
    obtain ⟨hfaults, hisland, hsilent, harmed⟩ := hs
    exact ⟨hfaults, ⟨fun _ => rfl, fun _ => hisland.mpr ht⟩, hsilent, harmed⟩
  answer := plain_silenceLaw.keeps
  response _ _ _ hs := hs
  weaken := id
  run {s} hop hs := by
    obtain ⟨hfaults, hisland, hsilent, harmed⟩ := hs
    rw [hop] at hisland
    refine ⟨hfaults, ⟨fun hi => (nomatch hi), fun hi => nomatch hisland.mpr hi⟩, fun hi => (nomatch hi), fun hno => ?_⟩
    exact ⟨(harmed hno).left, by simp⟩
  pass {s} hop hs := by
    obtain ⟨hfaults, hisland, hsilent, harmed⟩ := hs
    rw [hop] at hisland
    refine ⟨hfaults, ⟨fun hi => (nomatch hi), fun hi => nomatch hisland.mpr hi⟩, fun hi => (nomatch hi), fun hno => ?_⟩
    exact ⟨(harmed hno).left, by simp⟩
  arm hs := by
    obtain ⟨hfaults, hisland, hsilent, -⟩ := hs
    exact ⟨hfaults, hisland, hsilent, fun hno => nomatch hno⟩
  soft {s} hs := by
    refine ⟨rfl, ⟨fun hi => (nomatch hi), fun hi => (nomatch hi)⟩, fun hi => (nomatch hi), fun hno => ⟨?_, fun hi => nomatch hi⟩⟩
    have harmed : s.supervision.armed = false := hno
    have htimer : (softCleared s).supervision.timer = if s.supervision.armed then some s.timebase else none := rfl
    rw [htimer, harmed]
    rfl
  shadow _ _ hs := hs
  schedule _ _ _ _ hs := hs
  lock _ _ hs := hs
  unlock _ hs := hs
  discard _ hs := hs

theorem silenceLaw_cleared (strap : StrapMode) (a b index : Bool) : SilenceLaw (State.cleared strap a b index) :=
  ⟨rfl, ⟨fun hi => (nomatch hi), fun hi => (nomatch hi)⟩, fun hi => (nomatch hi), fun _ => ⟨rfl, fun hi => nomatch hi⟩⟩

end Sys2Proof.Safety
end

section
/-! SUPPORT. The shape of the state and the laws of the banks, carried through every command. -/

set_option Elab.async false

namespace Sys2Proof.Machine

open Sys2Proof.Safety

/-! ## Masks, locks and the places of the copies (R188, R194 to R198) -/

theorem mem_maskTables {mask : Word} {t : Nat} : t ∈ maskTables mask ↔ t < 9 ∧ bitOf mask t = true := by
  simp [maskTables]

/-- One value written at the places named, read back at place `k`. -/
theorem getElem?_foldl_set {α : Type} (ts : List Nat) (l : List α) (v : α) (k : Nat) :
    (ts.foldl (fun acc t => acc.set t v) l)[k]? = if k ∈ ts ∧ k < l.length then some v else l[k]? := by
  induction ts generalizing l with
  | nil => simp
  | cons t ts ih =>
    rw [List.foldl_cons, ih, List.length_set]
    by_cases hk : k < l.length
    · by_cases ht : t = k
      · subst ht
        simp [hk]
      · simp [hk, ht, Ne.symm ht]
    · simp [hk]

theorem length_foldl_set {α : Type} (ts : List Nat) (l : List α) (v : α) :
    (ts.foldl (fun acc t => acc.set t v) l).length = l.length := by
  induction ts generalizing l with
  | nil => rfl
  | cons t ts ih => rw [List.foldl_cons, ih, List.length_set]

theorem locked_setLocks {mask : Word} {v : Bool} {s : State} {t : Nat} :
    (setLocks mask v s).locked t = if t ∈ maskTables mask ∧ t < s.banks.locks.length then v else s.locked t := by
  simp only [State.locked, setLocks, List.getD_eq_getElem?_getD]
  rw [getElem?_foldl_set]
  split <;> rfl

/-- A mask none of whose tables is locked. -/
theorem locked_of_lockedMask_eq_zero {s : State} {mask : Word} (h : s.lockedMask mask = 0) {t : Nat} (ht : t < 9)
    (hbit : bitOf mask t = true) : s.locked t = false := by
  rw [State.lockedMask, List.sum_eq_zero_iff] at h
  by_contra hlocked
  have hmem : t ∈ (maskTables mask).filter s.locked :=
    List.mem_filter.mpr ⟨mem_maskTables.mpr ⟨ht, hbit⟩, by simpa using hlocked⟩
  exact absurd (h _ (List.mem_map_of_mem hmem)) (by positivity)

/-- What the places of a mask's copies changing leaves of the banks. -/
theorem swapTables_rest (ts : List Nat) (b : Banks) :
    ts.foldl swapTable b = { b with active := (ts.foldl swapTable b).active, shadow := (ts.foldl swapTable b).shadow } := by
  induction ts generalizing b with
  | nil => rfl
  | cons t ts ih =>
    rw [List.foldl_cons, ih]
    rfl

/-- A table outside the mask keeps its ACTIVE copy. -/
theorem swapTables_active_of_notMem {ts : List Nat} {b : Banks} {k : Nat} (h : k ∉ ts) :
    (ts.foldl swapTable b).active[k]? = b.active[k]? := by
  induction ts generalizing b with
  | nil => rfl
  | cons t ts ih =>
    rw [List.mem_cons, not_or] at h
    rw [List.foldl_cons, ih h.right, swapTable]
    simp [Ne.symm h.left]

theorem swapTables_sizes {ts : List Nat} {b : Banks} (ha : b.active.map (fun c => c.words.length) = tableSizes)
    (hsh : b.shadow.map (fun c => c.words.length) = tableSizes) :
    (ts.foldl swapTable b).active.map (fun c => c.words.length) = tableSizes ∧
      (ts.foldl swapTable b).shadow.map (fun c => c.words.length) = tableSizes := by
  have hlength := congrArg List.length (ha.trans hsh.symm)
  rw [List.length_map, List.length_map] at hlength
  induction ts generalizing b with
  | nil => exact ⟨ha, hsh⟩
  | cons t ts ih =>
    refine ih ?_ ?_ (by simpa [swapTable] using hlength)
    · exact map_size_set ha (fun ht => size_of_sizes hsh (hlength ▸ ht))
    · exact map_size_set hsh (fun ht => size_of_sizes ha (hlength ▸ ht))

end Sys2Proof.Machine

namespace Sys2Proof.Safety

open Sys2Proof.Machine

/-! ## The shape (R3, R16, R22, R41, R63, R77, R113, R159, R168, R188) -/

/-- The part of the shape that the fields of `plainView` show. -/
def PlainShape (s : State) : Prop :=
  s.points.length = 256 ∧ s.faults.length = 64 ∧ s.banks.locks.length = 9 ∧
  s.banks.active.map (fun c => c.words.length) = tableSizes ∧ s.banks.shadow.map (fun c => c.words.length) = tableSizes ∧
  s.flight.length ≤ 4 ∧ s.log.records.length ≤ 64

theorem shaped_iff {s : State} : Shaped s ↔ PlainShape s ∧ Sized s := by
  simp only [Shaped, PlainShape, Sized]
  tauto

theorem log_length_le_of_managed {s t : State} (h : Managed s t) (hs : s.log.records.length ≤ 64) :
    t.log.records.length ≤ 64 := by
  induction h with
  | refl => exact hs
  | place k kind c _ ih =>
    simp only [logPlace, List.length_append, List.length_singleton]
    split
    · omega
    · rw [List.length_drop]
      omega
  | spot sp _ ih => exact ih
  | record k r _ _ ih => exact ih

theorem plain_shaped : Plain False Shaped where
  quiet {s t} hs hv hz := by
    obtain ⟨hplain, hsized⟩ := shaped_iff.mp hs
    have hpoints := eq_of_view hv State.points
    have hfaults := eq_of_view hv State.faults
    have hlocks := eq_of_view hv (fun u => u.banks.locks)
    have hactive := eq_of_view hv (fun u => u.banks.active)
    have hshadow := eq_of_view hv (fun u => u.banks.shadow)
    have hflight := eq_of_view hv State.flight
    have hlog := eq_of_view hv State.log
    refine shaped_iff.mpr ⟨?_, hz hsized⟩
    simpa only [PlainShape, hpoints, hfaults, hlocks, hactive, hshadow, hflight, hlog] using hplain
  points ps hlength _ hs := by
    obtain ⟨hpoints, rest⟩ := hs
    exact ⟨hlength.trans hpoints, rest⟩
  managed {s t} hm _ hs := by
    obtain ⟨⟨hpoints, hfaults, hlocks, hactive, hshadow, hflight, hlog⟩, hsized⟩ := shaped_iff.mp hs
    have hout := hm.outside
    have hrest : Sized (outsideFaults t) := by
      rw [hout]
      exact hsized
    refine shaped_iff.mpr ⟨⟨?_, ?_, ?_, ?_, ?_, ?_, log_length_le_of_managed hm hlog⟩, hrest⟩
    · rw [eq_of_view hout State.points]
      exact hpoints
    · rw [hm.faults_length]
      exact hfaults
    · rw [eq_of_view hout State.banks]
      exact hlocks
    · rw [eq_of_view hout State.banks]
      exact hactive
    · rw [eq_of_view hout State.banks]
      exact hshadow
    · rw [eq_of_view hout State.flight]
      exact hflight

theorem unwatched_shaped : Unwatched Shaped := plain_shaped.unwatched (fun _ _ hs => hs)

theorem Shaped.with_flight {s : State} (hs : Shaped s) {l : List FlightRecord} (hl : l.length ≤ 4) :
    Shaped { s with flight := l } := by
  obtain ⟨⟨hpoints, hfaults, hlocks, hactive, hshadow, -, hlog⟩, hsized⟩ := shaped_iff.mp hs
  exact shaped_iff.mpr ⟨⟨hpoints, hfaults, hlocks, hactive, hshadow, hl, hlog⟩, hsized⟩

theorem Shaped.with_banks {s : State} (hs : Shaped s) {b : Banks} (hlocks : b.locks.length = 9)
    (hactive : b.active.map (fun c => c.words.length) = tableSizes)
    (hshadow : b.shadow.map (fun c => c.words.length) = tableSizes) : Shaped { s with banks := b } := by
  obtain ⟨⟨hpoints, hfaults, -, -, -, hflight, hlog⟩, hsized⟩ := shaped_iff.mp hs
  exact shaped_iff.mpr ⟨⟨hpoints, hfaults, hlocks, hactive, hshadow, hflight, hlog⟩, hsized⟩

/-- The list has room for a record once a full one has been pushed out (R16). -/
theorem flight_pushOut_length {s : State} (hs : s.flight.length ≤ 4) : (pushOut s).flight.length ≤ 3 := by
  unfold pushOut
  split
  next r rest hlist =>
    split
    next hfull =>
      have hflight := eq_of_view (outsideMoves_raise fcLatency r.cycle
        (bankDrain { s with flight := rest, retLane := s.retLane.keeping [r] })) State.flight
      have hdrained : (bankDrain { s with flight := rest, retLane := s.retLane.keeping [r] }).flight = rest := by
        unfold bankDrain
        split <;> rfl
      rw [hflight, hdrained]
      rw [hlist, List.length_cons] at hs
      omega
    · omega
  next hlist => simp [hlist]

theorem shaped_softCleared {s : State} (hs : Shaped s) : Shaped (softCleared s) := by
  obtain ⟨⟨-, -, hlocks, hactive, hshadow, -, hlog⟩, -, -, -, -, hseen, hstored, hbytes, hout, hret⟩ := shaped_iff.mp hs
  refine shaped_iff.mpr ⟨⟨List.length_replicate, List.length_replicate, hlocks, hactive, hshadow, Nat.zero_le _, hlog⟩,
    List.length_replicate, rfl, .inl rfl, .inl rfl, hseen, hstored, hbytes, hout, ?_⟩
  have hrecv : (softCleared s).retLane.recv = s.retLane.recv := keeping_recv _ _
  rw [hrecv]
  exact hret

theorem serves_shaped : Serves Shaped Shaped where
  toKeeps := plain_shaped.keeps
  flights l hl _ hs := by
    obtain ⟨-, -, -, -, -, -, hflight, -⟩ := id hs
    exact hs.with_flight (hl.trans hflight)
  drain hs := by
    unfold bankDrain
    split
    · obtain ⟨-, -, -, hlocks, hactive, hshadow, -⟩ := id hs
      exact hs.with_banks hlocks hactive hshadow
    · exact hs
  bind {s} hs hp := by
    obtain ⟨-, -, -, -, -, -, hflight, -⟩ := hs
    refine keeps_bindOut plain_shaped.keeps (hp.with_flight ?_)
    have hroom := flight_pushOut_length hflight
    rw [List.length_append, List.length_singleton]
    omega
  swap {s} mask _ hs := by
    obtain ⟨-, -, -, hlocks, hactive, hshadow, -⟩ := id hs
    refine keeps_swapExchange plain_shaped.keeps (fun u hu => reforms_fatSwap plain_shaped.reforms hu) ?_
    obtain ⟨ha, hsh⟩ := swapTables_sizes (ts := maskTables mask) hactive hshadow
    refine hs.with_banks ?_ ha hsh
    rw [swapTables_rest]
    exact hlocks
  goodCycle := unwatched_goodCycleEnd unwatched_shaped
  expire _ := unwatched_expireSupervision unwatched_shaped
  island _ := unwatched_islandDue unwatched_shaped
  answer := plain_shaped.keeps
  response l hl _ hs := by
    obtain ⟨-, -, -, -, -, -, hflight, -⟩ := id hs
    exact hs.with_flight (hl.trans hflight)
  weaken := id
  run _ hs := hs
  pass _ hs := hs
  arm hs := hs
  soft := shaped_softCleared
  shadow l hl hs := by
    obtain ⟨-, -, -, hlocks, hactive, hshadow, -⟩ := id hs
    exact hs.with_banks hlocks hactive (hl hactive hshadow)
  schedule mask g _ _ hs := by
    obtain ⟨-, -, -, hlocks, hactive, hshadow, -⟩ := id hs
    exact hs.with_banks hlocks hactive hshadow
  lock mask _ hs := by
    obtain ⟨-, -, -, hlocks, hactive, hshadow, -⟩ := id hs
    exact hs.with_banks ((length_foldl_set ..).trans hlocks) hactive hshadow
  unlock mask hs := by
    obtain ⟨-, -, -, hlocks, hactive, hshadow, -⟩ := id hs
    exact hs.with_banks ((length_foldl_set ..).trans hlocks) hactive hshadow
  discard {s} q hs := by
    obtain ⟨⟨hpoints, hfaults, hlocks, hactive, hshadow, hflight, hlog⟩, hsized⟩ := shaped_iff.mp hs
    refine shaped_iff.mpr ⟨⟨hpoints, hfaults, hlocks, hactive, hshadow, hflight, ?_⟩, hsized⟩
    show (s.log.discard q).records.length ≤ 64
    unfold FaultLog.discard
    split
    · rw [List.length_drop]
      omega
    · exact hlog

/-- The tables after pin reset have their sizes (R188). -/
theorem sizes_reset : (tableSizes.map TableCopy.reset).map (fun c => c.words.length) = tableSizes := by
  rw [List.map_map]
  exact (List.map_congr_left (fun n _ => List.length_replicate)).trans (List.map_id _)

theorem shaped_cleared (strap : StrapMode) (a b index : Bool) : Shaped (State.cleared strap a b index) :=
  shaped_iff.mpr ⟨⟨List.length_replicate, List.length_replicate, rfl, sizes_reset, sizes_reset, Nat.zero_le _, Nat.zero_le _⟩,
    List.length_replicate, rfl, .inl rfl, .inl rfl, Nat.zero_le _, Nat.zero_le _, Nat.zero_le _, Nat.zero_le _, Nat.zero_le _⟩

/-! ## The banks (R189, R190, R194, R197) -/

/-- The laws of the banks, with the ACTIVE copies of the tables locked in `s` unchanged from `s`. -/
def BanksSince (s t : State) : Prop :=
  ListLaw t ∧ LockLaw t ∧ ∀ k, k < 9 → s.locked k = true → t.banks.active[k]? = s.banks.active[k]?

/-- The same before UNLOCK: what was locked is so still. -/
def LockedSince (s t : State) : Prop := BanksSince s t ∧ ∀ k, k < 9 → s.locked k = true → t.locked k = true

/-- What these laws read. -/
theorem banksSince_congr {s t u : State} (hflight : u.flight = t.flight) (hactive : u.banks.active = t.banks.active)
    (hlocks : u.banks.locks = t.banks.locks) (hgen : u.banks.generation = t.banks.generation)
    (hstatus : u.banks.status = t.banks.status) (h : BanksSince s t) : BanksSince s u := by
  simpa only [BanksSince, ListLaw, LockLaw, State.locked, hflight, hactive, hlocks, hgen, hstatus] using h

theorem lockedSince_congr {s t u : State} (hflight : u.flight = t.flight) (hactive : u.banks.active = t.banks.active)
    (hlocks : u.banks.locks = t.banks.locks) (hgen : u.banks.generation = t.banks.generation)
    (hstatus : u.banks.status = t.banks.status) (h : LockedSince s t) : LockedSince s u := by
  obtain ⟨hbanks, hlocked⟩ := h
  refine ⟨banksSince_congr hflight hactive hlocks hgen hstatus hbanks, ?_⟩
  simpa only [State.locked, hlocks] using hlocked

theorem plain_banksSince (s : State) : Plain False (BanksSince s) where
  quiet h hv _ := banksSince_congr (eq_of_view hv State.flight) (eq_of_view hv (fun u => u.banks.active))
    (eq_of_view hv (fun u => u.banks.locks)) (eq_of_view hv (fun u => u.banks.generation))
    (eq_of_view hv (fun u => u.banks.status)) h
  points _ _ _ h := h
  managed hm _ h := by
    have hb := eq_of_view hm.outside State.banks
    exact banksSince_congr (eq_of_view hm.outside State.flight) (by rw [hb]) (by rw [hb]) (by rw [hb]) (by rw [hb]) h

theorem plain_lockedSince (s : State) : Plain False (LockedSince s) where
  quiet h hv _ := lockedSince_congr (eq_of_view hv State.flight) (eq_of_view hv (fun u => u.banks.active))
    (eq_of_view hv (fun u => u.banks.locks)) (eq_of_view hv (fun u => u.banks.generation))
    (eq_of_view hv (fun u => u.banks.status)) h
  points _ _ _ h := h
  managed hm _ h := by
    have hb := eq_of_view hm.outside State.banks
    exact lockedSince_congr (eq_of_view hm.outside State.flight) (by rw [hb]) (by rw [hb]) (by rw [hb]) (by rw [hb]) h

theorem unwatched_lockedSince (s : State) : Unwatched (LockedSince s) := (plain_lockedSince s).unwatched (fun _ _ h => h)

/-- A list whose generations all stand in the one before keeps the law of the list. -/
theorem ListLaw.of_generations {s : State} (law : ListLaw s) {l : List FlightRecord}
    (hl : ∀ x ∈ l, ∃ r ∈ s.flight, x.generation = r.generation) : ListLaw { s with flight := l } := by
  obtain ⟨hbound, hactive⟩ := law
  refine ⟨fun x hx => ?_, fun hstatus x hx => ?_⟩
  · obtain ⟨r, hr, hgen⟩ := hl x hx
    rw [hgen]
    exact hbound r hr
  · obtain ⟨r, hr, hgen⟩ := hl x hx
    rw [hgen]
    exact hactive hstatus r hr

theorem ListLaw.drain {s : State} (law : ListLaw s) : ListLaw (bankDrain s) := by
  unfold bankDrain
  split
  next h =>
    obtain ⟨-, hall⟩ := h
    have hgen : ∀ r ∈ s.flight, r.generation = s.banks.generation := by simpa using hall
    exact ⟨fun r hr => .inl (hgen r hr), fun _ => hgen⟩
  · exact law

theorem ListLaw.append {s : State} (law : ListLaw s) {r : FlightRecord} (hr : r.generation = s.banks.generation) :
    ListLaw { s with flight := s.flight ++ [r] } := by
  obtain ⟨hbound, hactive⟩ := law
  refine ⟨fun x hx => ?_, fun hstatus x hx => ?_⟩
  · rcases List.mem_append.mp hx with hx | hx
    · exact hbound x hx
    · rw [List.mem_singleton.mp hx]
      exact .inl hr
  · rcases List.mem_append.mp hx with hx | hx
    · exact hactive hstatus x hx
    · rw [List.mem_singleton.mp hx]
      exact hr

/-- The swap (R196) finds every record on the generation it leaves, so it drains unless the list is empty. -/
theorem ListLaw.swap {s : State} (law : ListLaw s) {mask : Word} (hstatus : s.banks.status = .scheduled mask) :
    ListLaw (swapBanks mask s) := by
  obtain ⟨-, hactive⟩ := law
  have hold : ∀ r ∈ s.flight, r.generation = s.banks.generation := hactive (by simp [hstatus])
  refine ⟨fun r hr => .inr (congrArg (· + 1) (hold r hr)), fun hidle r hr => ?_⟩
  have hne : s.flight ≠ [] := List.ne_nil_of_mem hr
  have holder : (!s.flight.isEmpty && s.flight.all (fun r => r.generation == s.banks.generation)) = true := by
    simpa [hne] using hold
  exact absurd (show (swapBanks mask s).banks.status = .draining by simp only [swapBanks, holder, if_true]) hidle

theorem swapBanks_status (mask : Word) (s : State) :
    (swapBanks mask s).banks.status = .draining ∨ (swapBanks mask s).banks.status = .idle := by
  simp only [swapBanks]
  split
  · exact .inl rfl
  · exact .inr rfl

/-- No exchange is scheduled, so none names a locked table. -/
theorem lockLaw_of_not_scheduled {s : State} (h : ∀ mask, s.banks.status ≠ .scheduled mask) : LockLaw s :=
  fun mask hstatus => absurd hstatus (h mask)

theorem LockLaw.drain {s : State} (law : LockLaw s) : LockLaw (bankDrain s) := by
  unfold bankDrain
  split
  · exact lockLaw_of_not_scheduled (fun _ hno => nomatch hno)
  · exact law

theorem LockedSince.drain {s t : State} (h : LockedSince s t) : LockedSince s (bankDrain t) := by
  obtain ⟨⟨hlist, hlock, hactive⟩, hlocked⟩ := h
  have hbanks : (bankDrain t).banks.active = t.banks.active ∧ (bankDrain t).banks.locks = t.banks.locks := by
    unfold bankDrain
    split
    · exact ⟨rfl, rfl⟩
    · exact ⟨rfl, rfl⟩
  obtain ⟨ha, hl⟩ := hbanks
  refine ⟨⟨hlist.drain, hlock.drain, ?_⟩, ?_⟩
  · simpa only [ha] using hactive
  · simpa only [State.locked, hl] using hlocked

theorem LockedSince.swap {s t : State} (h : LockedSince s t) {mask : Word} (hstatus : t.banks.status = .scheduled mask) :
    LockedSince s (swapBanks mask t) := by
  obtain ⟨⟨hlist, hlock, hactive⟩, hlocked⟩ := h
  have hlocks : (swapBanks mask t).banks.locks = t.banks.locks := by
    simp only [swapBanks]
    rw [swapTables_rest]
  have hkeeps : ∀ k, k < 9 → s.locked k = true → (swapBanks mask t).banks.active[k]? = t.banks.active[k]? := by
    intro k hk hl
    refine swapTables_active_of_notMem (fun hmem => ?_)
    obtain ⟨-, hbit⟩ := mem_maskTables.mp hmem
    have hfree := hlock mask hstatus k hk hbit
    rw [hlocked k hk hl] at hfree
    cases hfree
  refine ⟨⟨hlist.swap hstatus, ?_, fun k hk hl => (hkeeps k hk hl).trans (hactive k hk hl)⟩, ?_⟩
  · refine lockLaw_of_not_scheduled (fun m hm => ?_)
    rcases swapBanks_status mask t with hd | hi
    · rw [hm] at hd
      cases hd
    · rw [hm] at hi
      cases hi
  · simpa only [State.locked, hlocks] using hlocked

theorem LockedSince.soft {s t : State} (h : LockedSince s t) : LockedSince s (softCleared t) := by
  obtain ⟨⟨-, hlock, hactive⟩, hlocked⟩ := h
  refine ⟨⟨⟨fun r hr => (nomatch hr), fun _ r hr => (nomatch hr)⟩, fun mask hm => ?_, hactive⟩, hlocked⟩
  have hstatus : t.banks.status.softReset = .scheduled mask := hm
  refine hlock mask ?_
  cases hb : t.banks.status with
  | idle => rw [hb] at hstatus; cases hstatus
  | draining => rw [hb] at hstatus; cases hstatus
  | scheduled m => rw [hb] at hstatus; exact hstatus

theorem serves_lockedSince (s : State) : Serves (LockedSince s) (BanksSince s) where
  toKeeps := (plain_lockedSince s).keeps
  flights l _ hl h := by
    obtain ⟨⟨hlist, hlock, hactive⟩, hlocked⟩ := h
    exact ⟨⟨hlist.of_generations hl, hlock, hactive⟩, hlocked⟩
  drain h := h.drain
  bind _ hp := by
    obtain ⟨⟨hlist, hlock, hactive⟩, hlocked⟩ := hp
    exact keeps_bindOut (plain_lockedSince s).keeps ⟨⟨hlist.append rfl, hlock, hactive⟩, hlocked⟩
  swap mask hstatus h := keeps_swapExchange (plain_lockedSince s).keeps
    (fun u hu => reforms_fatSwap (plain_lockedSince s).reforms hu) (h.swap hstatus)
  goodCycle := unwatched_goodCycleEnd (unwatched_lockedSince s)
  expire _ := unwatched_expireSupervision (unwatched_lockedSince s)
  island _ := unwatched_islandDue (unwatched_lockedSince s)
  answer := (plain_banksSince s).keeps
  response l _ hl h := by
    obtain ⟨hlist, hlock, hactive⟩ := h
    exact ⟨hlist.of_generations hl, hlock, hactive⟩
  weaken h := h.left
  run _ h := h
  pass _ h := h
  arm h := h
  soft h := h.soft
  shadow _ _ h := h
  schedule {t} mask g hmask hidle h := by
    obtain ⟨⟨⟨hbound, hgen⟩, -, hactive⟩, hlocked⟩ := h
    have hnot : t.banks.status ≠ .draining := by simp [hidle]
    refine ⟨⟨⟨hbound, fun _ => hgen hnot⟩, fun m hm k hk hbit => ?_, hactive⟩, hlocked⟩
    cases hm
    exact locked_of_lockedMask_eq_zero hmask hk hbit
  lock {t} mask hfree h := by
    obtain ⟨⟨hlist, -, hactive⟩, hlocked⟩ := h
    refine ⟨⟨hlist, lockLaw_of_not_scheduled (fun m hm => ?_), hactive⟩, fun k hk hl => ?_⟩
    · have hstatus : t.banks.status = .scheduled m := hm
      rw [hstatus] at hfree
      cases hfree
    · rw [locked_setLocks, hlocked k hk hl, ite_self]
  unlock {t} mask h := by
    obtain ⟨⟨hlist, hlock, hactive⟩, -⟩ := h
    refine ⟨hlist, fun m hm k hk hbit => ?_, hactive⟩
    rw [locked_setLocks]
    split
    · rfl
    · exact hlock m hm k hk hbit
  discard _ h := h

theorem listLaw_cleared (strap : StrapMode) (a b index : Bool) : ListLaw (State.cleared strap a b index) :=
  ⟨fun _ hr => (nomatch hr), fun _ _ hr => (nomatch hr)⟩

theorem lockLaw_cleared (strap : StrapMode) (a b index : Bool) : LockLaw (State.cleared strap a b index) :=
  lockLaw_of_not_scheduled (fun _ hm => nomatch hm)

end Sys2Proof.Safety
end

section
/-! SUPPORT. The action summary and the move, carried through every command, and the statements on what every step keeps. -/

set_option Elab.async false

namespace Sys2Proof.Safety

open Sys2Proof.Machine

/-! ## The actions in effect (R57, R59, R60, R164) -/

theorem summaryFrom_congr {fat : List Word} {k : Nat} {rs qs : List FaultRecord} {m : Summary}
    (h : rs.map (·.latch) = qs.map (·.latch)) : summaryFrom fat k rs m = summaryFrom fat k qs m := by
  induction rs generalizing k qs m with
  | nil => rw [List.map_eq_nil_iff.mp h.symm]
  | cons r rs ih =>
    cases qs with
    | nil => cases h
    | cons q qs =>
      rw [List.map_cons, List.map_cons, List.cons.injEq] at h
      obtain ⟨hlatch, hrest⟩ := h
      rw [summaryFrom, summaryFrom, hlatch]
      exact ih hrest

/-- No code latched, no action in effect. -/
theorem summaryFrom_replicate_reset (fat : List Word) (k n : Nat) (m : Summary) :
    summaryFrom fat k (List.replicate n .reset) m = m := by
  induction n generalizing k with
  | zero => rfl
  | succ n ih => exact ih (k + 1)

/-- Trip seen follows the summary's converter trip, and L is 0 while it is in effect (R57, R59, R60): what of `ActionLaw` stands
while a swap has the summary still formed under the FAT before. -/
def TripLaw (s : State) : Prop :=
  s.envelope.tripSeen = s.summary.trip ∧ (s.summary.trip = true → s.envelope.limit = 0)

theorem actionLaw_iff {s : State} : ActionLaw s ↔ s.summary = s.formSummary ∧ TripLaw s := Iff.rfl

theorem formSummary_congr {s t : State} (hfat : t.fat = s.fat) (h : t.faults.map (·.latch) = s.faults.map (·.latch)) :
    t.formSummary = s.formSummary := by
  rw [State.formSummary, State.formSummary, hfat]
  exact summaryFrom_congr h

/-- The summary formed anew, and the converter trip handed to the envelope unit (R164, R59, R60). -/
theorem recompute_actions (s : State) :
    (recompute s).summary = s.formSummary ∧ (recompute s).formSummary = s.formSummary ∧
    (recompute s).envelope =
      if s.formSummary.trip && !s.summary.trip then { s.envelope with limit := 0, tripSeen := true }
      else if s.summary.trip && !s.formSummary.trip then { s.envelope with tripSeen := false }
      else s.envelope := by
  have houtputs : ∀ (c : Prop) [Decidable c] (u : State), ∃ b : State, (if c then writeFaultOutputs u else u) = b ∧
      b.envelope = u.envelope ∧ b.summary = u.summary ∧ b.formSummary = u.formSummary := by
    intro c _ u
    split
    · exact ⟨_, rfl, rfl, rfl, rfl⟩
    · exact ⟨_, rfl, rfl, rfl, rfl⟩
  obtain ⟨b, hb, henv, hsum, hform⟩ := houtputs (s.summary.derate ≠ s.formSummary.derate ∨
    s.summary.severity ≠ s.formSummary.severity) { s with summary := s.formSummary }
  unfold recompute
  dsimp only
  rw [hb, ← henv]
  split
  · exact ⟨hsum, hform, rfl⟩
  · split
    · exact ⟨hsum, hform, rfl⟩
    · exact ⟨hsum, hform, rfl⟩

/-- A summary formed anew keeps trip seen and L in step with it. -/
theorem actionLaw_recompute {s : State} (h : TripLaw s) : ActionLaw (recompute s) := by
  obtain ⟨hseen, hlimit⟩ := h
  obtain ⟨hsum, hform, henv⟩ := recompute_actions s
  refine actionLaw_iff.mpr ⟨hsum.trans hform.symm, ?_⟩
  rw [TripLaw, hsum, henv]
  cases hnew : s.formSummary.trip
  · cases hold : s.summary.trip
    · simp [hseen, hold]
    · simp
  · cases hold : s.summary.trip
    · simp
    · simpa [hold] using And.intro hseen (hlimit hold)

theorem tripLaw_congr {s t : State} (hsum : t.summary = s.summary) (hseen : t.envelope.tripSeen = s.envelope.tripSeen)
    (hlimit : t.envelope.limit = s.envelope.limit) (h : TripLaw s) : TripLaw t := by
  simpa only [TripLaw, hsum, hseen, hlimit] using h

theorem tripLaw_managed {s t : State} (hm : Managed s t) (h : TripLaw s) : TripLaw t :=
  tripLaw_congr (eq_of_view hm.outside State.summary) (eq_of_view hm.outside (fun u => u.envelope.tripSeen))
    (eq_of_view hm.outside (fun u => u.envelope.limit)) h

theorem free_tripLaw : FreeOfMoves TripLaw where
  quiet h hv _ := tripLaw_congr (eq_of_view hv State.summary) (eq_of_view hv (fun u => u.envelope.tripSeen))
    (eq_of_view hv (fun u => u.envelope.limit)) h
  points _ _ _ h := h
  limit l hl h := by
    obtain ⟨hseen, -⟩ := h
    exact ⟨hseen, fun htrip => hl (hseen.trans htrip)⟩
  managed hm _ h := by
    have ht := tripLaw_managed hm h
    unfold recomputeSince
    split
    · exact ht
    · exact (actionLaw_iff.mp (actionLaw_recompute ht)).right

theorem actionLaw_managed {s t : State} (hm : Managed s t) (h : ActionLaw s) : ActionLaw (recomputeSince s t) := by
  obtain ⟨hsum, htrip⟩ := actionLaw_iff.mp h
  have ht := tripLaw_managed hm htrip
  unfold recomputeSince
  split
  next hlatch =>
    refine actionLaw_iff.mpr ⟨?_, ht⟩
    rw [formSummary_congr (eq_of_view hm.outside State.fat) hlatch]
    exact (eq_of_view hm.outside State.summary).trans hsum
  · exact actionLaw_recompute ht

theorem free_actionLaw : FreeOfMoves ActionLaw where
  quiet {s t} h hv hz := by
    obtain ⟨hsum, htrip⟩ := actionLaw_iff.mp h
    refine actionLaw_iff.mpr ⟨?_, free_tripLaw.quiet htrip hv hz⟩
    rw [eq_of_view hv State.summary, eq_of_view hv State.formSummary]
    exact hsum
  points _ _ _ h := h
  limit l hl h := by
    obtain ⟨hsum, htrip⟩ := actionLaw_iff.mp h
    exact actionLaw_iff.mpr ⟨hsum, free_tripLaw.limit l hl htrip⟩
  managed hm _ h := actionLaw_managed hm h

theorem unwatched_actionLaw : Unwatched ActionLaw where
  toKeeps := free_actionLaw.keeps
  managedAny hm h := free_handHold free_actionLaw (actionLaw_managed hm h) _
  supervise _ _ h := h

/-- A swap that brings in no new FAT leaves the ACTIVE one. -/
theorem fat_swapBanks {mask : Word} {s : State} (h : bitOf mask 7 = false) : (swapBanks mask s).fat = s.fat := by
  have hkept : (swapBanks mask s).banks.active[7]? = s.banks.active[7]? := by
    refine swapTables_active_of_notMem (fun hmem => ?_)
    obtain ⟨-, hbit⟩ := mem_maskTables.mp hmem
    rw [h] at hbit
    cases hbit
  simp only [State.fat, State.active, List.getD_eq_getElem?_getD, hkept]

/-- The swap forms the summary anew under a new FAT (R158, R164), and leaves its codes' actions under the same one. -/
theorem actionLaw_swap {s : State} (mask : Word) (h : ActionLaw s) : ActionLaw (swapExchange mask s) := by
  obtain ⟨hsum, htrip⟩ := actionLaw_iff.mp h
  cases hfat : bitOf mask 7
  · have hbanks : ActionLaw (swapBanks mask s) := by
      refine actionLaw_iff.mpr ⟨?_, htrip⟩
      rw [formSummary_congr (fat_swapBanks hfat) rfl]
      exact hsum
    have hreform : Reforms ActionLaw := fun hm _ hs =>
      free_handHold free_actionLaw (actionLaw_recompute (tripLaw_managed hm (actionLaw_iff.mp hs).right)) _
    exact keeps_swapExchange free_actionLaw.keeps (fun u hu => reforms_fatSwap hreform hu) hbanks
  · obtain ⟨u, hu, howners⟩ := swapExchange_owners mask s
    have hbefore : TripLaw u := howners TripLaw free_tripLaw.keeps htrip
    rw [hu, hfat]
    exact free_handHold free_actionLaw (actionLaw_recompute (tripLaw_managed
      (Managed.foldl (fun j hv => hv.watched j) (List.range 16)
        (Managed.foldl (fun k hv => hv.latched k) (List.range 64) Managed.refl)) hbefore)) _

theorem serves_actionLaw : Serves ActionLaw ActionLaw where
  toKeeps := free_actionLaw.keeps
  flights _ _ _ h := h
  drain h := by
    unfold bankDrain
    split
    · exact h
    · exact h
  bind _ hp := keeps_bindOut free_actionLaw.keeps hp
  swap mask _ h := actionLaw_swap mask h
  goodCycle := unwatched_goodCycleEnd unwatched_actionLaw
  expire _ := unwatched_expireSupervision unwatched_actionLaw
  island _ := unwatched_islandDue unwatched_actionLaw
  answer := free_actionLaw.keeps
  response _ _ _ h := h
  weaken := id
  run _ h := h
  pass _ h := h
  arm h := h
  soft {s} _ := by
    refine actionLaw_iff.mpr ⟨?_, rfl, fun hno => nomatch hno⟩
    exact (summaryFrom_replicate_reset _ 0 64 _).symm
  shadow _ _ h := h
  schedule _ _ _ _ h := h
  lock _ _ h := h
  unlock _ h := h
  discard _ h := h

theorem actionLaw_cleared (strap : StrapMode) (a b index : Bool) : ActionLaw (State.cleared strap a b index) :=
  actionLaw_iff.mpr ⟨(summaryFrom_replicate_reset _ 0 64 _).symm, rfl, fun hno => nomatch hno⟩

end Sys2Proof.Safety
end

section
/-! SUPPORT. The law of the move carried through every command: a move stands, is under way on a grant, or is gone. -/

set_option Elab.async false

namespace Sys2Proof.Safety

open Sys2Proof.Machine

/-! ## The move (R97, R115, R127, R132 to R137) -/

/-- The law of the move but for the grant of a running one, as it stands while the arbiter has taken a grant back. -/
def UngrantedLaw (s : State) : Prop :=
  (s.sequencer.phase = .running ↔ s.sequencer.step ≠ 0) ∧
  (s.sequencer.phase = .none ↔ s.sequencer.record.isSome = false) ∧
  (s.sequencer.record.isSome = true ↔ s.arbiter.yawClaim.isSome = true) ∧
  (s.sequencer.record.isSome = true → s.summary.yawHold = false) ∧
  (s.tracker.timer.isSome = true → s.sequencer.step ≠ 0)

theorem moveLaw_iff {s : State} : MoveLaw s ↔
    UngrantedLaw s ∧ (s.sequencer.phase = .running → s.arbiter.yawGrant.isSome = true) := by
  have hnone : s.sequencer.record = none ↔ s.sequencer.record.isSome = false := by simp
  simp only [MoveLaw, UngrantedLaw, hnone]
  tauto

/-- No move is held (R132). -/
def NoMove (s : State) : Prop :=
  s.sequencer.phase = .none ∧ s.sequencer.record = none ∧ s.sequencer.step = 0 ∧ s.arbiter.yawClaim = none ∧
  s.arbiter.yawGrant = none ∧ s.tracker.timer = none

theorem NoMove.moveLaw {s : State} (h : NoMove s) : MoveLaw s := by
  obtain ⟨hphase, hrecord, hstep, hclaim, -, htimer⟩ := h
  simp [MoveLaw, hphase, hrecord, hstep, hclaim, htimer]

/-- A move under way on a grant: what stands between the entries into the steps of a chain (R134). -/
def UnderWay (s : State) : Prop :=
  s.sequencer.phase = .running ∧ s.sequencer.record.isSome = true ∧ s.arbiter.yawClaim.isSome = true ∧
  s.arbiter.yawGrant.isSome = true ∧ s.summary.yawHold = false

theorem UnderWay.moveLaw {s : State} (h : UnderWay s) (hstep : s.sequencer.step ≠ 0) : MoveLaw s := by
  obtain ⟨hphase, hrecord, hclaim, hgrant, hhold⟩ := h
  simp [moveLaw_iff, UngrantedLaw, hphase, hrecord, hstep, hclaim, hgrant, hhold]

/-- A running move that keeps its law is under way. -/
theorem MoveLaw.underWay {s : State} (h : MoveLaw s) (hrun : s.sequencer.phase = .running) : UnderWay s := by
  obtain ⟨⟨-, hnone, hclaim, hhold, -⟩, hgrant⟩ := moveLaw_iff.mp h
  have hrecord : s.sequencer.record.isSome = true := by
    by_contra hno
    have hphase := hnone.mpr (by simpa using hno)
    rw [hrun] at hphase
    cases hphase
  exact ⟨hrun, hrecord, hclaim.mp hrecord, hgrant hrun, hhold hrecord⟩

/-- What the law of the move reads, but for the yaw hold. -/
def moveFields (s : State) : Phase × Nat × Bool × Bool × Bool × Bool :=
  (s.sequencer.phase, s.sequencer.step, s.sequencer.record.isSome, s.arbiter.yawClaim.isSome, s.arbiter.yawGrant.isSome,
    s.tracker.timer.isSome)

theorem moveFields_eq {s t : State} (h : moveFields t = moveFields s) :
    t.sequencer.phase = s.sequencer.phase ∧ t.sequencer.step = s.sequencer.step ∧
    t.sequencer.record.isSome = s.sequencer.record.isSome ∧ t.arbiter.yawClaim.isSome = s.arbiter.yawClaim.isSome ∧
    t.arbiter.yawGrant.isSome = s.arbiter.yawGrant.isSome ∧ t.tracker.timer.isSome = s.tracker.timer.isSome := by
  simpa only [moveFields, Prod.mk.injEq] using h

theorem UngrantedLaw.of_fields {s t : State} (law : UngrantedLaw s) (h : moveFields t = moveFields s)
    (hhold : s.sequencer.record.isSome = true → t.summary.yawHold = false) : UngrantedLaw t := by
  obtain ⟨hphase, hstep, hrecord, hclaim, -, htimer⟩ := moveFields_eq h
  obtain ⟨hrun, hnone, hclaims, -, hedges⟩ := law
  unfold UngrantedLaw
  rw [hphase, hstep, hrecord, hclaim, htimer]
  exact ⟨hrun, hnone, hclaims, hhold, hedges⟩

theorem MoveLaw.of_fields {s t : State} (law : MoveLaw s) (h : moveFields t = moveFields s)
    (hhold : s.sequencer.record.isSome = true → t.summary.yawHold = false) : MoveLaw t := by
  obtain ⟨hungranted, hgrant⟩ := moveLaw_iff.mp law
  refine moveLaw_iff.mpr ⟨hungranted.of_fields h hhold, ?_⟩
  obtain ⟨hphase, -, -, -, hgranted, -⟩ := moveFields_eq h
  rw [hphase, hgranted]
  exact hgrant

/-- The same where the yaw hold stands. -/
theorem MoveLaw.of_same {s t : State} (law : MoveLaw s) (h : moveFields t = moveFields s)
    (hhold : t.summary.yawHold = s.summary.yawHold) : MoveLaw t := by
  obtain ⟨⟨-, -, -, hheld, -⟩, -⟩ := moveLaw_iff.mp law
  exact law.of_fields h (fun hrecord => hhold.trans (hheld hrecord))

/-! ### The end of a move (R132, R137) -/

/-- The blocks that a move concerns but for the decision. -/
def moverView (s : State) : Sequencer × Arbiter × Tracker := (s.sequencer, s.arbiter, s.tracker)

theorem moverView_judgeQuiet (k : Nat) (b : Bool) (c : Int) (s : State) : moverView (judgeQuiet k b c s) = moverView s :=
  eq_of_view (outsideActions_judgeQuiet k b c s) moverView

theorem moverView_blockRefused (s : State) : moverView (blockRefused s) = moverView s := by
  unfold blockRefused
  dsimp only
  rw [moverView_judgeQuiet]
  split
  · rw [moverView_judgeQuiet]
    rfl
  · rfl

/-- The decision's answer to the end of a move leaves the sequencer, the arbiter and the tracker. -/
theorem moverView_decisionMoveEnd (mode : YawMode) (cause : EndCause) (s : State) :
    moverView (decisionMoveEnd mode cause s) = moverView s := by
  have hblock : ∀ (p : Prop) [Decidable p] (u : State), moverView (if p then blockRefused u else u) = moverView u := by
    intro p _ u
    split
    · exact moverView_blockRefused u
    · rfl
  have hseek : ∀ (p : Prop) [Decidable p] (u : State),
      moverView (if p then setYawMode .hold (raiseQuiet fcSeekFailed u.tracker.heading u) else u) = moverView u := by
    intro p _ u
    split
    · exact eq_of_view (outsideActions_raiseQuiet fcSeekFailed u.tracker.heading u) moverView
    · rfl
  exact (hseek _ _).trans (hblock _ _)

theorem trackerStepEntry_rest (k : Nat) (motion : Bool) (d : Int) (s : State) :
    (trackerStepEntry k motion d s).sequencer = s.sequencer ∧ (trackerStepEntry k motion d s).arbiter = s.arbiter ∧
    (trackerStepEntry k motion d s).summary = s.summary := by
  unfold trackerStepEntry startEdgeTimer
  split
  · exact ⟨rfl, rfl, rfl⟩
  · split
    · exact ⟨rfl, rfl, rfl⟩
    · exact ⟨rfl, rfl, rfl⟩

/-- The end of a move whose edge timer does not run in step 0 (R132). -/
theorem noMove_endMove {s : State} (cause : EndCause) (hrecord : s.sequencer.record.isSome = true)
    (htimer : s.sequencer.step = 0 → s.tracker.timer = none) : NoMove (endMove cause s) := by
  obtain ⟨r, hr⟩ := Option.isSome_iff_exists.mp hrecord
  have hgone : ∀ u : State, u.sequencer.step = 0 → u.tracker.timer = none →
      NoMove (decisionMoveEnd r.mode cause { u with
        sequencer := { u.sequencer with record := none, phase := .none }
        arbiter := { u.arbiter with yawClaim := none, yawGrant := none } }) := by
    intro u hstep htimer
    have hview := moverView_decisionMoveEnd r.mode cause { u with
        sequencer := { u.sequencer with record := none, phase := .none }
        arbiter := { u.arbiter with yawClaim := none, yawGrant := none } }
    simp only [moverView, Prod.mk.injEq] at hview
    obtain ⟨hseq, harb, htrack⟩ := hview
    unfold NoMove
    rw [hseq, harb, htrack]
    exact ⟨rfl, rfl, hstep, rfl, rfl, htimer⟩
  unfold endMove
  rw [hr]
  dsimp only
  split
  next hstep => exact hgone s hstep (htimer hstep)
  · exact hgone (enterParked s) rfl rfl

/-- The end of a move that keeps its law. -/
theorem UngrantedLaw.noMove_endMove {s : State} (law : UngrantedLaw s) (cause : EndCause) (hphase : s.sequencer.phase ≠ .none) :
    NoMove (endMove cause s) := by
  obtain ⟨-, hnone, -, -, htimer⟩ := law
  refine Safety.noMove_endMove cause ?_ (fun hstep => ?_)
  · by_contra hno
    exact hphase (hnone.mpr (by simpa using hno))
  · by_contra hno
    exact htimer (Option.isSome_iff_ne_none.mpr hno) hstep

/-- The yaw hold handed to the sequencer (R137): the move stands, or is gone. -/
theorem UngrantedLaw.handHold {s u : State} (law : UngrantedLaw s) (h : moveFields u = moveFields s) :
    UngrantedLaw (handHold s.summary.yawHold u) ∧
      (moveFields (handHold s.summary.yawHold u) = moveFields s ∨ NoMove (handHold s.summary.yawHold u)) := by
  obtain ⟨-, hnone, -, hheld, -⟩ := id law
  unfold Machine.handHold
  split
  next hon =>
    obtain ⟨hphase, -, hrecord, -⟩ := moveFields_eq h
    unfold abortMove
    split
    next hidle =>
      rw [hphase] at hidle
      have hno := hnone.mp hidle
      exact ⟨law.of_fields h (fun hyes => absurd hyes (by rw [hno]; decide)), .inl h⟩
    next hmove =>
      have hsome : u.sequencer.record.isSome = true := by
        rw [hrecord]
        by_contra hno
        exact hmove (hphase.trans (hnone.mpr (by simpa using hno)))
      have htimer : u.sequencer.step = 0 → u.tracker.timer = none := by
        obtain ⟨-, hstep, -, -, -, htimers⟩ := moveFields_eq h
        obtain ⟨-, -, -, -, hedges⟩ := law
        intro hzero
        by_contra hno
        rw [← htimers] at hedges
        exact hedges (Option.isSome_iff_ne_none.mpr hno) (hstep ▸ hzero)
      have hgone := Safety.noMove_endMove .aborted hsome htimer
      exact ⟨(moveLaw_iff.mp hgone.moveLaw).left, .inr hgone⟩
  next hoff =>
    refine ⟨law.of_fields h (fun hrecord => ?_), .inl h⟩
    have hbefore := hheld hrecord
    simpa [hbefore] using hoff

theorem MoveLaw.handHold {s u : State} (law : MoveLaw s) (h : moveFields u = moveFields s) :
    MoveLaw (handHold s.summary.yawHold u) := by
  obtain ⟨hungranted, hgrant⟩ := moveLaw_iff.mp law
  obtain ⟨hafter, hfields | hgone⟩ := hungranted.handHold h
  · obtain ⟨hphase, -, -, -, hgranted, -⟩ := moveFields_eq hfields
    refine moveLaw_iff.mpr ⟨hafter, ?_⟩
    rw [hphase, hgranted]
    exact hgrant
  · exact hgone.moveLaw

/-! ### Entries into steps (R128, R131) -/

theorem UnderWay.afterEntry {s : State} (h : UnderWay s) (k : Nat) (start : Option Bool) :
    UnderWay (enterStepOnce k start s) ∧ (enterStepOnce k start s).sequencer.step = k := by
  have htracker : ∀ (motion : Bool) (d : Int) (u : State), UnderWay u ∧ u.sequencer.step = k →
      UnderWay (trackerStepEntry k motion d u) ∧ (trackerStepEntry k motion d u).sequencer.step = k := by
    intro motion d u hu
    obtain ⟨hseq, harb, hsum⟩ := trackerStepEntry_rest k motion d u
    unfold UnderWay
    rw [hseq, harb, hsum]
    exact hu
  have hwritten : ∀ u : State, u.sequencer = s.sequencer → u.arbiter = s.arbiter → u.summary = s.summary →
      UnderWay { u with sequencer := { u.sequencer with step := k, commits := 0, counts := 0 } } := by
    intro u hseq harb hsum
    unfold UnderWay
    dsimp only
    rw [hseq, harb, hsum]
    exact h
  have hstarted : ∀ (resume : Bool) (u : State), UnderWay u → UnderWay (trackerMoveStart resume u) := by
    intro resume u hu
    simpa only [UnderWay, trackerMoveStart] using hu
  have hpattern := hwritten (writePattern k s) (by simp [writePattern]) (by simp [writePattern]) (by simp [writePattern])
  unfold enterStepOnce
  generalize writePattern k s = p at hpattern ⊢
  dsimp only
  cases start with
  | none => exact htracker _ _ { p with sequencer := { p.sequencer with step := k, commits := 0, counts := 0 } } ⟨hpattern, rfl⟩
  | some resume =>
    exact htracker _ _ (trackerMoveStart resume { p with sequencer := { p.sequencer with step := k, commits := 0, counts := 0 } })
      ⟨hstarted resume _ hpattern, rfl⟩

theorem UnderWay.moveLaw_enterStepChain {s : State} (h : UnderWay s) {fuel : Nat} (k : Nat) (start : Option Bool)
    (hstep : fuel ≠ 0 ∨ s.sequencer.step ≠ 0) : MoveLaw (enterStepChain fuel k start s) := by
  induction fuel generalizing k start s with
  | zero => exact h.moveLaw (hstep.resolve_left (fun hno => hno rfl))
  | succ fuel ih =>
    unfold enterStepChain
    dsimp only
    split
    · obtain ⟨-, hrecord, -⟩ := h
      exact (noMove_endMove .completed (s := enterParked s) hrecord (fun _ => rfl)).moveLaw
    next hk =>
      obtain ⟨honce, hat⟩ := h.afterEntry k start
      have hmoved : (enterStepOnce k start s).sequencer.step ≠ 0 := by
        rw [hat]
        exact hk
      split
      · exact ih honce _ _ (.inr hmoved)
      · exact honce.moveLaw hmoved

theorem UnderWay.moveLaw_enterStep {s : State} (h : UnderWay s) (k : Nat) : MoveLaw (enterStep k s) :=
  h.moveLaw_enterStepChain k none (.inl (by decide))

/-! ### Stops, steps, moves taken (R131, R133, R135) -/

theorem MoveLaw.abort {s : State} (law : MoveLaw s) : MoveLaw (abortMove s) := by
  unfold abortMove
  split
  · exact law
  next hphase => exact ((moveLaw_iff.mp law).left.noMove_endMove .aborted hphase).moveLaw

theorem MoveLaw.stop {s : State} (law : MoveLaw s) : MoveLaw (stopMove s) := by
  have hungranted := (moveLaw_iff.mp law).left
  unfold stopMove
  split
  · exact law
  next hphase =>
    split
    · exact law
    · exact (law.underWay hphase).moveLaw_enterStep _
  next hphase => exact (hungranted.noMove_endMove .stopped (by simp [hphase])).moveLaw
  next hphase => exact (hungranted.noMove_endMove .stopped (by simp [hphase])).moveLaw

theorem MoveLaw.step {s : State} (law : MoveLaw s) (d : Int) : MoveLaw (handStep d s) := by
  have hmapped : ∀ commits counts : Nat, MoveLaw { s with sequencer := { s.sequencer with
      record := s.sequencer.record.map (fun r => { r with remaining := r.remaining - d })
      commits := commits, counts := counts } } :=
    fun commits counts => law.of_same (by simp [moveFields]) rfl
  unfold handStep
  dsimp only
  split
  · exact hmapped _ _
  next hstep =>
    split
    · refine ((hmapped _ _).underWay ?_).moveLaw_enterStep _
      exact (moveLaw_iff.mp law).left.left.mpr hstep
    · exact hmapped _ _

theorem MoveLaw.take {s : State} (law : MoveLaw s) (r : MoveRecord) (hhold : s.summary.yawHold = false) :
    MoveLaw (takeMove r s) := by
  unfold takeMove
  split
  next hphase =>
    obtain ⟨⟨hrun, -, -, -, htimer⟩, -⟩ := moveLaw_iff.mp law
    have hzero : s.sequencer.step = 0 := by
      by_contra hno
      have hrunning := hrun.mpr hno
      rw [hphase] at hrunning
      cases hrunning
    refine moveLaw_iff.mpr ⟨⟨?_, ?_, ?_, fun _ => hhold, htimer⟩, fun hno => nomatch hno⟩
    · simp [hzero]
    · simp
    · simp
  · exact law

/-! ### Grants (R102, R104, R134, R136) -/

theorem UngrantedLaw.moveLaw_withdrawGrant {s : State} (law : UngrantedLaw s) : MoveLaw (withdrawGrant s) := by
  have hparked : ∀ u : State, UngrantedLaw u → MoveLaw (withdrawMove u) := by
    intro u hu
    unfold withdrawMove
    split
    next hphase =>
      split
      · exact (hu.noMove_endMove .lost (by simp [hphase])).moveLaw
      · obtain ⟨-, hnone, hclaim, hhold, -⟩ := hu
        rw [hphase] at hnone
        refine moveLaw_iff.mpr ⟨⟨?_, ?_, hclaim, hhold, fun hno => nomatch hno⟩, fun hno => nomatch hno⟩
        · exact ⟨fun hno => (nomatch hno), fun hno => absurd rfl hno⟩
        · exact ⟨fun hno => (nomatch hno), fun hno => nomatch hnone.mpr hno⟩
    next hphase => exact moveLaw_iff.mpr ⟨hu, fun hrun => absurd hrun hphase⟩
  unfold withdrawGrant
  split
  next hphase =>
    have hraised := law.handHold (u := raiseQuiet fcGrantLost s.sequencer.step s)
      (eq_of_view (outsideActions_raiseQuiet _ _ s) moveFields)
    exact hparked _ hraised.left
  next hphase => exact moveLaw_iff.mpr ⟨law, fun hrun => absurd hrun hphase⟩

theorem UngrantedLaw.moveLaw_gainGrant {s : State} (law : UngrantedLaw s) (hgrant : s.arbiter.yawGrant.isSome = true) :
    MoveLaw (gainGrant s) := by
  unfold gainGrant
  split
  · exact moveLaw_iff.mpr ⟨law, fun _ => hgrant⟩
  next r hr =>
    have hrecord : s.sequencer.record.isSome = true := by rw [hr]; rfl
    split
    next hphase =>
      split
      · obtain ⟨-, -, hclaim, hhold, -⟩ := law
        have hway : UnderWay { s with sequencer := { s.sequencer with phase := .running } } :=
          ⟨rfl, hrecord, hclaim.mp hrecord, hgrant, hhold hrecord⟩
        exact hway.moveLaw_enterStepChain _ _ (.inl (by decide))
      · refine (law.noMove_endMove .refused ?_).moveLaw
        rcases hphase with hp | hp
        · simp [hp]
        · simp [hp]
    · exact moveLaw_iff.mpr ⟨law, fun _ => hgrant⟩

/-- What the arbiter hands over restores the grant of a running move, or ends or parks it (R104). -/
theorem UngrantedLaw.moveLaw_handGrant {s : State} {held : Bool} (law : UngrantedLaw s)
    (hheld : s.sequencer.phase = .running → held = true) : MoveLaw (handGrant held s) := by
  unfold handGrant
  split
  · exact law.moveLaw_withdrawGrant
  next hkept =>
    split
    next hgained =>
      refine law.moveLaw_gainGrant ?_
      simp only [Bool.and_eq_true] at hgained
      exact hgained.right
    · refine moveLaw_iff.mpr ⟨law, fun hrun => ?_⟩
      obtain ⟨-, hnone, hclaim, -⟩ := law
      have hrecord : s.sequencer.record.isSome = true := by
        by_contra hno
        have hidle := hnone.mpr (by simpa using hno)
        rw [hrun] at hidle
        cases hidle
      have hclaimed := hclaim.mp hrecord
      cases hgrant : s.arbiter.yawGrant with
      | some g => rfl
      | none => simp [hheld hrun, hgrant, hclaimed] at hkept

/-- The outputs lowered to what the grants pay for (R103). -/
theorem lowered_rest (s : State) : moverView (lowerFan (lowerPump s)) = moverView s ∧
    (lowerFan (lowerPump s)).summary = s.summary := by
  have hpump : moverView (lowerPump s) = moverView s ∧ (lowerPump s).summary = s.summary := by
    unfold lowerPump
    split
    · exact ⟨rfl, rfl⟩
    · exact ⟨rfl, rfl⟩
  obtain ⟨hmover, hsummary⟩ := hpump
  unfold lowerFan
  split
  · exact ⟨hmover, hsummary⟩
  · exact ⟨hmover, hsummary⟩

theorem MoveLaw.grants {s : State} (law : MoveLaw s) :
    MoveLaw (handGrant s.arbiter.yawGrant.isSome (lowerFan (lowerPump (writeGrants s)))) := by
  obtain ⟨hungranted, hgrant⟩ := moveLaw_iff.mp law
  obtain ⟨hmover, hsummary⟩ := lowered_rest (writeGrants s)
  simp only [moverView, Prod.mk.injEq] at hmover
  obtain ⟨hseq, harb, htrack⟩ := hmover
  refine UngrantedLaw.moveLaw_handGrant ?_ ?_
  · unfold UngrantedLaw
    rw [hseq, harb, htrack, hsummary]
    exact hungranted
  · rw [hseq]
    exact hgrant

theorem keeps_moveLaw : Keeps MoveLaw where
  quiet h hv _ := h.of_same (eq_of_view hv moveFields) (eq_of_view hv (fun u => u.summary.yawHold))
  points _ _ _ h := h
  limit _ _ h := h
  managed {s t} hm _ h := by
    refine h.handHold ?_
    have hout : outsideActions (recomputeSince s t) = outsideActions t := outsideActions_recomputeSince s t
    exact (eq_of_view hout moveFields).trans (eq_of_view hm.outside moveFields)
  abort h := h.abort
  stop h := h.stop
  steps d h := h.step d
  take r hhold h := h.take r hhold
  grants h := h.grants
  enter {s} k hrun h := by
    refine (h.underWay ?_).moveLaw_enterStep k
    rcases hrun with hphase | hstep
    · exact hphase
    · exact (moveLaw_iff.mp h).left.left.mpr hstep
  edgeTimer {s} ht h := h.of_same (by simp [moveFields, startEdgeTimer, ht]) rfl

theorem unwatched_moveLaw : Unwatched MoveLaw where
  toKeeps := keeps_moveLaw
  managedAny {s t} hm h := by
    refine h.handHold ?_
    have hout : outsideActions (recomputeSince s t) = outsideActions t := outsideActions_recomputeSince s t
    exact (eq_of_view hout moveFields).trans (eq_of_view hm.outside moveFields)
  supervise _ _ h := h

theorem reforms_moveLaw : Reforms MoveLaw := by
  intro s t hm _ h
  refine h.handHold ?_
  exact (eq_of_view (outsideActions_recompute t) moveFields).trans (eq_of_view hm.outside moveFields)

theorem serves_moveLaw : Serves MoveLaw MoveLaw :=
  unwatched_moveLaw.serves (fun _ h => h) (fun _ h => h) reforms_moveLaw
    (fun _ => NoMove.moveLaw ⟨rfl, rfl, rfl, rfl, rfl, rfl⟩) (fun _ h => h)

theorem moveLaw_cleared (strap : StrapMode) (a b index : Bool) : MoveLaw (State.cleared strap a b index) :=
  NoMove.moveLaw ⟨rfl, rfl, rfl, rfl, rfl, rfl⟩

end Sys2Proof.Safety
end

section
/-! SUPPORT. What a step is: the front command, the reset, and the laws that every step keeps. -/

set_option Elab.async false

namespace Sys2Proof.Machine

open Sys2Proof.Safety

/-! ## Pin reset (R28, R173) -/

/-- The record of TIME_NOT_SET as the release of RESET leaves it. -/
def timeNotSetRecord : FaultRecord := { FaultRecord.reset with condition := true, latch := true, count := 1 }

/-- The FAT after pin reset. -/
def zeroFat : List Word := (Banks.reset.active.getD 7 (.reset 0)).words

/-- The entry of a code in an all-zero FAT: INFO, without an action (R157). -/
def zeroEntry : FaultEntry :=
  { severity := 1, latching := false, report := false, log := false, derate := 0, yawHold := false, pumpBoost := false,
    trip := false }

theorem faultEntry_zeroFat : faultEntry zeroFat 33 = zeroEntry := by decide +kernel

theorem summaryFrom_timeNotSet :
    summaryFrom zeroFat 0 ((List.replicate 64 FaultRecord.reset).set 33 timeNotSetRecord) .reset =
      { Summary.reset with severity := 1 } := by decide +kernel

/-- TIME_NOT_SET raised in a part that has just been cleared: its record alone. -/
theorem raiseRecord_timeNotSet {s : State} (hfaults : s.faults = List.replicate 64 .reset) (hfat : s.fat = zeroFat)
    (hspot : s.spotlight = none) (hclock : s.clock.seconds = 0) :
    raiseRecord fcTimeNotSet 0 s = { s with faults := (List.replicate 64 FaultRecord.reset).set 33 timeNotSetRecord } := by
  have hfault : s.fault 33 = .reset := by rw [State.fault, hfaults]; rfl
  have hentry : s.faultEntry 33 = zeroEntry := by rw [State.faultEntry, hfat, faultEntry_zeroFat]
  have hlog : ∀ t : State, t.faultEntry 33 = s.faultEntry 33 → logIf 33 .raised 0 t = t := by
    intro t ht
    refine if_neg ?_
    rw [ht, hentry]
    decide
  have hset : markSpotlight 33 (s.setFault 33 timeNotSetRecord) = { s with faults := s.faults.set 33 timeNotSetRecord } := by
    simp only [markSpotlight, State.setFault, hspot, Option.map_none]
  unfold raiseRecord
  rw [show fcTimeNotSet = 33 from rfl, hfault, hentry, hclock]
  refine (if_neg (by decide)).trans ?_
  have hraised : raisedRecord (levelCode 33) zeroEntry 0 0 .reset = timeNotSetRecord := by decide
  rw [hraised, hset, hfaults]
  exact hlog _ rfl

/-- Pin reset: the cleared state with TIME_NOT_SET raised, which latches and writes the two points of the fault manager. -/
theorem pinReset_eq (service a b index : Bool) (s : State) :
    pinReset service a b index s = { State.cleared (if service then .service else .normal) a b index with
      pending := s.pending
      faults := (List.replicate 64 FaultRecord.reset).set 33 timeNotSetRecord
      summary := { Summary.reset with severity := 1 }
      points := ((List.replicate 256 Point.reset).set 45 { value := 0, quality := .fresh, age := 0 }).set 61
        { value := 1, quality := .fresh, age := 0 } } := by
  have hlatches : ((List.replicate 64 FaultRecord.reset).set 33 timeNotSetRecord).map (·.latch) ≠
      (List.replicate 64 FaultRecord.reset).map (·.latch) := by decide +kernel
  have hrecord := raiseRecord_timeNotSet
    (s := { State.cleared (if service then .service else .normal) a b index with pending := s.pending }) rfl rfl rfl rfl
  unfold pinReset raise raiseQuiet
  dsimp only
  rw [hrecord]
  have hform : ∀ t u : State, t.faults = (List.replicate 64 FaultRecord.reset).set 33 timeNotSetRecord → t.fat = zeroFat →
      u.faults = List.replicate 64 .reset → recomputeSince u t = recompute t ∧
        t.formSummary = { Summary.reset with severity := 1 } := by
    intro t u ht hfat hu
    refine ⟨?_, ?_⟩
    · refine if_neg ?_
      rw [ht, hu]
      exact hlatches
    · rw [State.formSummary, ht, hfat, summaryFrom_timeNotSet]
  obtain ⟨hrecompute, hsummary⟩ := hform { State.cleared (if service then .service else .normal) a b index with
      pending := s.pending
      faults := (List.replicate 64 FaultRecord.reset).set 33 timeNotSetRecord }
    { State.cleared (if service then .service else .normal) a b index with pending := s.pending } rfl rfl rfl
  rw [hrecompute]
  unfold recompute
  dsimp only
  rw [hsummary]
  rfl

/-- The state after reset is what pin reset leaves with SERVICE low and the inputs high (log entry 3). -/
theorem reset_eq_pinReset (s : State) :
    pinReset false true true true s = { State.reset with pending := s.pending } := by
  rw [pinReset_eq]
  rfl

/-- A point of a table that has just been cleared, but for the two outputs of the fault manager. -/
theorem point_cleared {n : Nat} (h45 : n ≠ 45) (h61 : n ≠ 61) (p q : Point) :
    ((((List.replicate 256 Point.reset).set 45 p).set 61 q).getD n .reset) = .reset := by
  rw [List.getD_eq_getElem?_getD, List.getElem?_set_ne h61.symm, List.getElem?_set_ne h45.symm, ← List.getD_eq_getElem?_getD]
  by_cases hn : n < 256
  · rw [List.getD_eq_getElem?_getD, List.getElem?_replicate_of_lt hn]
    rfl
  · rw [List.getD_eq_getElem?_getD, List.getElem?_eq_none (by rw [List.length_replicate]; omega)]
    rfl

theorem fault_cleared {k : Nat} (h : k ≠ 33) (r : FaultRecord) :
    (((List.replicate 64 FaultRecord.reset).set 33 r).getD k .reset) = .reset := by
  rw [List.getD_eq_getElem?_getD, List.getElem?_set_ne h.symm, ← List.getD_eq_getElem?_getD]
  by_cases hk : k < 64
  · rw [List.getD_eq_getElem?_getD, List.getElem?_replicate_of_lt hk]
    rfl
  · rw [List.getD_eq_getElem?_getD, List.getElem?_eq_none (by rw [List.length_replicate]; omega)]
    rfl

/-- The words of a table after pin reset (R188). -/
theorem words_cleared (t : Nat) :
    (((tableSizes.map TableCopy.reset).getD t (.reset 0)).words) = List.replicate (tableSize t) 0 := by
  rw [List.getD_map]
  rfl

theorem valid_cleared {c : TableCopy} (h : c ∈ tableSizes.map TableCopy.reset) : c.valid = false := by
  obtain ⟨n, -, rfl⟩ := List.mem_map.mp h
  rfl

end Sys2Proof.Machine

namespace Sys2Proof.Safety

open Sys2Proof.Machine

/-- Settles O55: `Shaped` withstands every operation of the blocks (`serves_shaped`). -/
theorem everyStepKeepsTheShape : Obligations.EveryStepKeepsTheShape := by
  unfold Obligations.EveryStepKeepsTheShape
  intro s t hs hstep
  exact serves_every_step serves_shaped (keeps_pinReset plain_shaped.keeps shaped_cleared) hs hstep

/-- Settles O56: the log's law withstands every operation of the blocks, since all of them place records and discard from the
oldest alone. -/
theorem everyStepKeepsTheLogsSequence : Obligations.EveryStepKeepsTheLogsSequence := by
  unfold Obligations.EveryStepKeepsTheLogsSequence
  intro s t hs hstep
  exact serves_every_step serves_logLaw (keeps_pinReset plain_logLaw.keeps logLaw_cleared) hs hstep

/-- Settles O57: every change of a latch forms the summary anew, and a new FAT at the swap does as well. -/
theorem everyStepKeepsTheActionsInEffect : Obligations.EveryStepKeepsTheActionsInEffect := by
  unfold Obligations.EveryStepKeepsTheActionsInEffect
  intro s t hs hstep
  exact serves_every_step serves_actionLaw (keeps_pinReset free_actionLaw.keeps actionLaw_cleared) hs hstep

/-- Settles O58: a move stands, is under way on a grant, or is gone. -/
theorem everyStepKeepsTheMovesLaw : Obligations.EveryStepKeepsTheMovesLaw := by
  unfold Obligations.EveryStepKeepsTheMovesLaw
  intro s t hs hstep
  exact serves_every_step serves_moveLaw (keeps_pinReset keeps_moveLaw moveLaw_cleared) hs hstep

/-- The laws of the banks alone stand after pin reset. -/
theorem banksLaws_pinReset (service a b index : Bool) (s : State) :
    ListLaw (pinReset service a b index s) ∧ LockLaw (pinReset service a b index s) := by
  have hcleared : BanksSince (State.cleared .normal a b index) (State.cleared (if service then .service else .normal) a b index) :=
    ⟨listLaw_cleared _ _ _ _, lockLaw_cleared _ _ _ _, fun _ _ _ => rfl⟩
  have hpending : BanksSince (State.cleared .normal a b index)
      { State.cleared (if service then .service else .normal) a b index with pending := s.pending } :=
    (plain_banksSince _).keeps.upd hcleared
  obtain ⟨hlist, hlock, -⟩ := keeps_raise (plain_banksSince _).keeps hpending fcTimeNotSet 0
  exact ⟨hlist, hlock⟩

/-- Settles O59: the banks' laws and the ACTIVE copies of what the step finds locked withstand every operation; UNLOCK comes last
in its step. -/
theorem everyStepKeepsTheBanksLaws : Obligations.EveryStepKeepsTheBanksLaws := by
  unfold Obligations.EveryStepKeepsTheBanksLaws
  intro s t hlist hlock hstep
  have hs : LockedSince s s := ⟨⟨hlist, hlock, fun _ _ _ => rfl⟩, fun _ _ hl => hl⟩
  by_cases hn : NotPinReset s
  · obtain ⟨hlist', hlock', hactive⟩ := serves_step (serves_lockedSince s) hs hn hstep
    exact ⟨hlist', hlock', fun _ => hactive⟩
  · have hfront := hn
    simp only [NotPinReset, not_forall, not_not] at hfront
    obtain ⟨service, a, b, index, rest, hpending⟩ := hfront
    simp only [step, hpending, exec, execPinReset] at hstep
    cases hstep
    obtain ⟨hlist', hlock'⟩ := banksLaws_pinReset service a b index { s with pending := rest }
    exact ⟨hlist', hlock', fun hyes => absurd hyes hn⟩

/-- Settles O60: MASTER_SILENT ends only with ISLAND; an output write forces no point and a raise sets no event's condition. -/
theorem everyStepKeepsSilenceAndRecordLaws : Obligations.EveryStepKeepsSilenceAndRecordLaws := by
  unfold Obligations.EveryStepKeepsSilenceAndRecordLaws
  refine ⟨fun s t hs hstep => ?_, fun s t hs hstep => ?_⟩
  · exact serves_every_step serves_silenceLaw (keeps_pinReset plain_silenceLaw.keeps silenceLaw_cleared) hs hstep
  · exact serves_every_step serves_recordLaw
      (keeps_pinReset plain_recordLaw.keeps (fun _ _ _ _ => recordLaw_of_reset rfl rfl)) hs hstep

/-- Settles O1: a step runs the command in front. -/
theorem stepRunsTheFrontCommand : Obligations.StepRunsTheFrontCommand := by
  unfold Obligations.StepRunsTheFrontCommand
  intro c rest s
  rfl

/-- The state after reset is the one that pin reset leaves of it. -/
theorem reset_eq : State.reset = pinReset false true true true State.reset := (reset_eq_pinReset State.reset).symm

/-- Settles O54: each law stands in the cleared state and withstands the raise of TIME_NOT_SET. -/
theorem resetMeetsTheLaws : Obligations.ResetMeetsTheLaws := by
  unfold Obligations.ResetMeetsTheLaws
  obtain ⟨hlist, hlock⟩ := banksLaws_pinReset false true true true State.reset
  rw [reset_eq]
  exact ⟨keeps_pinReset plain_shaped.keeps shaped_cleared .., keeps_pinReset plain_logLaw.keeps logLaw_cleared ..,
    keeps_pinReset free_actionLaw.keeps actionLaw_cleared .., keeps_pinReset keeps_moveLaw moveLaw_cleared ..,
    hlist, hlock, keeps_pinReset plain_silenceLaw.keeps silenceLaw_cleared ..,
    keeps_pinReset plain_recordLaw.keeps (fun _ _ _ _ => recordLaw_of_reset rfl rfl) ..⟩

/-- Settles O3: `pinReset_eq` gives the state whole, and each block's part is read off it. -/
theorem pinResetReturnsEveryBlock : Obligations.PinResetReturnsEveryBlock := by
  unfold Obligations.PinResetReturnsEveryBlock
  refine ⟨fun s => congrArg Host.Outcome.next (reset_eq_pinReset s), fun service a b index s => ?_⟩
  refine ⟨_, congrArg Host.Outcome.next (pinReset_eq service a b index s), rfl, rfl,
    ⟨rfl, rfl, rfl, rfl, rfl, rfl, rfl, rfl, rfl, rfl, rfl, rfl, rfl, rfl, rfl, rfl, rfl⟩, ⟨fun e he => ?_, fun n _ h45 h61 => ?_,
      rfl, rfl⟩, ⟨fun id hid => ⟨words_cleared id, words_cleared id, ?_⟩, fun c hc => ?_, rfl, rfl, rfl⟩,
    rfl, rfl, rfl, rfl, rfl, rfl, ⟨fun k _ hk => ?_, rfl, rfl, rfl, rfl⟩, rfl, rfl⟩
  · show (List.replicate 48 EntryHits.reset).getD e ⟨1, 1⟩ = _
    rw [List.getD_eq_getElem?_getD, List.getElem?_replicate_of_lt he]
    rfl
  · exact point_cleared h45 h61 _ _
  · show (List.replicate 9 false).getD id false = false
    rw [List.getD_eq_getElem?_getD, List.getElem?_replicate_of_lt hid]
    rfl
  · rcases List.mem_append.mp hc with hc | hc
    · exact valid_cleared hc
    · exact valid_cleared hc
  · exact fault_cleared hk _

end Sys2Proof.Safety
end

section
/-! SUPPORT. Fault records through a whole raise, end, judgement or clear: besides the code's own record only those of LOG_OVERWRITE
(R169) and, where a move ends, YAW_SEEK_FAILED (R146) change. -/

set_option Elab.async false

namespace Sys2Proof.Machine

open Sys2Proof.Safety

/-- A level code is neither LOG_OVERWRITE nor YAW_SEEK_FAILED, which are events (R160). -/
theorem levelCode_ne {j : Nat} (h : levelCode j = true) : j ≠ fcSeekFailed ∧ j ≠ fcLogOverwrite := by
  constructor
  · rintro rfl
    exact absurd h (by decide)
  · rintro rfl
    exact absurd h (by decide)

/-! ## The action summary and the hand-over of the yaw hold -/

@[simp] theorem faults_recompute (s : State) : (recompute s).faults = s.faults := by
  have houtputs : ∀ (c : Prop) [Decidable c] (u : State), (if c then writeFaultOutputs u else u).faults = u.faults := by
    intro c _ u
    split
    · rfl
    · rfl
  have htrip : ∀ (a b : Bool) (u : State), (if a then tripOn u else if b then tripOff u else u).faults = u.faults := by
    intro a b u
    cases a
    · cases b
      · rfl
      · rfl
    · rfl
  exact (htrip _ _ _).trans (houtputs _ _)

@[simp] theorem faults_recomputeSince (before s : State) : (recomputeSince before s).faults = s.faults := by
  unfold recomputeSince
  split
  · rfl
  · exact faults_recompute s

theorem fault_recomputeSince (before s : State) (j : Nat) : (recomputeSince before s).fault j = s.fault j := by
  rw [State.fault, faults_recomputeSince]
  rfl

theorem fault_raiseRecord_ne {j k : Nat} (h : j ≠ k) (ho : j ≠ fcLogOverwrite) (c : Int) (s : State) :
    (raiseRecord k c s).fault j = s.fault j :=
  raiseRecord_induction (Q := fun t => t.fault j = s.fault j) (fun _ _ => fault_setFault_ne h.symm ..)
    (fun _ => by rw [fault_logIf_ne ho, fault_markSpotlight, fault_setFault_ne h.symm])

theorem fault_endRecord_ne {j k : Nat} (h : j ≠ k) (ho : j ≠ fcLogOverwrite) (s : State) :
    (endRecord k s).fault j = s.fault j :=
  endRecord_induction (Q := fun t => t.fault j = s.fault j) (fun _ => rfl) (fault_setFault_ne h.symm ..)
    (by rw [fault_logIf_ne ho, fault_setFault_ne h.symm])

theorem fault_clearRecord_ne {j k : Nat} (h : j ≠ k) (ho : j ≠ fcLogOverwrite) (s : State) :
    (clearRecord k s).fault j = s.fault j :=
  clearRecord_induction (Q := fun t => t.fault j = s.fault j) rfl
    (fun _ => by rw [fault_logIf_ne ho, fault_setFault_ne h.symm])
    (fun _ => by rw [fault_logIf_ne ho, fault_markSpotlight, fault_setFault_ne h.symm])

theorem trackerStepEntry_faults (k : Nat) (motion : Bool) (d : Int) (s : State) :
    (trackerStepEntry k motion d s).faults = s.faults := by
  unfold trackerStepEntry startEdgeTimer
  split
  · rfl
  · split
    · rfl
    · rfl

@[simp] theorem writePattern_faults (k : Nat) (s : State) : (writePattern k s).faults = s.faults := by
  simp [writePattern]

@[simp] theorem enterParked_faults (s : State) : (enterParked s).faults = s.faults :=
  (trackerStepEntry_faults ..).trans (writePattern_faults 0 s)

/-- The end of a move that is not REFUSED can raise YAW_SEEK_FAILED and no other code but LOG_OVERWRITE (R146). -/
theorem fault_endMove {cause : EndCause} (hcause : cause ≠ .refused) {j : Nat} (hj : j ≠ fcSeekFailed) (ho : j ≠ fcLogOverwrite)
    (s : State) : (endMove cause s).fault j = s.fault j := by
  have hraised : ∀ u : State, (setYawMode .hold (raiseQuiet fcSeekFailed u.tracker.heading u)).fault j = u.fault j := by
    intro u
    have hrecord := (fault_recomputeSince u (raiseRecord fcSeekFailed u.tracker.heading u) j).trans
      (fault_raiseRecord_ne hj ho _ u)
    exact hrecord
  have hend : ∀ (mode : YawMode) (u : State), (decisionMoveEnd mode cause u).fault j = u.fault j := by
    intro mode u
    unfold decisionMoveEnd
    simp only [if_neg hcause]
    split
    · exact hraised _
    · rfl
  have hparked : ∀ (p : Prop) [Decidable p] (u : State), (if p then u else enterParked u).fault j = u.fault j := by
    intro p _ u
    split
    · rfl
    · exact congrArg (·.getD j .reset) (enterParked_faults u)
  unfold endMove
  split
  · rfl
  · exact (hend _ _).trans (hparked _ s)

theorem fault_abortMove {j : Nat} (hj : j ≠ fcSeekFailed) (ho : j ≠ fcLogOverwrite) (s : State) :
    (abortMove s).fault j = s.fault j := by
  unfold abortMove
  split
  · rfl
  · exact fault_endMove (by decide) hj ho s

theorem fault_handHold {j : Nat} (hj : j ≠ fcSeekFailed) (ho : j ≠ fcLogOverwrite) (before : Bool) (s : State) :
    (handHold before s).fault j = s.fault j := by
  unfold handHold
  split
  · exact fault_abortMove hj ho s
  · rfl

/-! ## Raises, ends and judgements -/

theorem fault_raise {j : Nat} (hj : j ≠ fcSeekFailed) (ho : j ≠ fcLogOverwrite) (k : Nat) (c : Int) (s : State) :
    (raise k c s).fault j = (raiseRecord k c s).fault j :=
  (fault_handHold hj ho _ _).trans (fault_recomputeSince ..)

theorem fault_endCondition {j : Nat} (hj : j ≠ fcSeekFailed) (ho : j ≠ fcLogOverwrite) (k : Nat) (s : State) :
    (endCondition k s).fault j = (endRecord k s).fault j :=
  (fault_handHold hj ho _ _).trans (fault_recomputeSince ..)

theorem fault_raise_ne {j k : Nat} (h : j ≠ k) (hj : j ≠ fcSeekFailed) (ho : j ≠ fcLogOverwrite) (c : Int) (s : State) :
    (raise k c s).fault j = s.fault j :=
  (fault_raise hj ho k c s).trans (fault_raiseRecord_ne h ho c s)

theorem fault_endCondition_ne {j k : Nat} (h : j ≠ k) (hj : j ≠ fcSeekFailed) (ho : j ≠ fcLogOverwrite) (s : State) :
    (endCondition k s).fault j = s.fault j :=
  (fault_endCondition hj ho k s).trans (fault_endRecord_ne h ho s)

theorem fault_judge_ne {j k : Nat} (h : j ≠ k) (hj : j ≠ fcSeekFailed) (ho : j ≠ fcLogOverwrite) (present : Bool) (c : Int)
    (s : State) : (judge k present c s).fault j = s.fault j := by
  unfold judge
  split
  · exact fault_raise_ne h hj ho c s
  · split
    · exact fault_endCondition_ne h hj ho s
    · rfl

/-- A raise of a code that is not PRESENT writes its record anew (R160). -/
theorem fault_raise_same {k : Nat} {s : State} (hk : k < s.faults.length) (hj : k ≠ fcSeekFailed) (ho : k ≠ fcLogOverwrite)
    (hc : levelCode k = false ∨ s.condition k = false) (c : Int) :
    (raise k c s).fault k = raisedRecord (levelCode k) (s.faultEntry k) c s.clock.seconds (s.fault k) := by
  rw [fault_raise hj ho, raiseRecord_of_absent c hc, fault_logIf_ne ho, fault_markSpotlight, fault_setFault_same hk]

/-- A condition judged to be present rises with the context given (R154, R160). -/
theorem fault_judge_rising {k : Nat} {s : State} (hk : k < s.faults.length) (hl : levelCode k = true) (hc : s.condition k = false)
    (c : Int) : (judge k true c s).fault k = raisedRecord true (s.faultEntry k) c s.clock.seconds (s.fault k) := by
  obtain ⟨hj, ho⟩ := levelCode_ne hl
  have hjudge : judge k true c s = raise k c s := by simp [judge, hc]
  rw [hjudge, fault_raise_same hk hj ho (.inr hc), hl]

theorem condition_endRecord_same (k : Nat) (s : State) : (endRecord k s).condition k = false ∨ k = fcLogOverwrite := by
  by_cases ho : k = fcLogOverwrite
  · exact .inr ho
  refine .inl (endRecord_induction (Q := fun t => t.condition k = false) (fun h => h) ?_ ?_)
  · by_cases hk : k < s.faults.length
    · rw [State.condition, fault_setFault_same hk]
    · simp [State.condition, State.fault, State.setFault, hk, FaultRecord.reset]
  · rw [State.condition, fault_logIf_ne ho]
    by_cases hk : k < s.faults.length
    · rw [fault_setFault_same hk]
    · simp [State.fault, State.setFault, hk, FaultRecord.reset]

/-- After a judgement the condition is what it was judged to be (R154). -/
theorem condition_judge {k : Nat} {present : Bool} {s : State} (hl : levelCode k = true)
    (hk : present = true → k < s.faults.length) (c : Int) : (judge k present c s).condition k = present := by
  obtain ⟨hj, ho⟩ := levelCode_ne hl
  cases hc : s.condition k
  · cases present
    · have hjudge : judge k false c s = s := by simp [judge, hc]
      rw [hjudge, hc]
    · rw [State.condition, fault_judge_rising (hk rfl) hl hc]
      rfl
  · cases present
    · have hjudge : judge k false c s = endCondition k s := by simp [judge, hc]
      rw [hjudge, State.condition, fault_endCondition hj ho]
      exact (condition_endRecord_same k s).resolve_right ho
    · have hjudge : judge k true c s = s := by simp [judge, hc]
      rw [hjudge, hc]

theorem condition_judge_ne {j k : Nat} (h : j ≠ k) (hl : levelCode j = true) (present : Bool) (c : Int) (s : State) :
    (judge k present c s).condition j = s.condition j := by
  obtain ⟨hj, ho⟩ := levelCode_ne hl
  rw [State.condition, fault_judge_ne h hj ho]
  rfl

/-- A judgement that finds the condition as it stands does nothing (R154). -/
theorem judge_of_same {k : Nat} {present : Bool} {s : State} (h : s.condition k = present) (c : Int) :
    judge k present c s = s := by
  cases present <;> simp [judge, h]

theorem judge_rising {k : Nat} {s : State} (h : s.condition k = false) (c : Int) : judge k true c s = raise k c s := by
  simp [judge, h]

theorem judge_falling {k : Nat} {s : State} (h : s.condition k = true) (c : Int) : judge k false c s = endCondition k s := by
  simp [judge, h]

@[simp] theorem faults_length_judge (k : Nat) (present : Bool) (c : Int) (s : State) :
    (judge k present c s).faults.length = s.faults.length := by
  have hlaw : Plain False (fun t => t.faults.length = s.faults.length) :=
    { quiet := fun {u v} hu hv _ => (congrArg List.length (eq_of_view hv State.faults)).trans hu
      points := fun _ _ _ hu => hu
      managed := fun hm _ hu => hm.faults_length.trans hu }
  exact plain_judge hlaw rfl k present c

end Sys2Proof.Machine
end

section
/-! SUPPORT. Requests as bytes (R211, R213): a request written out as a payload is read back, and the kind bytes are the requests' own. -/

set_option Elab.async false
namespace Sys2Proof.Machine

open Sys2Proof.Safety

theorem beBytes_two (n : Nat) : beBytes 2 n = [BitVec.ofNat 8 (n / 256), BitVec.ofNat 8 n] := by
  simp [beBytes]

theorem beBytes_four (n : Nat) :
    beBytes 4 n = [BitVec.ofNat 8 (n / 16777216), BitVec.ofNat 8 (n / 65536), BitVec.ofNat 8 (n / 256), BitVec.ofNat 8 n] := by
  simp [beBytes]

theorem toNat_append_eq {m n : Nat} (a : BitVec m) (b : BitVec n) : (a ++ b).toNat = a.toNat * 2 ^ n + b.toNat := by
  rw [BitVec.toNat_append, ← Nat.shiftLeft_add_eq_or_of_lt b.isLt, Nat.shiftLeft_eq]

theorem word2_bytes (w : Word) : word2 (BitVec.ofNat 8 (w.toNat / 256)) (BitVec.ofNat 8 w.toNat) = w := by
  have hw := w.isLt
  apply BitVec.eq_of_toNat_eq
  rw [word2, toNat_append_eq]
  simp only [BitVec.toNat_ofNat]
  omega

theorem long4_bytes (x : Long) : long4 (BitVec.ofNat 8 (x.toNat / 16777216)) (BitVec.ofNat 8 (x.toNat / 65536))
    (BitVec.ofNat 8 (x.toNat / 256)) (BitVec.ofNat 8 x.toNat) = x := by
  have hx := x.isLt
  apply BitVec.eq_of_toNat_eq
  rw [long4, toNat_append_eq, toNat_append_eq, toNat_append_eq]
  simp only [BitVec.toNat_ofNat]
  omega

theorem wordBytes_eq (w : Word) : wordBytes w = [BitVec.ofNat 8 (w.toNat / 256), BitVec.ofNat 8 w.toNat] := beBytes_two _

theorem longBytes_eq (x : Long) : longBytes x = [BitVec.ofNat 8 (x.toNat / 16777216), BitVec.ofNat 8 (x.toNat / 65536),
    BitVec.ofNat 8 (x.toNat / 256), BitVec.ofNat 8 x.toNat] := beBytes_four _

theorem bytesToWords_wordBytes (words : List Word) (more : List Byte) :
    (bytesToWords (words.flatMap wordBytes ++ more)).take words.length = words := by
  induction words with
  | nil => simp
  | cons w words ih =>
    rw [List.flatMap_cons, wordBytes_eq, List.append_assoc, List.cons_append, List.cons_append, List.nil_append, bytesToWords,
      List.length_cons, List.take_succ_cons, word2_bytes, ih]

theorem length_wordBytes_flatMap (words : List Word) : (words.flatMap wordBytes).length = 2 * words.length := by
  induction words with
  | nil => rfl
  | cons w words ih =>
    rw [List.flatMap_cons, wordBytes_eq, List.length_append, ih, List.length_cons, List.length_cons, List.length_cons,
      List.length_nil]
    omega

/-- A request written out is read back. -/
theorem decode_requestBytes {r : Request} (more : List Byte) (h : requestFits r) :
    decodeRequest (requestBytes r ++ more) = .ok r := by
  cases r with
  | tableWrite t start words =>
    have hcount : (BitVec.ofNat 8 words.length).toNat = words.length := Nat.mod_eq_of_lt h
    have hfits : 2 * words.length ≤ (words.flatMap wordBytes ++ more).length := by
      rw [List.length_append, length_wordBytes_flatMap]
      omega
    have hdecode : decodeRequest (0x10 :: t :: BitVec.ofNat 8 (start.toNat / 256) :: BitVec.ofNat 8 start.toNat ::
        BitVec.ofNat 8 words.length :: (words.flatMap wordBytes ++ more)) = .ok (.tableWrite t start words) := by
      refine (if_pos (by rw [hcount]; exact hfits)).trans ?_
      rw [word2_bytes, hcount, bytesToWords_wordBytes]
    simpa only [requestBytes, wordBytes_eq start, List.cons_append, List.nil_append, List.append_assoc] using hdecode
  | pointRead points =>
    have hcount : (BitVec.ofNat 8 points.length).toNat = points.length := Nat.mod_eq_of_lt h
    have hfits : points.length ≤ (points ++ more).length := by simp
    have hdecode : decodeRequest (0x20 :: BitVec.ofNat 8 points.length :: (points ++ more)) = .ok (.pointRead points) := by
      refine (if_pos (by rw [hcount]; exact hfits)).trans ?_
      rw [hcount, List.take_left]
    exact hdecode
  | identify => rfl
  | run => rfl
  | pass => rfl
  | softReset => rfl
  | tableRead t bank start count =>
    rw [requestBytes, wordBytes_eq]
    exact congrArg (fun w => Except.ok (Request.tableRead t bank w count)) (word2_bytes start)
  | copy mask =>
    rw [requestBytes, wordBytes_eq]
    exact congrArg (fun w => Except.ok (Request.copy w)) (word2_bytes mask)
  | exchange mask g =>
    rw [requestBytes, wordBytes_eq, wordBytes_eq]
    exact congrArg₂ (fun w v => Except.ok (Request.exchange w v)) (word2_bytes mask) (word2_bytes g)
  | lock mask =>
    rw [requestBytes, wordBytes_eq]
    exact congrArg (fun w => Except.ok (Request.lock w)) (word2_bytes mask)
  | unlock mask =>
    rw [requestBytes, wordBytes_eq]
    exact congrArg (fun w => Except.ok (Request.unlock w)) (word2_bytes mask)
  | pointForce n v =>
    rw [requestBytes, longBytes_eq]
    exact congrArg (fun w => Except.ok (Request.pointForce n w)) (long4_bytes v)
  | pointRelease n => rfl
  | slotStats first count => rfl
  | faultRead code => rfl
  | faultClear code => rfl
  | faultClearAll => rfl
  | logRead sequence count =>
    rw [requestBytes, wordBytes_eq]
    exact congrArg (fun w => Except.ok (Request.logRead w count)) (word2_bytes sequence)
  | logDiscard sequence =>
    rw [requestBytes, wordBytes_eq]
    exact congrArg (fun w => Except.ok (Request.logDiscard w)) (word2_bytes sequence)
  | setTime seconds =>
    rw [requestBytes, longBytes_eq]
    exact congrArg (fun w => Except.ok (Request.setTime w)) (long4_bytes seconds)
  | setHeading count =>
    rw [requestBytes, wordBytes_eq]
    exact congrArg (fun w => Except.ok (Request.setHeading w)) (word2_bytes count)
  | setTwist twist =>
    rw [requestBytes, longBytes_eq]
    exact congrArg (fun w => Except.ok (Request.setTwist w)) (long4_bytes twist)
  | yawMode mode => rfl
  | yawTarget heading choice =>
    rw [requestBytes, wordBytes_eq]
    exact congrArg (fun w => Except.ok (Request.yawTarget w choice)) (word2_bytes heading)
  | yawSeek => rfl
  | armSupervision => rfl

/-- The numbers of the kind bytes (R213). -/
theorem mem_requestKinds {kind : Byte} : kind ∈ requestKinds ↔ kind.toNat ∈ [0x01, 0x02, 0x03, 0x04, 0x10, 0x11, 0x12, 0x13,
    0x14, 0x15, 0x20, 0x21, 0x22, 0x23, 0x30, 0x31, 0x32, 0x33, 0x34, 0x35, 0x40, 0x41, 0x42, 0x43, 0x44, 0x50] := by
  simp only [requestKinds, List.mem_cons, List.not_mem_nil, or_false]
  simp only [BitVec.toNat_eq]
  rfl

theorem counted_ne_badKind (c : Prop) [Decidable c] (r : Request) :
    (if c then Except.ok r else Except.error Status.badArgument) ≠ .error .badKind := by
  split
  · exact fun hno => nomatch hno
  · exact fun hno => nomatch hno

/-- A kind byte that names a request is never answered with BAD_KIND, however many bytes follow it. -/
theorem decode_ne_badKind {kind : Byte} (args : List Byte) (h : kind ∈ requestKinds) :
    decodeRequest (kind :: args) ≠ .error .badKind := by
  intro hdecode
  simp only [requestKinds, List.mem_cons, List.not_mem_nil, or_false] at h
  by_cases hwrite : kind = 0x10
  · subst hwrite
    rcases args with _ | ⟨a, _ | ⟨b, _ | ⟨c, _ | ⟨d, rest⟩⟩⟩⟩
    case cons.cons.cons.cons => exact counted_ne_badKind _ _ hdecode
    all_goals cases hdecode
  · by_cases hread : kind = 0x20
    · subst hread
      rcases args with _ | ⟨a, rest⟩
      · cases hdecode
      · exact counted_ne_badKind _ _ hdecode
    · simp only [hwrite, hread, false_or] at h
      rcases args with _ | ⟨a, _ | ⟨b, _ | ⟨c, _ | ⟨d, _ | ⟨e, rest⟩⟩⟩⟩⟩ <;>
        rcases h with rfl | rfl | rfl | rfl | rfl | rfl | rfl | rfl | rfl | rfl | rfl | rfl | rfl | rfl | rfl | rfl | rfl |
          rfl | rfl | rfl | rfl | rfl | rfl | rfl <;>
        cases hdecode

theorem decode_badKind {kind : Byte} {args : List Byte} : kind ∉ requestKinds ↔ decodeRequest (kind :: args) = .error .badKind := by
  constructor
  · rw [mem_requestKinds]
    intro h
    unfold decodeRequest
    split <;> simp_all
  · exact fun h hmem => decode_ne_badKind args hmem h

end Sys2Proof.Machine
end

section
/-! SUPPORT. The requests that the interpreter, the banks, the clock and the supervision answer, each from its own rule. -/

set_option Elab.async false

namespace Sys2Proof.Machine

open Sys2Proof.Safety

/-- A request that fits its slot, with nothing outstanding: the state and the answer that its own rule gives. -/
theorem exec_request {len : Nat} {r : Request} {s u : State} {response : List Byte} (hdue : s.due = []) (hlen : Carried len r)
    (hserve : serve r s = (u, response)) : exec (requestCommand len r) s = .next (answered response u) := by
  rw [exec_requestCommand, settle_of_due_nil hdue, handRequest_of_carried s hlen, hserve]

/-! ## POINT_READ and SLOT_STATS (R208, R209) -/

theorem Quality.putU_code (q : Quality) : putU 1 q.code = [BitVec.ofNat 8 q.code] :=
  putU_one_of_lt (by cases q <;> decide)

theorem pointFields_eq (p : Point) : pointFields p = putS 4 p.value ++ [BitVec.ofNat 8 p.quality.code] ++ putU 1 p.age := by
  rw [pointFields, Quality.putU_code]

theorem slotEntry_tag_lt (smt : List Word) (e : Nat) : (slotEntry smt e).tag < 256 := Nat.mod_lt _ (by decide)

theorem putU_laneCode (lane : Lane) : putU 1 (Lane.code lane) = [BitVec.ofNat 8 (if lane = .ret then 1 else 0)] := by
  cases lane
  · exact putU_one_of_lt (by decide)
  · exact putU_one_of_lt (by decide)

theorem statsFields_eq (s : State) (e : Nat) : statsFields s e =
    [BitVec.ofNat 8 (slotEntry s.smt e).tag, BitVec.ofNat 8 (if (slotEntry s.smt e).lane = .ret then 1 else 0)] ++
      putU 2 (s.entryHits.getD e ⟨0, 0⟩).clamp ++ putU 2 (s.entryHits.getD e ⟨0, 0⟩).short := by
  simp only [statsFields, putU_one_of_lt (slotEntry_tag_lt s.smt e), putU_laneCode]
  rfl

theorem slotStatsResponse_of_range {first count : Nat} (s : State) (hfirst : first ≤ 47) (hlo : 1 ≤ count) (hhi : count ≤ 8) :
    slotStatsResponse first count s = [0x00, BitVec.ofNat 8 (min count (48 - first))] ++
      (List.range (min count (48 - first))).flatMap (fun i => statsFields s (first + i)) := by
  have hgood : ¬ (47 < first ∨ outside 1 8 count = true) := by
    rw [outside_one_eq_true_iff]
    omega
  have hcount : min count (48 - first) < 256 := by omega
  simp only [slotStatsResponse, if_neg hgood, statsCount, putU_one_of_lt hcount]
  rfl

/-! ## RUN and PASS (R26) -/

theorem serve_run_of_valid {s : State} (hop : s.opState = .pass) (h : ∀ c ∈ s.banks.active, c.valid = true) :
    serve .run s = ({ s with opState := .run }, [0x00]) := by
  have hall : s.allValid = true := List.all_eq_true.mpr h
  simp [serve, plain, runRequest, hop, hall, Status.alone, Status.code]

theorem serve_run_of_invalid {s : State} (hop : s.opState = .pass) (h : ∃ c ∈ s.banks.active, c.valid = false) :
    serve .run s = (s, [0x04]) := by
  have hall : s.allValid = false := by
    obtain ⟨c, hc, hv⟩ := h
    exact List.all_eq_false.mpr ⟨c, hc, by simp [hv]⟩
  simp [serve, plain, runRequest, hop, hall, Status.alone, Status.code]

/-! ## The banks (R191 to R198) -/

theorem maskOk_eq_false_iff {mask : Word} : maskOk mask = false ↔ mask.toNat = 0 ∨ 512 ≤ mask.toNat := by
  simp only [maskOk, Bool.and_eq_false_iff, bne_eq_false_iff_eq, decide_eq_false_iff_not, Nat.not_lt]

/-- The mask of the locked tables named, table by table. -/
theorem lockedMask_eq (s : State) (mask : Word) : s.lockedMask mask =
    ((List.range 9).map (fun t => if bitOf mask t && s.locked t then 2 ^ t else 0)).sum := by
  rw [State.lockedMask, maskTables]
  generalize List.range 9 = l
  induction l with
  | nil => rfl
  | cons t l ih =>
    rw [List.map_cons, List.sum_cons, ← ih]
    by_cases hbit : bitOf mask t = true
    · by_cases hlock : s.locked t = true
      · simp [hbit, hlock]
      · simp [hbit, hlock]
    · simp [hbit]

theorem lockedMask_eq_zero_iff {s : State} {mask : Word} :
    s.lockedMask mask = 0 ↔ ∀ t, t < 9 → bitOf mask t = true → s.locked t = false := by
  refine ⟨fun h t ht hbit => locked_of_lockedMask_eq_zero h ht hbit, fun h => ?_⟩
  rw [State.lockedMask, List.filter_eq_nil_iff.mpr]
  · rfl
  · intro t ht
    obtain ⟨hlt, hbit⟩ := mem_maskTables.mp ht
    simp [h t hlt hbit]

theorem banksBusy_of_idle {s : State} (h : s.banks.status = .idle) : s.banksBusy = false := by
  simp [State.banksBusy, h]

theorem banksBusy_of_not_idle {s : State} (h : s.banks.status ≠ .idle) : s.banksBusy = true := by
  simp [State.banksBusy, h]

/-- The words placed into a page, read back (R191). -/
theorem getD_placeWords {start i : Nat} {new old : List Word} (h : start ≤ old.length) :
    (placeWords start new old).getD i 0 =
      if start ≤ i ∧ i < start + new.length then new.getD (i - start) 0 else old.getD i 0 := by
  have htake : (old.take start).length = start := by rw [List.length_take]; omega
  simp only [placeWords, List.getD_eq_getElem?_getD]
  by_cases hlow : i < start
  · rw [List.append_assoc, List.getElem?_append_left (by omega), List.getElem?_take_of_lt hlow,
      if_neg (by omega)]
  · by_cases hmid : i < start + new.length
    · rw [List.append_assoc, List.getElem?_append_right (by omega), htake, List.getElem?_append_left (by omega),
        if_pos (by omega)]
    · rw [List.getElem?_append_right (by rw [List.length_append]; omega), List.length_append, htake, List.getElem?_drop,
        if_neg (by omega)]
      congr 2
      omega

/-- COPY, table by table: each table of the mask has the ACTIVE copy (R193). -/
theorem copyTables_eq (ts : List Nat) (s : State) : ∃ l : List TableCopy, ts.foldl copyTable s = { s with banks :=
      { s.banks with shadow := l } } ∧ l.length = s.banks.shadow.length ∧
    ∀ t, t < s.banks.shadow.length → l[t]? = if t ∈ ts then some (s.banks.active.getD t (.reset 0)) else s.banks.shadow[t]? := by
  induction ts generalizing s with
  | nil => exact ⟨s.banks.shadow, rfl, rfl, fun t _ => by simp⟩
  | cons u ts ih =>
    obtain ⟨l, heq, hlength, hl⟩ := ih (copyTable s u)
    have hset : (copyTable s u).banks.shadow = s.banks.shadow.set u (s.banks.active.getD u (.reset 0)) := rfl
    rw [hset, List.length_set] at hlength hl
    refine ⟨l, heq, hlength, fun t ht => ?_⟩
    rw [hl t ht]
    by_cases hmem : t ∈ ts
    · simp only [hmem, List.mem_cons, or_true, if_true]
      rfl
    · by_cases htu : u = t
      · subst htu
        simp [hmem, ht]
      · simp [hmem, htu, Ne.symm htu]

/-! ## LOCK and UNLOCK (R197, R198) -/

/-- The lock set as a mask, from the list of locks. -/
theorem lockSet_eq (s : State) : s.lockSet =
    ((List.range 9).map (fun t => if s.banks.locks.getD t false then 2 ^ t else 0)).sum := by
  rw [State.lockSet]
  generalize List.range 9 = l
  induction l with
  | nil => rfl
  | cons t l ih =>
    rw [List.map_cons, List.sum_cons, ← ih]
    by_cases hlock : s.locked t = true
    · have hget : s.banks.locks.getD t false = true := hlock
      simp only [hget, if_true, List.filter_cons_of_pos hlock, List.map_cons, List.sum_cons]
    · have hget : s.banks.locks.getD t false = false := by simpa [State.locked] using hlock
      simp only [hget, List.filter_cons_of_neg hlock]
      simp

/-- The locks after one lock request, table by table. -/
theorem locks_setLocks {mask : Word} (v : Bool) {s : State} (h : s.banks.locks.length = 9) {t : Nat} (ht : t < 9) :
    (setLocks mask v s).banks.locks.getD t false = if bitOf mask t then v else s.locked t := by
  have hlocked := locked_setLocks (mask := mask) (v := v) (s := s) (t := t)
  rw [State.locked] at hlocked
  rw [hlocked, h]
  by_cases hbit : bitOf mask t = true
  · simp [mem_maskTables, ht, hbit]
  · simp [mem_maskTables, hbit]

theorem lockResponse_eq (s : State) : lockResponse s =
    (s, [0x00] ++ putU 2 ((List.range 9).map (fun t => if s.banks.locks.getD t false then 2 ^ t else 0)).sum) := by
  rw [lockResponse, lockSet_eq]
  rfl

end Sys2Proof.Machine

namespace Sys2Proof.Safety

open Sys2Proof.Machine

/-- Settles O4: neither refusal carries the request out. -/
theorem shortSlotsAreRefused : Obligations.ShortSlotsAreRefused := by
  intro len r s hdue
  refine ⟨fun hshort => ?_, fun hargs hshort => ?_⟩
  · rw [exec_requestCommand, settle_of_due_nil hdue, handRequest, takeRequest, if_pos hshort]
    rfl
  · rw [exec_requestCommand, settle_of_due_nil hdue, handRequest, takeRequest, if_neg (Nat.not_lt.mpr hargs), if_pos hshort]
    rfl

/-- Settles O5: `decode_requestBytes` and `decode_badKind`. -/
theorem requestBytesDecodeToTheRequest : Obligations.RequestBytesDecodeToTheRequest :=
  ⟨fun _ more hfits => decode_requestBytes more hfits, fun _ _ => decode_badKind⟩

/-- Settles O7: both requests leave the state as it is, so each clause is what the request answers for its arguments. -/
theorem pointReadAndSlotStatsAnswerTheState : Obligations.PointReadAndSlotStatsAnswerTheState := by
  intro len s hdue
  refine ⟨?_, ?_, ?_, ?_⟩
  · intro points hlen hbad
    have hresponse : pointReadResponse points s = [0x03] := if_pos (outside_one_eq_true_iff.mpr hbad)
    exact exec_requestCommand_of_reads hdue hlen (congrArg (s, ·) hresponse)
  · intro points hlen hlo hhi
    refine exec_requestCommand_of_reads hdue hlen (congrArg (s, ·) ?_)
    simp only [pointReadResponse, outside_one_eq_false hlo hhi, pointFields_eq]
    rfl
  · intro first count hlen hbad
    rw [← outside_one_eq_true_iff] at hbad
    have hresponse : slotStatsResponse first.toNat count.toNat s = [0x03] := if_pos hbad
    exact exec_requestCommand_of_reads hdue hlen (congrArg (s, ·) hresponse)
  · intro first count hlen hfirst hlo hhi
    refine exec_requestCommand_of_reads hdue hlen (congrArg (s, ·) ?_)
    rw [slotStatsResponse_of_range s hfirst hlo hhi]
    simp only [statsFields_eq]

/-- Settles O9: the operating state decides. -/
theorem runAndPassSetTheOperatingState : Obligations.RunAndPassSetTheOperatingState := by
  intro len s hdue hlen
  have hrun : Carried len .run := ⟨hlen, hlen⟩
  have hpass : Carried len .pass := ⟨hlen, hlen⟩
  refine ⟨fun hop hvalid => ?_, fun hop hvalid => ?_, fun hop => ?_, fun hop => ?_, fun hop => ?_, fun hop => ⟨?_, ?_⟩⟩
  · exact exec_request hdue hrun (serve_run_of_valid hop hvalid)
  · exact exec_request hdue hrun (serve_run_of_invalid hop hvalid)
  · exact exec_request hdue hrun (by simp [serve, plain, runRequest, hop, Status.alone, Status.code])
  · exact exec_request hdue hpass (by simp [serve, plain, passRequest, hop, Status.alone, Status.code])
  · exact exec_request hdue hpass (by simp [serve, plain, passRequest, hop, Status.alone, Status.code])
  · exact exec_request hdue hrun (by simp [serve, plain, runRequest, hop, Status.alone, Status.code])
  · exact exec_request hdue hpass (by simp [serve, plain, passRequest, hop, Status.alone, Status.code])

/-- Settles O11: the new image is the old one with the words placed (`getD_placeWords`). -/
theorem tableWriteWritesOnePageOfShadow : Obligations.TableWriteWritesOnePageOfShadow := by
  intro len t start words s hdue hlen ht hstart hlo hhi hlock hidle _ hsize
  have hgood : ¬ (8 < t.toNat ∨ tableSize t.toNat ≤ start.toNat ∨ outside 1 27 words.length = true) := by
    rw [outside_one_eq_true_iff]
    omega
  have hplaced : wordsPlaced (tableSize t.toNat) start.toNat words.length < 256 := by
    rw [wordsPlaced]
    omega
  have htaken : (words.take (wordsPlaced (tableSize t.toNat) start.toNat words.length)).length =
      wordsPlaced (tableSize t.toNat) start.toNat words.length := by
    rw [List.length_take, wordsPlaced]
    omega
  refine ⟨wordsPlaced (tableSize t.toNat) start.toNat words.length, placeWords start.toNat (words.take (wordsPlaced (tableSize t.toNat) start.toNat words.length))
    (s.shadow t.toNat), rfl, ?_, fun i hi => ?_, ?_⟩
  · rw [placeWords_length, hsize]
    rw [htaken, hsize, wordsPlaced]
    omega
  · rw [getD_placeWords (by omega), htaken]
    by_cases hin : start.toNat ≤ i ∧ i < start.toNat + wordsPlaced (tableSize t.toNat) start.toNat words.length
    · rw [if_pos hin, if_pos hin, List.getD_eq_getElem?_getD, List.getElem?_take_of_lt (by omega), ← List.getD_eq_getElem?_getD]
    · rw [if_neg hin, if_neg hin]
  · refine exec_request hdue hlen ?_
    simp only [serve, tableWriteRequest, if_neg hgood, hlock, banksBusy_of_idle hidle, putU_one_of_lt hplaced]
    rfl

/-- Settles O12: the refusals are the first branches of the two requests. -/
theorem tableWriteAndCopyRefusals : Obligations.TableWriteAndCopyRefusals := by
  intro len s hdue
  refine ⟨fun t start words hlen => ⟨fun hbad => ?_, fun ht hstart hlo hhi => ?_⟩, fun mask hlen => ⟨fun hbad => ?_,
    fun hzero hhigh => ?_⟩⟩
  · rw [← outside_one_eq_true_iff] at hbad
    exact exec_request hdue hlen (if_pos hbad)
  · have hgood : ¬ (8 < t.toNat ∨ tableSize t.toNat ≤ start.toNat ∨ outside 1 27 words.length = true) := by
      rw [outside_one_eq_true_iff]
      omega
    refine ⟨fun hlock => exec_request hdue hlen ?_, fun hlock hbusy => exec_request hdue hlen ?_⟩
    · exact (if_neg hgood).trans (if_pos hlock)
    · simp only [serve, tableWriteRequest, if_neg hgood, hlock, banksBusy_of_not_idle hbusy]
      rfl
  · exact exec_request hdue hlen (if_pos (maskOk_eq_false_iff.mpr hbad))
  · have hok : ¬ maskOk mask = false := by
      rw [maskOk_eq_false_iff]
      omega
    refine ⟨fun hlocked => exec_request hdue hlen ?_, fun hfree hbusy => exec_request hdue hlen ?_⟩
    · have hmask : s.lockedMask mask ≠ 0 := by
        intro hno
        obtain ⟨t, ht, hbit, hl⟩ := hlocked
        have hfree := lockedMask_eq_zero_iff.mp hno t ht hbit
        rw [hl] at hfree
        cases hfree
      rw [← lockedMask_eq]
      exact (if_neg hok).trans (if_pos hmask)
    · have hmask : ¬ s.lockedMask mask ≠ 0 := not_not.mpr (lockedMask_eq_zero_iff.mpr hfree)
      exact (if_neg hok).trans ((if_neg hmask).trans (if_pos (banksBusy_of_not_idle hbusy)))

/-- Settles O13: `copyTables_eq` for the tables of the mask. -/
theorem copyTakesActiveIntoShadow : Obligations.CopyTakesActiveIntoShadow := by
  intro len mask s hdue hlen hzero hhigh hfree hidle hactive hshadow
  have hok : ¬ maskOk mask = false := by
    rw [maskOk_eq_false_iff]
    omega
  have hmask : ¬ s.lockedMask mask ≠ 0 := not_not.mpr (lockedMask_eq_zero_iff.mpr hfree)
  have hbusy : ¬ s.banksBusy = true := by simp [banksBusy_of_idle hidle]
  obtain ⟨new, heq, hlength, hnew⟩ := copyTables_eq (maskTables mask) s
  refine ⟨new, hlength.trans hshadow, fun t ht => ?_, exec_request hdue hlen ?_⟩
  · rw [hnew t (by omega)]
    by_cases hbit : bitOf mask t = true
    · rw [if_pos (mem_maskTables.mpr ⟨ht, hbit⟩), if_pos hbit, List.getD_eq_getElem?_getD,
        List.getElem?_eq_getElem (by omega)]
      rfl
    · rw [if_neg (fun hmem => hbit (mem_maskTables.mp hmem).right), if_neg hbit]
  · rw [← heq]
    exact (if_neg hok).trans ((if_neg hmask).trans (if_neg hbusy))

/-- Settles O22: the clock is set, and the judgement that follows ends TIME_NOT_SET. -/
theorem setTimeSetsTheClock : Obligations.SetTimeSetsTheClock := by
  intro len seconds s hdue hlen
  refine ⟨fun habsent => exec_request hdue hlen ?_, _, exec_request hdue hlen rfl, ?_, byFaultsOnly_judge ..⟩
  · have hsame := judge_of_same
      (s := { s with clock := { seconds := seconds, phaseStart := s.timebase, timeSet := true } }) habsent 0
    exact congrArg (·, [0x00]) hsame
  · exact condition_judge (k := fcTimeNotSet) (by decide) (by simp) 0

/-- Settles O28: armed, in PASS, or armed now. -/
theorem armSupervisionCapturesTheLimit : Obligations.ArmSupervisionCapturesTheLimit := by
  intro len s hdue hlen
  refine ⟨fun harmed => ?_, fun harmed hop => ?_, fun harmed hop limit hlimit => ?_⟩
  · exact exec_request hdue hlen (by simp [serve, armResponse, armRequest, harmed, Status.code])
  · exact exec_request hdue hlen (by simp [serve, armResponse, armRequest, harmed, hop, Status.code])
  · subst hlimit
    exact exec_request hdue hlen (by
      simp [serve, armResponse, armRequest, harmed, hop, Status.code, State.supervisionLimit, figure2])

end Sys2Proof.Safety
end

section
/-! SUPPORT. EXCHANGE, LOCK, UNLOCK and SOFT_RESET (R194, R197, R198, R207). -/

set_option Elab.async false

namespace Sys2Proof.Machine

open Sys2Proof.Safety

/-- A repeat of the last exchange (R194, case 1). -/
theorem repeatsExchange_iff {s : State} {mask g : Word} : s.repeatsExchange mask g = true ↔
    s.banks.lastExchange = some { mask := mask, fromGeneration := g } ∧
      (s.banks.generation = g + 1 ∨ s.banks.status = .scheduled mask) := by
  unfold State.repeatsExchange
  cases hlast : s.banks.lastExchange with
  | none => simp
  | some x =>
    cases x with
    | mk m h =>
      simp only [Bool.and_eq_true, Bool.or_eq_true, beq_iff_eq, Option.some.injEq, LastExchange.mk.injEq]

theorem exchangeOk_eq (g : Word) (s : State) :
    exchangeOk g s = [0x00] ++ wordBytes (g + 1) ++ [BitVec.ofNat 8 s.banks.status.code] := by
  rw [exchangeOk, putU_two_toNat, BankStatus.putU_code]
  rfl

/-- The first failure in order of table id: none where no table of the mask fails (R195). -/
theorem exchangeFailure_eq_none_iff {s : State} {mask : Word} : s.exchangeFailure mask = none ↔
    ∀ t, t < 9 → bitOf mask t = true → validateTable t (s.shadow t) = none := by
  rw [State.exchangeFailure, List.findSome?_eq_none_iff]
  refine ⟨fun h t ht hbit => ?_, fun h t ht => ?_⟩
  · exact Option.map_eq_none_iff.mp (h t (mem_maskTables.mpr ⟨ht, hbit⟩))
  · obtain ⟨hlt, hbit⟩ := mem_maskTables.mp ht
    rw [h t hlt hbit]
    rfl

end Sys2Proof.Machine

namespace Sys2Proof.Safety

open Sys2Proof.Machine

/-- Settles O14: a repeat is answered as it stands; what passes all refusals is scheduled. -/
theorem exchangeIsScheduledOrRecognised : Obligations.ExchangeIsScheduledOrRecognised := by
  intro len mask g s hdue hlen hzero hhigh
  have hok : ¬ maskOk mask = false := by
    rw [maskOk_eq_false_iff]
    omega
  refine ⟨fun hlast hgen => exec_request hdue hlen ?_, fun hnot hfree hidle hg hyaw hvalid => exec_request hdue hlen ?_⟩
  · rw [← exchangeOk_eq]
    exact (if_neg hok).trans (if_pos (repeatsExchange_iff.mpr ⟨hlast, hgen⟩))
  · have hrepeat : ¬ s.repeatsExchange mask g = true := fun hno => hnot (repeatsExchange_iff.mp hno)
    have hmask : ¬ s.lockedMask mask ≠ 0 := not_not.mpr (lockedMask_eq_zero_iff.mpr hfree)
    have hbusy : ¬ s.banksBusy = true := by simp [banksBusy_of_idle hidle]
    have hmoves : ¬ ((bitOf mask 5 || bitOf mask 6) = true ∧ (s.sequencer.step ≠ 0 ∨ s.sequencer.phase ≠ .none)) := by
      rintro ⟨hbits, hmoving⟩
      obtain ⟨hstep, hphase⟩ := hyaw (by simpa using hbits)
      rcases hmoving with h | h
      · exact h hstep
      · exact h hphase
    refine (if_neg hok).trans ((if_neg hrepeat).trans ((if_neg hmask).trans ((if_neg hbusy).trans
      ((if_neg (not_not.mpr hg)).trans ((if_neg hmoves).trans ?_)))))
    rw [exchangeFailure_eq_none_iff.mpr hvalid]
    dsimp only
    rw [exchangeOk_eq]
    rfl

/-- Settles O17: `locks_setLocks` gives the locks, table by table. -/
theorem lockAndUnlockSetTheLocks : Obligations.LockAndUnlockSetTheLocks := by
  intro len mask s hdue hlen
  have hunlock : Carried len (.unlock mask) := hlen
  refine ⟨fun hbad => ?_, fun hzero hhigh hlocks => ?_⟩
  · have hmask := maskOk_eq_false_iff.mpr hbad
    exact ⟨exec_request hdue hlen (if_pos hmask), exec_request hdue hunlock (if_pos hmask)⟩
  · have hok : ¬ maskOk mask = false := by
      rw [maskOk_eq_false_iff]
      omega
    refine ⟨fun m hm => exec_request hdue hlen ?_, fun hnot => ?_, fun hservice => ?_, fun hnormal => ?_⟩
    · exact (if_neg hok).trans (if_pos (by rw [hm]; rfl))
    · have hfree : ¬ s.banks.status.isScheduled = true := by
        cases hs : s.banks.status with
        | scheduled m => exact absurd hs (hnot m)
        | idle => exact fun hno => nomatch hno
        | draining => exact fun hno => nomatch hno
      refine ⟨(setLocks mask true s).banks.locks, (length_foldl_set ..).trans hlocks, fun t ht => ?_,
        exec_request hdue hlen ?_⟩
      · rw [locks_setLocks true hlocks ht]
        cases bitOf mask t <;> simp
      · exact (if_neg hok).trans ((if_neg hfree).trans (lockResponse_eq _))
    · refine ⟨(setLocks mask false s).banks.locks, (length_foldl_set ..).trans hlocks, fun t ht => ?_,
        exec_request hdue hunlock ?_⟩
      · rw [locks_setLocks false hlocks ht]
        cases bitOf mask t <;> simp
      · exact (if_neg hok).trans ((if_pos hservice).trans (lockResponse_eq _))
    · refine exec_request hdue hunlock ((if_neg hok).trans (if_neg ?_))
      rw [hnormal]
      exact fun hno => nomatch hno

end Sys2Proof.Safety
end

section
/-! SUPPORT. SOFT_RESET (R207), and the action summary as a raise in a part without a move forms it. -/

set_option Elab.async false

namespace Sys2Proof.Machine

open Sys2Proof.Safety

/-! ## The severity of the summary (R164) -/

theorem severity_le_summaryFrom (fat : List Word) (k : Nat) (rs : List FaultRecord) (m : Summary) :
    m.severity ≤ (summaryFrom fat k rs m).severity := by
  induction rs generalizing k m with
  | nil => exact Nat.le_refl _
  | cons r rs ih =>
    refine Nat.le_trans ?_ (ih (k + 1) _)
    split
    · exact Nat.le_max_left ..
    · exact Nat.le_refl _

/-- A latched code makes the highest severity INFO at least. -/
theorem severity_pos_of_latch {fat : List Word} {k : Nat} {rs : List FaultRecord} {m : Summary}
    (h : ∃ r ∈ rs, r.latch = true) : 1 ≤ (summaryFrom fat k rs m).severity := by
  obtain ⟨r, hr, hlatch⟩ := h
  induction rs generalizing k m with
  | nil => cases hr
  | cons q rs ih =>
    rcases List.mem_cons.mp hr with rfl | hr
    · refine Nat.le_trans ?_ (severity_le_summaryFrom fat (k + 1) rs _)
      rw [if_pos hlatch]
      exact Nat.le_trans (Nat.le_add_left 1 _) (Nat.le_max_right ..)
    · exact ih hr

/-- The points once the action summary's outputs are written, a converter trip having turned on with it (R59, R165). -/
def actionOutputs (m : Summary) (ps : List Point) : List Point :=
  let written := (ps.set 45 { value := m.derate, quality := .fresh, age := 0 }).set 61
    { value := m.severity, quality := .fresh, age := 0 }
  if m.trip then ((written.set 32 { value := 0, quality := .fresh, age := 0 }).set 33 { value := 0, quality := .fresh, age := 0 }).set 34
    { value := 1, quality := .fresh, age := 0 }
  else written

/-- A summary formed anew without a converter trip before it (R164, R165, R59): the outputs follow if the severity changes. -/
theorem recompute_of_no_trip {s : State} (htrip : s.summary.trip = false) (hchanged : s.summary.severity ≠ s.formSummary.severity) :
    recompute s = { s with
      summary := s.formSummary
      points := actionOutputs s.formSummary s.points
      envelope := if s.formSummary.trip then { s.envelope with limit := 0, tripSeen := true } else s.envelope } := by
  simp only [recompute, htrip, if_pos (Or.inr hchanged : s.summary.derate ≠ s.formSummary.derate ∨ _), Bool.not_false,
    Bool.and_true, Bool.false_and, Bool.false_eq_true, if_false]
  cases hform : s.formSummary.trip
  · simp [actionOutputs, hform, writeFaultOutputs, outputWrite]
  · simp [actionOutputs, hform, writeFaultOutputs, outputWrite, tripOn]

/-- Points besides the outputs of the action summary. -/
theorem actionOutputs_ne (m : Summary) (ps : List Point) {n : Nat} (h45 : n ≠ 45) (h61 : n ≠ 61)
    (htrip : m.trip = true → n ≠ 32 ∧ n ≠ 33 ∧ n ≠ 34) : (actionOutputs m ps).getD n .reset = ps.getD n .reset := by
  have hset : ∀ (i : Nat) (p : Point) (l : List Point), n ≠ i → (l.set i p).getD n .reset = l.getD n .reset := by
    intro i p l h
    rw [List.getD_eq_getElem?_getD, List.getElem?_set_ne h.symm, ← List.getD_eq_getElem?_getD]
  unfold actionOutputs
  dsimp only
  split
  next ht =>
    obtain ⟨h32, h33, h34⟩ := htrip ht
    rw [hset 34 _ _ h34, hset 33 _ _ h33, hset 32 _ _ h32, hset 61 _ _ h61, hset 45 _ _ h45]
  · rw [hset 61 _ _ h61, hset 45 _ _ h45]

/-- The outputs of the action summary in a table that has room for them (R59, R165). -/
theorem actionOutputs_same (m : Summary) {ps : List Point} (h : 61 < ps.length) :
    (actionOutputs m ps).getD 45 .reset = { value := m.derate, quality := .fresh, age := 0 } ∧
    (actionOutputs m ps).getD 61 .reset = { value := m.severity, quality := .fresh, age := 0 } ∧
    (m.trip = true → (actionOutputs m ps).getD 32 .reset = { value := 0, quality := .fresh, age := 0 } ∧
      (actionOutputs m ps).getD 33 .reset = { value := 0, quality := .fresh, age := 0 } ∧
      (actionOutputs m ps).getD 34 .reset = { value := 1, quality := .fresh, age := 0 }) := by
  have h45 : 45 < ps.length := by omega
  have h32 : 32 < ps.length := by omega
  have h33 : 33 < ps.length := by omega
  have h34 : 34 < ps.length := by omega
  unfold actionOutputs
  dsimp only
  cases m.trip
  · simp [List.getD_eq_getElem?_getD, h45, h]
  · simp [List.getD_eq_getElem?_getD, h45, h, h32, h33, h34]

/-- Without a move the yaw hold ends none (R137). -/
theorem handHold_of_none {before : Bool} {s : State} (h : s.sequencer.phase = .none) : handHold before s = s := by
  unfold handHold abortMove
  rw [if_pos h, ite_self]

/-- A state equal to another but for the fault manager's own fields. -/
theorem eq_of_outsideFaults {s t : State} (h : outsideFaults t = outsideFaults s) :
    t = { s with faults := t.faults, log := t.log, spotlight := t.spotlight } :=
  congrArg (fun u : State => { u with faults := t.faults, log := t.log, spotlight := t.spotlight }) h

theorem spotlight_raiseRecord_of_none {k : Nat} {c : Int} {s : State} (h : s.spotlight = none) :
    (raiseRecord k c s).spotlight = none := by
  have hmark : ∀ (j : Nat) (u : State), u.spotlight = none → (markSpotlight j u).spotlight = none := by
    intro j u hu
    simp only [markSpotlight, hu, Option.map_none]
  have hover : ∀ (w : Word) (u : State), u.spotlight = none → (raiseOverwrite w u).spotlight = none := by
    intro w u hu
    unfold raiseOverwrite
    dsimp only
    split
    · exact hmark _ _ hu
    · exact hmark _ _ hu
  exact raiseRecord_induction (Q := fun t => t.spotlight = none) (fun _ _ => h)
    (fun _ => logIf_induction (Q := fun t => t.spotlight = none) (hmark k _ h) (hmark k _ h) (fun w => hover w _ (hmark k _ h)))

/-- A latch that is set anew has the summary formed (R164). -/
theorem recomputeSince_of_latch {k : Nat} {s t : State} (hold : (s.fault k).latch = false) (hnew : (t.fault k).latch = true) :
    recomputeSince s t = recompute t := by
  refine if_neg (fun heq => ?_)
  have hread : ∀ u : State, (u.fault k).latch = (u.faults.map (·.latch)).getD k false := by
    intro u
    rw [State.fault, List.getD_eq_getElem?_getD, List.getD_eq_getElem?_getD, List.getElem?_map]
    cases u.faults[k]? <;> rfl
  rw [hread, ← heq, ← hread, hnew] at hold
  cases hold

/-- A raise that sets a latch where the summary is clear and no move is held (R160, R164, R165, R59). -/
theorem raise_of_clear {k : Nat} {c : Int} {s : State} (hsum : s.summary = .reset) (hphase : s.sequencer.phase = .none)
    (hfault : s.fault k = .reset) (hk : k < s.faults.length) (hl : levelCode k = true) :
    raise k c s = { raiseRecord k c s with
      summary := (raiseRecord k c s).formSummary
      points := actionOutputs (raiseRecord k c s).formSummary s.points
      envelope := if (raiseRecord k c s).formSummary.trip then { s.envelope with limit := 0, tripSeen := true }
        else s.envelope } := by
  obtain ⟨-, ho⟩ := levelCode_ne hl
  have hkept : outsideFaults (raiseRecord k c s) = outsideFaults s := (Managed.refl.raised k c).outside
  have hlatch : ((raiseRecord k c s).fault k).latch = true := by
    rw [raiseRecord_of_absent c (.inr (by rw [hfault]; rfl)), fault_logIf_ne ho, fault_markSpotlight, fault_setFault_same hk, hl]
    simp [raisedRecord]
  have hlength : k < (raiseRecord k c s).faults.length := by rw [(Managed.refl.raised k c).faults_length]; exact hk
  have hsum' : (raiseRecord k c s).summary = .reset := (eq_of_view hkept State.summary).trans hsum
  have hsevere : 1 ≤ (raiseRecord k c s).formSummary.severity := by
    refine severity_pos_of_latch ⟨_, List.getElem_mem hlength, ?_⟩
    rw [State.fault, List.getD_eq_getElem?_getD, List.getElem?_eq_getElem hlength] at hlatch
    exact hlatch
  have hrecompute := recompute_of_no_trip (s := raiseRecord k c s) (by rw [hsum']; rfl)
    (by rw [hsum']; exact (Nat.ne_of_gt hsevere).symm)
  have hnone : (recompute (raiseRecord k c s)).sequencer.phase = .none := by
    rw [hrecompute]
    exact (eq_of_view hkept (fun u => u.sequencer.phase)).trans hphase
  rw [raise, raiseQuiet, recomputeSince_of_latch (by rw [hfault]; rfl) hlatch, handHold_of_none hnone, hrecompute,
    eq_of_view hkept State.points, eq_of_view hkept State.envelope]

/-! ## SOFT_RESET (R207) -/

theorem softReset_status (b : BankStatus) : b.softReset = if b = .draining then .idle else b := by
  cases b <;> simp [BankStatus.softReset]

/-- SOFT_RESET's blocks, before TIME_NOT_SET is raised (R207, R18, R28). -/
theorem softCleared_eq (s : State) : softCleared s = { s with
    outLane := { s.outLane with staging := .empty }
    retLane := { s.retLane with binding := keptBinding s.flight s.retLane.binding, voided := true, staging := .empty }
    outBad := 0, retBad := 0, prevCycle := none, flight := []
    carrier := some (s.outLane.cycle, [0x00])
    opState := .pass
    entryHits := List.replicate 48 .reset
    points := List.replicate 256 .reset
    banks := { s.banks with status := if s.banks.status = .draining then .idle else s.banks.status }
    envelope := .reset, thermal := .reset, arbiter := .reset
    tracker := s.tracker.softReset
    sequencer := .reset, decision := .reset
    faults := List.replicate 64 .reset
    spotlight := none, summary := .reset
    supervision := s.supervision.softReset s.timebase } := by
  rw [softCleared, keeping_eq, softReset_status]
  rfl

theorem exec_softReset {len : Nat} {s : State} (hdue : s.due = []) (hlen : 1 ≤ len) :
    exec (.softReset len) s = .next (answered [0x00] (softReset s)) :=
  exec_request (r := .softReset) hdue ⟨hlen, hlen⟩ rfl

/-- TIME_NOT_SET's record after a SOFT_RESET without the time (R173). -/
theorem softReset_raised {s : State} (htime : s.clock.timeSet = false) : softReset s = raise fcTimeNotSet 0 (softCleared s) := by
  simp only [softReset]
  rw [if_neg]
  have hclock : (softCleared s).clock = s.clock := rfl
  rw [hclock, htime]
  exact Bool.false_ne_true

/-- SOFT_RESET while the time is not set: what the raise of TIME_NOT_SET adds to the blocks' values (R173, R164, R165, R59). -/
theorem softReset_eq_raised {s : State} (htime : s.clock.timeSet = false) : ∃ (r : List FaultRecord) (l : FaultLog) (m : Summary),
    softReset s = { softCleared s with
      faults := r, log := l, summary := m, points := actionOutputs m (List.replicate 256 .reset)
      envelope := { Envelope.reset with tripSeen := m.trip } } ∧
    m = (softReset s).formSummary ∧
    r.getD 33 .reset = raisedRecord true ((softCleared s).faultEntry 33) 0 s.clock.seconds .reset ∧
    ∀ k, k < 64 → k ≠ 33 → k ≠ 34 → r.getD k .reset = .reset := by
  have hclear : ∀ k, k < 64 → (softCleared s).fault k = .reset := fun k hk => by
    show (List.replicate 64 FaultRecord.reset).getD k .reset = .reset
    rw [List.getD_eq_getElem?_getD, List.getElem?_replicate_of_lt hk]
    rfl
  have hlength : (softCleared s).faults.length = 64 := List.length_replicate
  have hraise := raise_of_clear (k := fcTimeNotSet) (c := 0) (s := softCleared s) rfl rfl (hclear _ (by decide))
    (by rw [hlength]; decide) rfl
  have hrecord := eq_of_outsideFaults (Managed.refl (s := softCleared s) |>.raised fcTimeNotSet 0).outside
  have hspot := spotlight_raiseRecord_of_none (k := fcTimeNotSet) (c := 0) (s := softCleared s) rfl
  have hsum : (raise fcTimeNotSet 0 (softCleared s)).formSummary = (raiseRecord fcTimeNotSet 0 (softCleared s)).formSummary := by
    rw [hraise]
    rfl
  refine ⟨(raiseRecord fcTimeNotSet 0 (softCleared s)).faults, (raiseRecord fcTimeNotSet 0 (softCleared s)).log,
    (raiseRecord fcTimeNotSet 0 (softCleared s)).formSummary, ?_, ?_, ?_, ?_⟩
  · rw [softReset_raised htime, hraise]
    generalize (raiseRecord fcTimeNotSet 0 (softCleared s)).formSummary = m
    rw [hrecord, hspot]
    cases m.trip <;> rfl
  · rw [softReset_raised htime, hsum]
  · have hfault := fault_raise_same (k := fcTimeNotSet) (s := softCleared s) (by rw [hlength]; decide) (by decide) (by decide)
      (.inr (by rw [State.condition, hclear _ (by decide)]; rfl)) 0
    rw [hclear _ (by decide)] at hfault
    rw [hraise] at hfault
    exact hfault
  · intro k hk h33 h34
    exact (fault_raiseRecord_ne h33 h34 0 (softCleared s)).trans (hclear k hk)

end Sys2Proof.Machine

namespace Sys2Proof.Safety

open Sys2Proof.Machine

/-- Settles O10: the blocks' values are `softCleared_eq`, and TIME_NOT_SET's raise on them is `softReset_eq_raised`. -/
theorem softResetReturnsEveryBlock : Obligations.SoftResetReturnsEveryBlock := by
  unfold Obligations.SoftResetReturnsEveryBlock
  refine ⟨fun len s hdue hlen htime => ?_, fun len s hdue hlen htime => ?_⟩
  · have hset : softReset s = softCleared s := if_pos htime
    rw [exec_softReset hdue hlen, hset, softCleared_eq]
    rfl
  · obtain ⟨r, l, m, heq, hm, h33, hne⟩ := softReset_eq_raised htime
    have hset : softReset { s with clock := { s.clock with timeSet := true } } =
        softCleared { s with clock := { s.clock with timeSet := true } } := rfl
    refine ⟨_, _, (exec_softReset (s := { s with clock := { s.clock with timeSet := true } }) hdue hlen),
      exec_softReset hdue hlen, ?_⟩
    rw [hset, heq]
    rw [heq] at hm
    obtain ⟨h45, h61, htrip⟩ := actionOutputs_same m (ps := List.replicate 256 .reset) (by rw [List.length_replicate]; decide)
    have hclear : ∀ k, k < 64 → (List.replicate 64 FaultRecord.reset).getD k .reset = .reset := fun k hk => by
      rw [List.getD_eq_getElem?_getD, List.getElem?_replicate_of_lt hk]
      rfl
    refine ⟨?_, ?_, ?_, ?_, ?_, fun k hk hk33 hk34 => (hne k hk hk33 hk34).trans (hclear k hk).symm, hm, fun n hn => ?_,
      fun ht n hn => ?_, htrip, h45, h61, rfl⟩
    · exact congrArg FaultRecord.condition h33
    · exact congrArg FaultRecord.latch h33
    · exact congrArg FaultRecord.count h33
    · exact congrArg FaultRecord.context h33
    · exact congrArg FaultRecord.raiseTime h33
    · simp only [List.mem_cons, not_or] at hn
      obtain ⟨h32, h33, h34, h45, h61, -⟩ := hn
      exact actionOutputs_ne m _ h45 h61 (fun _ => ⟨h32, h33, h34⟩)
    · have hn45 : n ≠ 45 ∧ n ≠ 61 := by
        simp only [List.mem_cons, List.not_mem_nil, or_false] at hn
        omega
      exact actionOutputs_ne m _ hn45.left hn45.right (fun hno => absurd (hno.symm.trans ht) (by decide))

end Sys2Proof.Safety
end

section
/-! SUPPORT. The twist conditions, the planning block and the decision's record under raises, ends and stops of a move (R132, R140,
R143, R147). -/

set_option Elab.async false

namespace Sys2Proof.Machine

open Sys2Proof.Safety

/-! ## What the decision keeps -/

/-- From `s` to `t` the planning block stands and, unless a SEEK is under way, of the rest of the decision at most the start-dwell
count has gone to 0 (R145, R146). -/
structure DecisionKept (s t : State) : Prop where
  blocked : t.decision.blocked = s.decision.blocked
  others : s.decision.mode ≠ .seek → t.decision = { s.decision with startDwell := t.decision.startDwell }
  dwell : s.decision.startDwell = 0 → t.decision.startDwell = 0

namespace DecisionKept

theorem of_eq {s t : State} (h : t.decision = s.decision) : DecisionKept s t where
  blocked := congrArg _ h
  others _ := by rw [h]
  dwell hd := (congrArg _ h).trans hd

theorem refl (s : State) : DecisionKept s s := of_eq rfl

theorem mode {s t : State} (h : DecisionKept s t) (hmode : s.decision.mode ≠ .seek) : t.decision.mode = s.decision.mode := by
  rw [h.others hmode]

theorem trans {s t u : State} (h : DecisionKept s t) (k : DecisionKept t u) : DecisionKept s u where
  blocked := k.blocked.trans h.blocked
  others hmode := by
    rw [k.others (by rw [h.mode hmode]; exact hmode), h.others hmode]
  dwell hd := k.dwell (h.dwell hd)

/-- A decision without a SEEK, its start-dwell count 0, stands whole. -/
theorem eq {s t : State} (h : DecisionKept s t) (hmode : s.decision.mode ≠ .seek) (hd : s.decision.startDwell = 0) :
    t.decision = s.decision := by
  rw [h.others hmode, h.dwell hd, ← hd]

theorem of_outsideActions {s t : State} (h : outsideActions t = outsideActions s) : DecisionKept s t :=
  of_eq (eq_of_view h State.decision)

theorem enterParked (s : State) : DecisionKept s (enterParked s) := by
  refine of_eq ?_
  have hentry : ∀ u : State, (trackerStepEntry 0 false 0 u).decision = u.decision := fun _ => rfl
  exact (hentry _).trans (by simp [writePattern])

theorem endMove {cause : EndCause} (hcause : cause ≠ .refused) (s : State) : DecisionKept s (endMove cause s) := by
  have hquiet : ∀ (k : Nat) (c : Int) (v : State), v.decision.mode = .seek →
      DecisionKept v (setYawMode .hold (raiseQuiet k c v)) := by
    intro k c v hv
    have hd : (raiseQuiet k c v).decision = v.decision := eq_of_view (outsideActions_raiseQuiet k c v) State.decision
    have hset : ∀ u : State, (setYawMode .hold u).decision = { u.decision with mode := .hold, stormEnter := 0, stormExit := 0 } :=
      fun _ => rfl
    exact { blocked := by rw [hset, hd], others := fun hne => absurd hv hne, dwell := fun hz => by rw [hset, hd]; exact hz }
  have hend : ∀ (mode : YawMode) (u : State), DecisionKept s u → DecisionKept s (decisionMoveEnd mode cause u) := by
    intro mode u hu
    have hdwell : ∀ v, v = { u with decision := { u.decision with startDwell := 0 } } → DecisionKept s v := by
      rintro v rfl
      exact hu.trans { blocked := rfl, others := fun _ => rfl, dwell := fun _ => rfl }
    unfold decisionMoveEnd
    simp only [if_neg hcause]
    split
    next hseek =>
      obtain ⟨-, hmode⟩ := hseek
      exact (hdwell _ rfl).trans (hquiet _ _ _ hmode)
    · exact hdwell _ rfl
  have hremoved : ∀ (u v : State), v.decision = u.decision → DecisionKept s u → DecisionKept s v :=
    fun u v hv hu => hu.trans (of_eq hv)
  unfold Machine.endMove
  split
  · exact refl s
  · dsimp only
    split
    · exact hend _ _ (hremoved s _ rfl (refl s))
    · exact hend _ _ (hremoved (Machine.enterParked s) _ rfl (enterParked s))

theorem abortMove (s : State) : DecisionKept s (abortMove s) := by
  unfold Machine.abortMove
  split
  · exact refl s
  · exact endMove (by decide) s

theorem handHold (before : Bool) (s : State) : DecisionKept s (handHold before s) := by
  unfold Machine.handHold
  split
  · exact abortMove s
  · exact refl s

theorem raise (k : Nat) (c : Int) (s : State) : DecisionKept s (raise k c s) :=
  (of_outsideActions (outsideActions_raiseQuiet k c s)).trans (handHold _ _)

theorem endCondition (k : Nat) (s : State) : DecisionKept s (endCondition k s) :=
  (of_outsideActions (outsideActions_endQuiet k s)).trans (handHold _ _)

theorem judge (k : Nat) (present : Bool) (c : Int) (s : State) : DecisionKept s (judge k present c s) := by
  unfold Machine.judge
  split
  · exact raise k c s
  · split
    · exact endCondition k s
    · exact refl s

theorem judgeTwistLimit (s : State) : DecisionKept s (judgeTwistLimit s) := by
  unfold Machine.judgeTwistLimit
  dsimp only
  split
  · exact (judge ..).trans (abortMove _)
  · exact judge ..

theorem judgeTwist (s : State) : DecisionKept s (judgeTwist s) := (judge ..).trans (judgeTwistLimit _)

theorem enterStepChain (fuel k : Nat) (start : Option Bool) (s : State) : DecisionKept s (enterStepChain fuel k start s) := by
  induction fuel generalizing k start s with
  | zero => exact refl s
  | succ fuel ih =>
    have honce : DecisionKept s (enterStepOnce k start s) := by
      refine of_eq ?_
      have hentry : ∀ (j : Nat) (m : Bool) (d : Int) (u : State), (trackerStepEntry j m d u).decision = u.decision := by
        intro j m d u
        unfold trackerStepEntry
        split
        · rfl
        · split <;> rfl
      unfold enterStepOnce
      refine (hentry _ _ _ _).trans ?_
      cases start <;> simp [writePattern, trackerMoveStart]
    unfold Machine.enterStepChain
    split
    · exact (enterParked s).trans (endMove (by decide) _)
    · dsimp only
      split
      · exact honce.trans (ih _ _ _)
      · exact honce

theorem stopMove (s : State) : DecisionKept s (stopMove s) := by
  unfold Machine.stopMove
  split
  · exact refl s
  · split
    · exact refl s
    · exact enterStepChain ..
  · exact endMove (by decide) s
  · exact endMove (by decide) s

end DecisionKept

/-! ## The twist conditions and the block (R147, R140, R143) -/

/-- What YAW_TWIST_LIMIT and YAW_TWIST_WARN are judged on, under all that a raise or an end can do. -/
theorem twistLimit_congr {s t : State} (h : outsideMoves t = outsideMoves s) (hd : t.decision.blocked = s.decision.blocked) :
    t.twistLimit = s.twistLimit := by
  have hset : t.tracker.twistSet = s.tracker.twistSet := eq_of_view h (fun u => u.tracker.twistSet)
  have htwist : t.tracker.twist = s.tracker.twist := eq_of_view h (fun u => u.tracker.twist)
  have hhard : t.twistHard = s.twistHard := eq_of_view h State.twistHard
  simp only [State.twistLimit, hset, htwist, hhard, hd]

theorem condition_judgeTwistLimit {s : State} (hlength : s.faults.length = 64) :
    (judgeTwistLimit s).condition fcTwistLimit = s.twistLimit := by
  have hjudge := condition_judge (k := fcTwistLimit) (present := s.twistLimit) (s := s) rfl
    (fun _ => by rw [hlength]; decide) s.tracker.twist
  unfold judgeTwistLimit
  dsimp only
  split
  · exact (congrArg FaultRecord.condition (fault_abortMove (by decide) (by decide) _)).trans hjudge
  · exact hjudge

theorem condition_judgeTwistLimit_ne {j : Nat} (h : j ≠ fcTwistLimit) (hl : levelCode j = true) (s : State) :
    (judgeTwistLimit s).condition j = s.condition j := by
  obtain ⟨hj, ho⟩ := levelCode_ne hl
  have hjudge := condition_judge_ne h hl s.twistLimit s.tracker.twist s
  unfold judgeTwistLimit
  dsimp only
  split
  · exact (congrArg FaultRecord.condition (fault_abortMove hj ho _)).trans hjudge
  · exact hjudge

/-- Both conditions after a judgement (R147). -/
theorem condition_judgeTwist {s : State} (hlength : s.faults.length = 64) :
    (judgeTwist s).condition fcTwistWarn = s.twistWarn ∧ (judgeTwist s).condition fcTwistLimit = s.twistLimit := by
  refine ⟨?_, ?_⟩
  · exact (condition_judgeTwistLimit_ne (by decide) rfl _).trans (condition_judge rfl (fun _ => by rw [hlength]; decide) _)
  · refine (condition_judgeTwistLimit ((faults_length_judge ..).trans hlength)).trans ?_
    exact twistLimit_congr (outsideMoves_judge ..) (DecisionKept.judge ..).blocked

theorem judgeTwistLimit_of_same {s : State} (h : s.condition fcTwistLimit = s.twistLimit) : judgeTwistLimit s = s := by
  unfold judgeTwistLimit
  dsimp only
  rw [judge_of_same h]
  simp

theorem judgeTwist_of_same {s : State} (hwarn : s.condition fcTwistWarn = s.twistWarn)
    (hlimit : s.condition fcTwistLimit = s.twistLimit) : judgeTwist s = s := by
  rw [judgeTwist, judge_of_same hwarn, judgeTwistLimit_of_same hlimit]

/-- The block set or cleared where the conditions stand as they are judged (R140, R143). -/
theorem setBlock_of_same {b : Bool} {s : State}
    (hlimit : s.condition fcTwistLimit = ((s.tracker.twistSet && decide (s.twistHard ≤ (s.tracker.twist.natAbs : Int))) || b))
    (hwarn : s.decision.blocked ≠ b → s.condition fcTwistWarn = s.twistWarn) :
    setBlock b s = { s with decision := { s.decision with blocked := b } } := by
  have hlimit' : judgeTwistLimit { s with decision := { s.decision with blocked := b } } =
      { s with decision := { s.decision with blocked := b } } := judgeTwistLimit_of_same hlimit
  unfold setBlock
  dsimp only
  split
  next hchanged => exact judgeTwist_of_same (hwarn (by simpa using hchanged)) hlimit
  · exact hlimit'

theorem blocked_setBlock (b : Bool) (s : State) : (setBlock b s).decision.blocked = b := by
  unfold setBlock
  dsimp only
  split
  · exact (DecisionKept.judgeTwist _).blocked
  · exact (DecisionKept.judgeTwistLimit _).blocked

theorem kept_setBlock (b : Bool) (s : State) :
    DecisionKept { s with decision := { s.decision with blocked := b } } (setBlock b s) := by
  unfold setBlock
  dsimp only
  split
  · exact .judgeTwist _
  · exact .judgeTwistLimit _

theorem condition_setBlock {b : Bool} {s : State} (hlength : s.faults.length = 64) :
    (setBlock b s).condition fcTwistLimit = ((s.tracker.twistSet && decide (s.twistHard ≤ (s.tracker.twist.natAbs : Int))) || b) := by
  unfold setBlock
  dsimp only
  split
  · exact (condition_judgeTwist (s := { s with decision := { s.decision with blocked := b } }) hlength).right
  · exact condition_judgeTwistLimit (s := { s with decision := { s.decision with blocked := b } }) hlength

/-! ## No move to end -/

theorem abortMove_of_none {s : State} (h : s.sequencer.phase = .none) : abortMove s = s := if_pos h

/-- Without a move a judgement does what it does where none is held. -/
theorem outsideActions_judge {s : State} (h : s.sequencer.phase = .none) (k : Nat) (present : Bool) (c : Int) :
    outsideActions (judge k present c s) = outsideActions s := by
  have hhand : ∀ (before : Bool) (u : State), outsideActions u = outsideActions s →
      outsideActions (handHold before u) = outsideActions s := by
    intro before u hu
    rw [handHold_of_none ((eq_of_view hu (fun v => v.sequencer.phase)).trans h)]
    exact hu
  unfold judge
  split
  · exact hhand _ _ (outsideActions_raiseQuiet k c s)
  · split
    · exact hhand _ _ (outsideActions_endQuiet k s)
    · rfl

theorem outsideActions_judgeTwistLimit {s : State} (h : s.sequencer.phase = .none) :
    outsideActions (judgeTwistLimit s) = outsideActions s := by
  have hjudge := outsideActions_judge h fcTwistLimit s.twistLimit s.tracker.twist
  unfold judgeTwistLimit
  dsimp only
  split
  · rw [abortMove_of_none ((eq_of_view hjudge (fun v => v.sequencer.phase)).trans h)]
    exact hjudge
  · exact hjudge

theorem outsideActions_judgeTwist {s : State} (h : s.sequencer.phase = .none) :
    outsideActions (judgeTwist s) = outsideActions s := by
  have hjudge := outsideActions_judge h fcTwistWarn s.twistWarn s.tracker.twist
  exact (outsideActions_judgeTwistLimit ((eq_of_view hjudge (fun v => v.sequencer.phase)).trans h)).trans hjudge

theorem outsideActions_setBlock {b : Bool} {s : State} (h : s.sequencer.phase = .none) :
    outsideActions (setBlock b s) = outsideActions { s with decision := { s.decision with blocked := b } } := by
  unfold setBlock
  dsimp only
  split
  · exact outsideActions_judgeTwist (s := { s with decision := { s.decision with blocked := b } }) h
  · exact outsideActions_judgeTwistLimit (s := { s with decision := { s.decision with blocked := b } }) h

/-! ## A move handed to the sequencer (R133, R140) -/

/-- The twist conditions stand as the planning block's end would judge them (R147). -/
def BlockEndQuiet (s : State) : Prop :=
  s.condition fcTwistLimit = decide (s.twistHard ≤ (s.tracker.twist.natAbs : Int)) ∧
  (s.decision.blocked = true → s.condition fcTwistWarn = decide (s.unwindStart ≤ (s.tracker.twist.natAbs : Int)))

theorem handMove_eq {s : State} (c : Int) (target : TargetKind) (hphase : s.sequencer.phase = .none)
    (hhold : s.summary.yawHold = false) (hset : s.tracker.twistSet = true) (hquiet : BlockEndQuiet s) :
    handMove c target s = withMove (MoveRecord.mk (if 0 < c then 1 else -1) c target s.decision.mode
      (s.moveMask s.decision.mode)) s := by
  obtain ⟨hlimit, hwarn⟩ := hquiet
  have hblock : setBlock false s = { s with decision := { s.decision with blocked := false } } := by
    refine setBlock_of_same ?_ (fun hb => ?_)
    · rw [hlimit, hset, Bool.true_and, Bool.or_false]
    · rw [hwarn (by simpa using hb), State.twistWarn, hset, Bool.true_and]
  unfold handMove
  rw [hblock]
  simp only [hhold, Bool.false_eq_true, if_false]
  exact if_pos hphase

/-- A failed twist check where no move is held (R140, R147). -/
theorem blockPlanning_of_none {s : State} (h : s.sequencer.phase = .none) :
    (blockPlanning s).decision = { s.decision with blocked := true } ∧ (blockPlanning s).sequencer = s.sequencer ∧
    (s.faults.length = 64 → (blockPlanning s).condition fcTwistLimit = true) ∧
    ByFaultsOnly { s with decision := { s.decision with blocked := true } } (blockPlanning s) := by
  have hview := outsideActions_setBlock (b := true) h
  exact ⟨eq_of_view hview State.decision, eq_of_view hview State.sequencer,
    fun hlength => (condition_setBlock hlength).trans (Bool.or_true _), byFaultsOnly_setBlock true s⟩

/-! ## Target counts (R144) -/

theorem modPpr_eq {ppr : Nat} (h : ppr ≠ 0) (x : Int) : (modPpr ppr x : Int) = x % ppr := by
  rw [modPpr, if_neg h, Int.toNat_of_nonneg (Int.emod_nonneg _ (by omega))]

/-- A number congruent to another and within the modulus is its remainder. -/
theorem eq_emod_of_dvd {c x p : Int} (hdvd : p ∣ c - x) (hlo : 0 ≤ c) (hhi : c < p) : x % p = c := by
  calc x % p = c % p := Int.modEq_iff_dvd.mpr hdvd
    _ = c := Int.emod_eq_of_lt hlo hhi

/-- The count of a target is what its range and its remainder make of it (R144, step 4). -/
theorem targetCount_eq {s : State} {heading : Nat} {way : TurnChoice} {c : Int} (hppr : s.ppr ≠ 0)
    (h : IsTargetCount s heading way c) : targetCount s.ppr heading s.tracker.heading way = c := by
  obtain ⟨hdvd, hrange⟩ := h
  unfold targetCount
  generalize ((heading * s.ppr / 3600 : Nat) : Int) - (s.tracker.heading : Int) = delta at hdvd ⊢
  cases way with
  | cw =>
    obtain ⟨hlo, hhi⟩ := hrange
    exact (modPpr_eq hppr delta).trans (eq_emod_of_dvd hdvd hlo hhi)
  | ccw =>
    obtain ⟨hlo, hhi⟩ := hrange
    have hneg : (s.ppr : Int) ∣ -c - -delta := by
      rw [← neg_sub']
      exact hdvd.neg_right
    have hmod := (modPpr_eq hppr (-delta)).trans (eq_emod_of_dvd hneg (by omega) (by omega))
    simp only [hmod, neg_neg]
  | short =>
    obtain ⟨hlo, hhi⟩ := hrange
    have hshift : (s.ppr : Int) ∣ c + (s.ppr / 2 : Nat) - (delta + (s.ppr / 2 : Nat)) := by
      rw [add_sub_add_right_eq_sub]
      exact hdvd
    have hmod := (modPpr_eq hppr _).trans (eq_emod_of_dvd hshift (by omega) (by omega))
    simp only [hmod, add_sub_cancel_right]

/-- A readiness context other than 0 (R140). -/
theorem notReady_ne_zero_iff {s : State} : s.notReady ≠ 0 ↔ s.tracker.quality = .unreferenced ∨ s.tracker.twistSet = false := by
  unfold State.notReady
  by_cases hq : s.tracker.quality = .unreferenced
  · cases hset : s.tracker.twistSet <;> simp [hq]
  · cases hset : s.tracker.twistSet <;> simp [hq]

end Sys2Proof.Machine
end

section
/-! SUPPORT. The requests of the yaw blocks: SET_HEADING, SET_TWIST, YAW_MODE, YAW_TARGET, YAW_SEEK (R122, R123, R143 to R145). -/

set_option Elab.async false

namespace Sys2Proof.Machine

/-! ## YAW_SEEK and YAW_TARGET with a move to plan -/

theorem twistFits_eq_true_iff {s : State} {c : Int} :
    s.twistFits c = true ↔ ((s.tracker.twist + c).natAbs : Int) < s.twistHard := decide_eq_true_iff

theorem twistFits_eq_false_iff {s : State} {c : Int} :
    s.twistFits c = false ↔ s.twistHard ≤ ((s.tracker.twist + c).natAbs : Int) := by
  rw [State.twistFits, decide_eq_false_iff_not, Int.not_lt]

/-- The choice of a way (R140). -/
theorem chooseWay_eq_some {s : State} {c d : Int} (h : (s.twistFits c = true ∧ d = c) ∨ (s.twistFits c = false ∧
    d = (if 0 < c then c - s.ppr else c + s.ppr) ∧ s.twistFits d = true)) : s.chooseWay c = some d := by
  unfold State.chooseWay
  rcases h with ⟨hfits, rfl⟩ | ⟨hfits, rfl, hother⟩
  · simp only [hfits, if_true]
  · simp only [hfits, Bool.false_eq_true, if_false, hother, if_true]

theorem chooseWay_eq_none {s : State} {c : Int} (h : s.twistFits c = false)
    (hother : s.twistFits (if 0 < c then c - s.ppr else c + s.ppr) = false) : s.chooseWay c = none := by
  simp only [State.chooseWay, h, hother, Bool.false_eq_true, if_false]

/-- The way of a seek (R145). -/
theorem seekWay_eq_some {s : State} {d n : Int} (hn : n = ((s.ppr * 11 / 10 : Nat) : Int))
    (h : (s.twistFits n = true ∧ d = n) ∨ (s.twistFits n = false ∧ d = -n ∧ s.twistFits (-n) = true)) : s.seekWay = some d := by
  subst hn
  unfold State.seekWay
  rcases h with ⟨hfits, rfl⟩ | ⟨hfits, rfl, hother⟩
  · simp only [hfits, if_true]
  · simp only [hfits, Bool.false_eq_true, if_false, hother, if_true]

theorem seekWay_eq_none {s : State} {n : Int} (hn : n = ((s.ppr * 11 / 10 : Nat) : Int)) (h : s.twistFits n = false)
    (hother : s.twistFits (-n) = false) : s.seekWay = none := by
  subst hn
  simp only [State.seekWay, h, hother, Bool.false_eq_true, if_false]

/-- YAW_SEEK with nothing in its way but the twist check (R145). -/
theorem yawSeekRequest_of_ready {s : State} (hmode : s.decision.mode ≠ .seek) (hrecord : s.sequencer.record = none)
    (hhold : s.summary.yawHold = false) (hpending : s.yawExchangePending = false) (hset : s.tracker.twistSet = true) :
    yawSeekRequest s = match s.seekWay with
      | none => (blockPlanning s, .state)
      | some way => (handMove way .heading (if decide (s.decision.mode = .storm) then judge fcStormMode false 0 (setYawMode .seek s)
          else setYawMode .seek s), .ok) :=
  (if_neg hmode).trans ((if_neg (by simp [hrecord, hhold])).trans ((if_neg (by simp [hpending])).trans (if_neg (by simp [hset]))))

/-- YAW_TARGET with nothing in its way but stop band and twist check (R144). -/
theorem yawTargetRequest_of_ready {s : State} {heading : Nat} {choice : Byte} {way : TurnChoice}
    (hway : turnChoice choice = some way) (hheading : heading ≤ 3599) (hmode : s.decision.mode = .manual)
    (hrecord : s.sequencer.record = none) (hhold : s.summary.yawHold = false) (hpending : s.yawExchangePending = false)
    (hready : s.notReady = 0) {c : Int} (hc : targetCount s.ppr heading s.tracker.heading way = c) :
    yawTargetRequest heading choice s =
      if (c.natAbs : Int) ≤ s.stopBandCounts then (keepTarget { heading := heading, choice := way } s, .ok)
      else match s.targetWay way c with
        | none => (blockPlanning s, .state)
        | some d => (keepTarget { heading := heading, choice := way } (handMove d .heading s), .ok) := by
  unfold yawTargetRequest
  simp only [hway]
  rw [if_neg (Nat.not_lt.mpr hheading), if_neg (by simp [hrecord]), if_neg (by simp [hmode, hrecord, hhold]),
    if_neg (by simp [hpending]), if_neg (not_not.mpr hready), hc] <;> rfl

theorem turnChoice_eq {choice : Byte} {way : TurnChoice}
    (h : (choice = 0 ∧ way = .cw) ∨ (choice = 1 ∧ way = .ccw) ∨ (choice = 2 ∧ way = .short)) : turnChoice choice = some way := by
  rcases h with ⟨rfl, rfl⟩ | ⟨rfl, rfl⟩ | ⟨rfl, rfl⟩ <;> rfl

theorem turnChoice_eq_none {choice : Byte} (h : 2 < choice.toNat) : turnChoice choice = none := by
  have h0 : choice ≠ 0 := by bv_omega
  have h1 : choice ≠ 1 := by bv_omega
  have h2 : choice ≠ 2 := by bv_omega
  simp only [turnChoice, if_neg h0, if_neg h1, if_neg h2]

theorem notReady_eq_zero {s : State} (hquality : s.tracker.quality ≠ .unreferenced) (hset : s.tracker.twistSet = true) :
    s.notReady = 0 := by
  simp [State.notReady, hquality, hset]

/-- The tracker's outputs (R121) under a PPR that is not 0. -/
theorem writeHeading_eq {s : State} {ppr : Nat} (hppr : s.ppr = ppr) (hne : ppr ≠ 0) : writeHeading s = { s with
    points := ((s.points.set 42 { value := ((s.tracker.heading * 3600 / ppr : Nat) : Int), quality := .fresh, age := 0 }).set
      43 { value := s.tracker.twist, quality := .fresh, age := 0 }).set
      63 { value := s.tracker.quality.code, quality := .fresh, age := 0 } } := by
  subst hppr
  simp only [writeHeading, outputWrite, headingValue, if_neg hne]

/-! ## YAW_MODE (R143) -/

theorem requestedMode_eq {m : Byte} {wanted : YawMode}
    (h : (m = 0 ∧ wanted = .hold) ∨ (m = 1 ∧ wanted = .auto) ∨ (m = 4 ∧ wanted = .manual)) :
    requestedMode m = some wanted ∧ wanted ≠ .seek ∧ wanted.code = m.toNat := by
  rcases h with ⟨rfl, rfl⟩ | ⟨rfl, rfl⟩ | ⟨rfl, rfl⟩ <;> exact ⟨rfl, by decide, rfl⟩

theorem modeHeld_eq_true_iff {held wanted : YawMode} :
    modeHeld held wanted = true ↔ held = wanted ∨ (wanted = .auto ∧ (held = .unwind ∨ held = .storm)) := by
  simp [modeHeld]

/-- The decision as YAW_MODE leaves it, before the twist conditions are judged and the move stopped. -/
def changedMode (wanted : YawMode) (s : State) : State := setDwell 0 (setYawMode wanted s)

theorem yawModeRequest_of_change {m : Byte} {wanted : YawMode} {s : State} (hm : requestedMode m = some wanted)
    (hheld : modeHeld s.decision.mode wanted = false) : yawModeRequest m s =
      (if decide (s.decision.mode = .storm) then judge fcStormMode false 0 (stopMove (setBlock false (changedMode wanted s)))
        else stopMove (setBlock false (changedMode wanted s)), .ok) := by
  unfold yawModeRequest
  simp only [hm, hheld, Bool.false_eq_true, if_false]
  rfl

/-- The decision at the end of a YAW_MODE taken (R143). -/
theorem decision_yawMode {wanted : YawMode} (hwanted : wanted ≠ .seek) (s : State) :
    (stopMove (setBlock false (changedMode wanted s))).decision =
      { s.decision with mode := wanted, startDwell := 0, stormEnter := 0, stormExit := 0, blocked := false } := by
  have hkept : DecisionKept { changedMode wanted s with decision := { (changedMode wanted s).decision with blocked := false } }
      (stopMove (setBlock false (changedMode wanted s))) := (kept_setBlock _ _).trans (.stopMove _)
  exact (hkept.eq hwanted rfl).trans rfl

end Sys2Proof.Machine

namespace Sys2Proof.Safety

open Sys2Proof.Machine

/-- Settles O27: the cases of `yawSeekRequest` in their order. -/
theorem yawSeekPlansOneTurn : Obligations.YawSeekPlansOneTurn := by
  intro len s hdue hlen
  have hexec : ∀ {u : State} {st : Status}, yawSeekRequest s = (u, st) → exec (.yawSeek len) s = .next (answered st.alone u) :=
    fun h => exec_request (r := .yawSeek) hdue hlen (congrArg plain h)
  refine ⟨fun hmode => hexec (if_pos hmode), fun hmode => ⟨fun hheld => ?_, fun hrecord hhold => ⟨fun hpending => ?_, fun hpending => ?_⟩⟩⟩
  · exact hexec (st := .state) (by rw [yawSeekRequest, if_neg hmode, if_pos hheld])
  · have hfree : ¬ (s.sequencer.record.isSome = true ∨ s.summary.yawHold = true) := by simp [hrecord, hhold]
    exact hexec (st := .busy) (by rw [yawSeekRequest, if_neg hmode, if_neg hfree, if_pos hpending])
  · refine ⟨fun hset => ?_, fun hset hstorm hphase hlimit hwarn n hn => ?_⟩
    · have hfree : ¬ (s.sequencer.record.isSome = true ∨ s.summary.yawHold = true) := by simp [hrecord, hhold]
      exact hexec (st := .state) (by
        rw [yawSeekRequest, if_neg hmode, if_neg hfree, if_neg (by simp [hpending]), if_pos hset])
    · have hready := yawSeekRequest_of_ready hmode hrecord hhold hpending hset
      refine ⟨fun d hd => ?_, fun hcw hccw => ?_⟩
      · have hway : s.seekWay = some d := seekWay_eq_some hn (by
          rcases hd with ⟨hfits, rfl⟩ | ⟨hfits, rfl, hother⟩
          · exact .inl ⟨twistFits_eq_true_iff.mpr hfits, rfl⟩
          · exact .inr ⟨twistFits_eq_false_iff.mpr hfits, rfl, twistFits_eq_true_iff.mpr (by rwa [Int.sub_eq_add_neg] at hother)⟩)
        have hmove := handMove_eq (s := setYawMode .seek s) d .heading hphase hhold hset ⟨hlimit, hwarn⟩
        rw [hway, if_neg (by simp [hstorm])] at hready
        exact hexec (hready.trans (congrArg (·, Status.ok) hmove))
      · have hway : s.seekWay = none := seekWay_eq_none hn (twistFits_eq_false_iff.mpr hcw)
          (twistFits_eq_false_iff.mpr (by rwa [Int.sub_eq_add_neg] at hccw))
        rw [hway] at hready
        obtain ⟨hdecision, hsequencer, -, hframe⟩ := blockPlanning_of_none hphase
        exact ⟨_, hexec hready, by rw [hdecision], by rw [hdecision], hsequencer, hframe⟩

/-- Settles O25: the cases of `yawTargetRequest` in their order. -/
theorem yawTargetJudgesInOrder : Obligations.YawTargetJudgesInOrder := by
  intro len heading choice s hdue hlen
  have hexec : ∀ {u : State} {st : Status}, yawTargetRequest heading.toNat choice s = (u, st) →
      exec (.yawTarget len heading choice) s = .next (answered st.alone u) :=
    fun h => exec_request (r := .yawTarget heading choice) hdue hlen (congrArg plain h)
  refine ⟨fun hbad => hexec (st := .badArgument) ?_, fun way hheading hway => ?_⟩
  · unfold yawTargetRequest
    cases hchoice : turnChoice choice with
    | none => rfl
    | some way =>
      rcases hbad with hbad | hbad
      · exact if_pos hbad
      · rw [turnChoice_eq_none hbad] at hchoice
        cases hchoice
  · have hturn := turnChoice_eq hway
    have hrange : ¬ 3599 < heading.toNat := Nat.not_lt.mpr hheading
    refine ⟨fun hrepeat => hexec (st := .ok) ?_, fun hno => hexec (st := .state) ?_, fun hmode hrecord hhold => ⟨fun hpending =>
      hexec (st := .busy) ?_, fun hpending => ⟨fun hunready => ?_, fun hquality hset hppr c hc hband => ?_⟩⟩⟩
    · simp only [yawTargetRequest, hturn, if_neg hrange, if_pos hrepeat]
    · have hother : ¬ (s.decision.mode = .manual ∧ s.sequencer.record.isSome = true ∧
          s.decision.lastTarget = some { heading := heading.toNat, choice := way }) := by
        rintro ⟨hmode, hrecord, htarget⟩
        rcases hno with hno | ⟨-, hnone⟩ | ⟨-, hne⟩
        · exact hno hmode
        · rw [hnone] at hrecord
          cases hrecord
        · exact hne htarget
      have hstate : s.decision.mode ≠ .manual ∨ s.sequencer.record.isSome = true ∨ s.summary.yawHold = true := by
        rcases hno with hno | ⟨hhold, -⟩ | ⟨hrecord, -⟩
        · exact .inl hno
        · exact .inr (.inr hhold)
        · exact .inr (.inl hrecord)
      simp only [yawTargetRequest, hturn, if_neg hrange, if_neg hother, if_pos hstate]
    · simp [yawTargetRequest, hturn, hrange, hmode, hrecord, hhold, hpending]
    · have hcontext := notReady_ne_zero_iff.mpr hunready
      refine hexec (st := .state) ?_
      simp only [yawTargetRequest, hturn, if_neg hrange, hmode, hrecord, hhold, hpending, if_pos hcontext]
      simp [State.notReady]
    · have hready := yawTargetRequest_of_ready hturn hheading hmode hrecord hhold hpending (notReady_eq_zero hquality hset)
        (targetCount_eq hppr hc)
      have hwithin : (c.natAbs : Int) ≤ s.stopBandCounts := hband
      rw [if_pos hwithin] at hready
      exact hexec hready

/-- Settles O24: `yawModeRequest_of_change`; the stop is `stopMove` on the state whose mode has changed. -/
theorem yawModeSetsTheModeAndStops : Obligations.YawModeSetsTheModeAndStops := by
  intro len m s hdue hlen
  have hexec : ∀ {u : State} {st : Status}, yawModeRequest m s = (u, st) →
      exec (.yawMode len m) s = .next (answered st.alone u) :=
    fun h => exec_request (r := .yawMode m) hdue hlen (congrArg plain h)
  refine ⟨fun h0 h1 h4 => hexec (st := .badArgument) ?_, fun wanted hm => ?_⟩
  · simp only [yawModeRequest, requestedMode, if_neg h0, if_neg h1, if_neg h4]
  obtain ⟨hrequested, hseek, hcode⟩ := requestedMode_eq hm
  refine ⟨fun hheld => hexec (st := .ok) ?_, fun hne hnot => ?_⟩
  · simp only [yawModeRequest, hrequested, modeHeld_eq_true_iff.mpr hheld, if_true]
  have hheld : modeHeld s.decision.mode wanted = false := by
    rw [← Bool.not_eq_true, modeHeld_eq_true_iff]
    rintro (h | h)
    · exact hne h
    · exact hnot h
  have hchange := yawModeRequest_of_change hrequested hheld
  have hdecision := decision_yawMode hseek s
  refine ⟨⟨_, hexec hchange, ?_⟩, fun hstorm hlimit hwarn u hu => ?_⟩
  · have hkept : DecisionKept (stopMove (setBlock false (changedMode wanted s)))
        (if decide (s.decision.mode = .storm) then judge fcStormMode false 0 (stopMove (setBlock false (changedMode wanted s)))
          else stopMove (setBlock false (changedMode wanted s))) := by
      split
      · exact .judge ..
      · exact .refl _
    rw [hkept.eq (by rw [hdecision]; exact hseek) (by rw [hdecision]), hdecision]
    refine ⟨rfl, rfl, rfl, rfl, rfl, fun hs => ?_⟩
    rw [if_pos (decide_eq_true hs)]
    exact condition_judge (k := fcStormMode) rfl (fun hno => Bool.noConfusion hno) 0
  · have hblock : setBlock false (changedMode wanted s) = u := by
      rw [setBlock_of_same (s := changedMode wanted s) (hlimit.trans (Bool.or_false _).symm)
        (fun hb => hwarn ((Bool.not_eq_false _).mp hb)), hu]
      simp only [changedMode, setDwell, setYawMode, outputWrite, hcode]
    rw [if_neg (by simp [hstorm]), hblock] at hchange
    have hphase : u.sequencer = s.sequencer := by rw [hu]
    have hyst : u.yst = s.yst := by rw [hu]; rfl
    have hentry : u.stopEntryStep = s.stopEntryStep := by rw [hu]; rfl
    refine ⟨fun hstop => hexec (st := .ok) (hchange.trans (congrArg (·, Status.ok) ?_)),
      fun hrunning hstop => hexec (st := .ok) (hchange.trans (congrArg (·, Status.ok) ?_)),
      fun hstop => hexec (st := .ok) (hchange.trans (congrArg (·, Status.ok) ?_))⟩
    · rcases hstop with hnone | ⟨hrunning, hstop⟩
      · simp only [stopMove, hphase, hnone]
      · simp only [stopMove, hphase, hrunning, hyst, hstop, if_true]
    · simp only [stopMove, hphase, hrunning, hyst, hstop, hentry, Bool.false_eq_true, if_false]
    · rcases hstop with hwaiting | hparked
      · simp only [stopMove, hphase, hwaiting]
      · simp only [stopMove, hphase, hparked]

/-- Settles O23: a count that forced advances have left is judged again, and a set twist brings both twist conditions up to date. -/
theorem setHeadingAndTwistSetTheTracker : Obligations.SetHeadingAndTwistSetTheTracker := by
  refine ⟨fun len count s hdue hlen => ?_, fun len v s hdue hlen hlength => ?_⟩
  · have hexec : ∀ {u : State} {st : Status}, setHeadingRequest count.toNat s = (u, st) →
        exec (.setHeading len count) s = .next (answered st.alone u) :=
      fun h => exec_request (r := .setHeading count) hdue hlen (congrArg plain h)
    refine ⟨fun hbad => hexec (st := .badArgument) (if_pos hbad), fun hcount hstep => hexec (st := .state) ?_,
      fun hcount hstep hforced u hu => ?_⟩
    · rw [setHeadingRequest, if_neg (Nat.not_le.mpr hcount), if_pos hstep]
    have hppr : s.ppr ≠ 0 := by omega
    have hwrite : setHeadingRequest count.toNat s = (judgeTrackLost s.tracker.forcedRun u, .ok) := by
      rw [setHeadingRequest, if_neg (Nat.not_le.mpr hcount), if_neg (not_not.mpr hstep), hu]
      exact congrArg (fun w => (judgeTrackLost s.tracker.forcedRun w, Status.ok)) (writeHeading_eq rfl hppr)
    have hrun : u.tracker.forcedRun = 0 := by rw [hu]
    have hjudge : s.tracker.forcedRun ≠ 0 →
        judgeTrackLost s.tracker.forcedRun u = judge fcTrackLost false u.tracker.heading u := by
      intro hne
      have hlimit : u.forcedLimit = s.forcedLimit := by rw [hu]; rfl
      unfold judgeTrackLost
      rw [if_neg (by rw [hrun]; exact Ne.symm hne), hrun, hlimit, decide_eq_false (by omega)]
    refine ⟨fun hzero => ?_, fun hne => ⟨_, hexec hwrite, ?_, ?_⟩⟩
    · have hsame : judgeTrackLost s.tracker.forcedRun u = u := if_pos (hrun.trans hzero.symm)
      rw [hsame] at hwrite
      exact hexec hwrite
    · rw [hjudge hne]
      exact condition_judge (k := fcTrackLost) rfl (fun hno => Bool.noConfusion hno) _
    · rw [hjudge hne]
      exact byFaultsOnly_judge ..
  · have hexec : ∀ {u : State} {st : Status}, setTwistRequest v.toInt s = (u, st) →
        exec (.setTwist len v) s = .next (answered st.alone u) :=
      fun h => exec_request (r := .setTwist v) hdue hlen (congrArg plain h)
    refine ⟨fun hbad => hexec (st := .badArgument) (if_pos hbad), fun hv hstep => hexec (st := .state) ((if_neg hv).trans (if_pos hstep)),
      fun hv hstep hppr => ?_⟩
    have hwrite : setTwistRequest v.toInt s =
        (judgeTwist (writeHeading { s with tracker := { s.tracker with twist := v.toInt, twistSet := true } }), .ok) :=
      (if_neg hv).trans (if_neg (not_not.mpr hstep))
    obtain ⟨hwarn, hlimit⟩ := condition_judgeTwist
      (s := writeHeading { s with tracker := { s.tracker with twist := v.toInt, twistSet := true } }) hlength
    refine ⟨_, hexec hwrite, ?_, ?_, ?_⟩
    · rw [hwarn]
      have hset : ∀ (p : Prop) [Decidable p], (true && decide p) = true ↔ p := by
        intro p _
        simp
      exact hset _
    · rw [hlimit]
      have hset : ∀ (p : Prop) [Decidable p] (b : Bool), ((true && decide p) || b) = true ↔ p ∨ b = true := by
        intro p _ b
        simp
      exact hset _ _
    · refine (congrArg (ByFaultsOnly · _) ?_).mp (byFaultsOnly_judgeTwist _)
      exact writeHeading_eq rfl hppr

end Sys2Proof.Safety
end

section
/-! SUPPORT. The update of the yaw decision and the planning of a move (R138 to R142), and YAW_TARGET beyond the stop band (R144). -/

set_option Elab.async false

namespace Sys2Proof.Machine

/-! ## The misalignment (R139) -/

/-- A number congruent to an angle and within −1800 to 1799 is the angle wrapped (R139). -/
theorem wrapAngle_eq {e x : Int} (hlo : -1800 ≤ e) (hhi : e ≤ 1799) (hdvd : (3600 : Int) ∣ e - x) : wrapAngle x = e := by
  have hmod : (x + 1800) % 3600 = e + 1800 := by
    refine eq_emod_of_dvd ?_ (by omega) (by omega)
    rw [add_sub_add_right_eq_sub]
    exact hdvd
  rw [wrapAngle, hmod, add_sub_cancel_right]

theorem misalign_eq {s : State} {e : Int} (hlo : -1800 ≤ e) (hhi : e ≤ 1799)
    (hdvd : 3600 ∣ e - ((s.point 4).value - (s.point 42).value)) : s.misalign = e := wrapAngle_eq hlo hhi hdvd

/-! ## The planning of a move (R140) -/

theorem planningOpen_eq_true_iff {s : State} : s.planningOpen = true ↔
    s.sequencer.phase = .none ∧ s.summary.yawHold = false ∧ s.yawExchangePending = false := by
  simp [State.planningOpen, and_assoc]

theorem planMove_of_closed {c : Int} {target : TargetKind} {exempt : Bool} {s : State}
    (h : c = 0 ∨ s.sequencer.phase ≠ .none ∨ s.summary.yawHold = true ∨ s.yawExchangePending = true) :
    planMove c target exempt s = s := by
  unfold planMove
  by_cases hc : c = 0
  · exact if_pos hc
  · rw [if_neg hc, if_pos]
    rw [Bool.not_eq_true', ← Bool.not_eq_true, planningOpen_eq_true_iff]
    rintro ⟨hphase, hhold, hpending⟩
    rcases h with h | h | h | h
    · exact hc h
    · exact h hphase
    · rw [hhold] at h; cases h
    · rw [hpending] at h; cases h

theorem planMove_of_open {c : Int} {target : TargetKind} {exempt : Bool} {s : State} (hc : c ≠ 0)
    (hphase : s.sequencer.phase = .none) (hhold : s.summary.yawHold = false) (hpending : s.yawExchangePending = false) :
    planMove c target exempt s = if s.notReady ≠ 0 then raise fcNotReady s.notReady s
      else if exempt then handMove c target s
      else match s.chooseWay c with
        | some way => handMove way target s
        | none => blockPlanning s := by
  have hopen : ¬ (!s.planningOpen) = true := by
    rw [planningOpen_eq_true_iff.mpr ⟨hphase, hhold, hpending⟩]
    decide
  exact (if_neg hc).trans (if_neg hopen)

/-- The move mask of the mode held (R140, R124). -/
theorem moveMask_eq (s : State) (m : YawMode) : s.moveMask m =
    figure s.ycf (match m with | .storm => 26 | .manual => 27 | .seek => 27 | _ => 25) &&& figure s.ycf 2 := by
  cases m <;> rfl

/-! ## The update's order (R138) -/

theorem takes_eq_true_iff {s : State} {written : List Nat} {n : Nat} :
    s.takes written n = true ↔ n ∈ written ∨ (s.point n).quality = .forced := by
  simp [State.takes]

end Sys2Proof.Machine

namespace Sys2Proof.Safety

open Sys2Proof.Machine

/-- The way of a target move (R144, step 5). -/
theorem targetWay_eq_some {s : State} {way : TurnChoice} {c d : Int}
    (h : (s.twistFits c = true ∧ d = c) ∨ (way = .short ∧ s.twistFits c = false ∧
      d = (if 0 < c then c - s.ppr else c + s.ppr) ∧ s.twistFits d = true)) : s.targetWay way c = some d := by
  unfold State.targetWay
  rcases h with ⟨hfits, rfl⟩ | ⟨rfl, hfits, hd, hother⟩
  · by_cases hway : way = .short
    · rw [if_pos hway]
      exact chooseWay_eq_some (.inl ⟨hfits, rfl⟩)
    · rw [if_neg hway, if_pos hfits]
  · rw [if_pos rfl]
    exact chooseWay_eq_some (.inr ⟨hfits, hd, hother⟩)

theorem targetWay_eq_none {s : State} {way : TurnChoice} {c : Int} (h : s.twistFits c = false)
    (hother : way = .short → s.twistFits (if 0 < c then c - s.ppr else c + s.ppr) = false) : s.targetWay way c = none := by
  unfold State.targetWay
  split
  next hway => exact chooseWay_eq_none h (hother hway)
  · simp [h]

/-- YAW_TARGET beyond the stop band (R144). -/
theorem yawTarget_beyond (len : Nat) (heading : Word) (choice : Byte) (way : TurnChoice) (s : State) (c : Int) (hdue : s.due = [])
    (hlen : Carried len (.yawTarget heading choice)) (hheading : heading.toNat ≤ 3599)
    (hway : (choice = 0 ∧ way = .cw) ∨ (choice = 1 ∧ way = .ccw) ∨ (choice = 2 ∧ way = .short))
    (hmode : s.decision.mode = .manual) (hrecord : s.sequencer.record = none) (hphase : s.sequencer.phase = .none)
    (hhold : s.summary.yawHold = false) (hpending : s.yawExchangePending = false)
    (hquality : s.tracker.quality ≠ .unreferenced) (hset : s.tracker.twistSet = true) (hppr : s.ppr ≠ 0)
    (hquiet : BlockEndQuiet s) (hc : IsTargetCount s heading.toNat way c) (hband : s.stopBandCounts < (c.natAbs : Int)) :
    (∀ d : Int, s.targetWay way c = some d → exec (.yawTarget len heading choice) s = .next (answered [0x00]
      (withMove (MoveRecord.mk (if 0 < d then 1 else -1) d .heading .manual (figure s.ycf 27 &&& figure s.ycf 2))
        { s with decision := { s.decision with lastTarget := some { heading := heading.toNat, choice := way } } }))) ∧
    (s.targetWay way c = none → exec (.yawTarget len heading choice) s = .next (answered [0x04] (blockPlanning s))) := by
  have hexec : ∀ {u : State} {st : Status}, yawTargetRequest heading.toNat choice s = (u, st) →
      exec (.yawTarget len heading choice) s = .next (answered st.alone u) :=
    fun h => exec_request (r := .yawTarget heading choice) hdue hlen (congrArg plain h)
  have hready := yawTargetRequest_of_ready (turnChoice_eq hway) hheading hmode hrecord hhold hpending
    (notReady_eq_zero hquality hset) (targetCount_eq hppr hc)
  rw [if_neg (Int.not_le.mpr hband)] at hready
  refine ⟨fun d hd => ?_, fun hnone => ?_⟩
  · have hmove := handMove_eq d .heading hphase hhold hset hquiet
    rw [hd] at hready
    simp only [hmove, hmode] at hready
    exact hexec hready
  · rw [hnone] at hready
    exact hexec hready

/-- The update's order (R138). -/
theorem decisionUpdate_eq (written : List Nat) (s : State) (wind direction : Bool) (v e : Int) (hv : v = (s.point 5).value)
    (hwind : wind = true ↔ 5 ∈ written ∨ (s.point 5).quality = .forced)
    (hdirection : direction = true ↔ 4 ∈ written ∨ (s.point 4).quality = .forced)
    (hlo : -1800 ≤ e) (hhi : e ≤ 1799) (hdvd : 3600 ∣ e - ((s.point 4).value - (s.point 42).value)) :
    decisionUpdate written s = planning direction (modeChanges wind (judgeTwist { s with
      points := s.points.set 59 { value := s.decision.mode.code, quality := .fresh, age := 0 }
      decision := { s.decision with
        wind := if wind then some (match s.decision.wind with
            | none => v
            | some w => w + Int.tdiv ((v - w) * s.beta) 256) else s.decision.wind
        stormEnter := if wind then (if s.stormEnterSpeed ≤ v then min 65535 (s.decision.stormEnter + 1) else 0)
          else s.decision.stormEnter
        stormExit := if wind then (if v < s.stormExitSpeed then min 65535 (s.decision.stormExit + 1) else 0)
          else s.decision.stormExit
        misalignment := if direction then
            s.decision.misalignment + Int.tdiv ((e - s.decision.misalignment) * s.beta) 256
          else s.decision.misalignment } })) := by
  have htakes5 : s.takes written 5 = wind := Bool.eq_iff_iff.mpr (takes_eq_true_iff.trans hwind.symm)
  have htakes4 : s.takes written 4 = direction := Bool.eq_iff_iff.mpr (takes_eq_true_iff.trans hdirection.symm)
  have hkept : ∀ n, n ≠ 59 → (outputWrite 59 s.decision.mode.code s).point n = s.point n :=
    fun n hn => point_outputWrite_ne hn.symm _ _
  have hmis : (outputWrite 59 s.decision.mode.code s).misalign = e := by
    refine misalign_eq hlo hhi ?_
    rw [hkept 4 (by decide), hkept 42 (by decide)]
    exact hdvd
  have hspeed : (outputWrite 59 s.decision.mode.code s).pointValue 5 = v := by
    rw [hv, State.pointValue, hkept 5 (by decide)]
  unfold decisionUpdate
  rw [htakes5, htakes4]
  cases wind
  · cases direction
    · rfl
    · simp only [Bool.false_eq_true, if_false, if_true, misalignUpdate, hmis]
      rfl
  · cases direction
    · simp only [Bool.false_eq_true, if_false, if_true, windUpdate, hspeed]
      rfl
    · have hmis' : (windUpdate (outputWrite 59 s.decision.mode.code s)).misalign = e := hmis
      simp only [if_true, misalignUpdate, hmis']
      simp only [windUpdate, hspeed]
      rfl

/-- The table of mode changes (R142). -/
theorem modeChanges_eq (wind : Bool) (s t : State) (v twist : Int) (changed : YawMode → State) (ht : t = modeChanges wind s)
    (hv : v = (s.point 5).value) (htwist : twist = (s.tracker.twist.natAbs : Int))
    (hchanged : ∀ m, changed m = { s with
      decision := { s.decision with mode := m, stormEnter := 0, stormExit := 0 }
      points := s.points.set 59 { value := m.code, quality := .fresh, age := 0 } })
    (storm unwind : Prop) (hstorm : storm ↔ wind = true ∧ s.stormEnterSpeed ≤ v ∧ s.stormDwell ≤ s.decision.stormEnter)
    (hunwind : unwind ↔ s.sequencer.phase = .none ∧ s.tracker.twistSet = true ∧ s.unwindStart ≤ twist ∧
      ∃ w, s.decision.wind = some w ∧ w < s.unwindWindMax) :
    (s.decision.mode = .auto →
      (storm → t.decision.mode = .storm ∧ ByFaultsOnly (changed .storm) t ∧
        (s.faults.length = 64 → t.condition fcStormMode = true ∧
          (s.condition fcStormMode = false → (t.fault fcStormMode).context = v))) ∧
      (¬ storm → unwind → t = changed .unwind) ∧ (¬ storm → ¬ unwind → t = s)) ∧
    (s.decision.mode = .storm →
      (wind = true ∧ v < s.stormExitSpeed ∧ s.stormDwell ≤ s.decision.stormExit →
        t.decision.mode = .auto ∧ t.condition fcStormMode = false ∧ ByFaultsOnly (changed .auto) t) ∧
      (¬ (wind = true ∧ v < s.stormExitSpeed ∧ s.stormDwell ≤ s.decision.stormExit) → t = s)) ∧
    (s.decision.mode = .unwind →
      (s.sequencer.phase = .none ∧ twist ≤ s.unwindEnd → t = changed .auto) ∧
      (¬ (s.sequencer.phase = .none ∧ twist ≤ s.unwindEnd) → t = s)) ∧
    (s.decision.mode ∉ [.auto, .storm, .unwind] → t = s) := by
  have hset : ∀ m, setYawMode m s = changed m := fun m => (hchanged m).symm
  have hmode : ∀ m, (changed m).decision.mode = m := fun m => by rw [hchanged m]
  have hfaults : ∀ m, (changed m).faults = s.faults := fun m => by rw [hchanged m]
  have hspeed : s.pointValue 5 = v := hv.symm
  have hwindy : (match s.decision.wind with | some w => decide (w < s.unwindWindMax) | none => false) = true ↔
      ∃ w, s.decision.wind = some w ∧ w < s.unwindWindMax := by
    cases s.decision.wind <;> simp
  refine ⟨fun hauto => ⟨fun hs => ?_, fun hs hu => ?_, fun hs hu => ?_⟩, fun hst => ⟨fun hx => ?_, fun hx => ?_⟩,
    fun hun => ⟨fun hx => ?_, fun hx => ?_⟩, fun hother => ?_⟩
  · have heq : t = judge fcStormMode true v (changed .storm) := by
      rw [ht]
      simp only [modeChanges, hauto, hspeed, hset]
      exact if_pos (hstorm.mp hs)
    rw [heq]
    refine ⟨?_, byFaultsOnly_judge .., fun hlength => ⟨?_, fun habsent => ?_⟩⟩
    · exact ((DecisionKept.judge ..).mode (by rw [hmode]; decide)).trans (hmode _)
    · exact condition_judge (k := fcStormMode) rfl (fun _ => by rw [hfaults, hlength]; decide) v
    · have hrise := fault_judge_rising (k := fcStormMode) (s := changed .storm) (by rw [hfaults, hlength]; decide) rfl
        (by rw [State.condition, State.fault, hfaults]; exact habsent) v
      rw [hrise]
      rfl
  · rw [ht]
    simp only [modeChanges, hauto, hspeed, hset, ← htwist]
    rw [if_neg (fun h => hs (hstorm.mpr h)), if_pos]
    obtain ⟨hphase, htwistSet, hstart, hlow⟩ := hunwind.mp hu
    exact ⟨hphase, htwistSet, hstart, hwindy.mpr hlow⟩
  · rw [ht]
    simp only [modeChanges, hauto, hspeed, ← htwist]
    rw [if_neg (fun h => hs (hstorm.mpr h)), if_neg]
    rintro ⟨hphase, htwistSet, hstart, hlow⟩
    exact hu (hunwind.mpr ⟨hphase, htwistSet, hstart, hwindy.mp hlow⟩)
  · have heq : t = judge fcStormMode false v (changed .auto) := by
      rw [ht]
      simp only [modeChanges, hst, hspeed, hset]
      exact if_pos hx
    rw [heq]
    refine ⟨?_, condition_judge (k := fcStormMode) rfl (fun hno => Bool.noConfusion hno) v, byFaultsOnly_judge ..⟩
    exact ((DecisionKept.judge ..).mode (by rw [hmode]; decide)).trans (hmode _)
  · rw [ht]
    simp only [modeChanges, hst, hspeed]
    exact if_neg hx
  · rw [ht]
    simp only [modeChanges, hun, hset, ← htwist]
    exact if_pos hx
  · rw [ht]
    simp only [modeChanges, hun, ← htwist]
    exact if_neg hx
  · rw [ht]
    cases hm : s.decision.mode <;> simp_all [modeChanges]

/-- The planning of the mode held (R141, R142). -/
theorem planning_eq (direction : Bool) (s : State) (e : Int) (count : Nat) (dwell : Nat → State)
    (hlo : -1800 ≤ e) (hhi : e ≤ 1799) (hdvd : 3600 ∣ e - ((s.point 4).value - (s.point 42).value))
    (hcount : count = min 65535 (s.decision.startDwell + 1))
    (hdwell : ∀ n, dwell n = { s with decision := { s.decision with startDwell := n } }) :
    (s.decision.mode = .auto ∨ s.decision.mode = .storm →
      (direction = false → planning direction s = s) ∧
      (direction = true →
        (s.sequencer.record.isSome = true ∨ (s.decision.rest.isSome = true ∧ s.decision.mode = .auto) ∨
            (s.decision.misalignment.natAbs : Int) < s.startThreshold →
          planning direction s = dwell 0) ∧
        (s.sequencer.record = none → (s.decision.rest = none ∨ s.decision.mode = .storm) →
          s.startThreshold ≤ (s.decision.misalignment.natAbs : Int) →
          (count < (if s.decision.mode = .storm then 1 else s.startDwellLimit) → planning direction s = dwell count) ∧
          ((if s.decision.mode = .storm then 1 else s.startDwellLimit) ≤ count → ∃ u,
            u = planMove (Int.tdiv (e * s.ppr) 3600) .heading false (dwell count) ∧
            planning direction s = { u with decision := { u.decision with startDwell := 0 } })))) ∧
    (s.decision.mode = .unwind →
      (s.sequencer.phase = .none → s.decision.rest = none → planning direction s =
        planMove (-s.tracker.twist.sign * ((s.tracker.twist.natAbs : Int) - s.unwindEnd)) .twist true s) ∧
      (s.sequencer.phase ≠ .none ∨ s.decision.rest.isSome = true → planning direction s = s)) ∧
    (s.decision.mode ∉ [.auto, .storm, .unwind] → planning direction s = s) := by
  have hset : ∀ n, setDwell n s = dwell n := fun n => (hdwell n).symm
  have hmis := misalign_eq hlo hhi hdvd
  have hbump : bump 65535 s.decision.startDwell = count := hcount.symm
  have hwindy : s.decision.mode = .auto ∨ s.decision.mode = .storm →
      planning direction s = if direction then windPlanning s else s := by
    rintro (h | h) <;> simp only [planning, h]
  refine ⟨fun hmode => ⟨fun hd => ?_, fun hd => ⟨fun hidle => ?_, fun hrecord hrest hstart => ?_⟩⟩,
    fun hmode => ⟨fun hphase hrest => ?_, fun hbusy => ?_⟩, fun hother => ?_⟩
  · rw [hwindy hmode, hd]
    rfl
  · rw [hwindy hmode, if_pos hd, windPlanning, hset]
    rcases hidle with hrecord | hrest | hsmall
    · exact if_pos (.inl hrecord)
    · exact if_pos (.inr hrest)
    · rw [if_pos hsmall, ite_self]
  · have hneg : ¬ (s.sequencer.record.isSome = true ∨ (s.decision.rest.isSome = true ∧ s.decision.mode = .auto)) := by
      rintro (h | ⟨h, hauto⟩)
      · rw [hrecord] at h
        cases h
      · rcases hrest with hrest | hstorm
        · rw [hrest] at h
          cases h
        · rw [hstorm] at hauto
          cases hauto
    have hplan : planning direction s = if (if s.decision.mode = .storm then 1 else s.startDwellLimit) ≤ count then
        setDwell 0 (planMove (Int.tdiv (e * s.ppr) 3600) .heading false (dwell count)) else dwell count := by
      rw [hwindy hmode, if_pos hd, windPlanning]
      simp only [if_neg hneg, if_neg (Int.not_lt.mpr hstart), hbump, hset, hmis]
    refine ⟨fun hfew => ?_, fun henough => ⟨_, rfl, ?_⟩⟩
    · rw [hplan, if_neg (Nat.not_le.mpr hfew)]
    · rw [hplan, if_pos henough]
      rfl
  · simp only [planning, hmode]
    exact if_pos ⟨hphase, hrest⟩
  · simp only [planning, hmode]
    refine if_neg ?_
    rintro ⟨hphase, hrest⟩
    rcases hbusy with h | h
    · exact h hphase
    · rw [hrest] at h
      cases h
  · cases hm : s.decision.mode <;> simp_all [planning]

/-- A plan's conditions in their order (R140). -/
theorem planMove_eq (c other : Int) (target : TargetKind) (exempt : Bool) (s t : State) (ht : t = planMove c target exempt s)
    (hother : other = (if 0 < c then c - s.ppr else c + s.ppr)) :
    (c = 0 ∨ s.sequencer.phase ≠ .none ∨ s.summary.yawHold = true ∨ s.yawExchangePending = true → t = s) ∧
    (c ≠ 0 → s.sequencer.phase = .none → s.summary.yawHold = false → s.yawExchangePending = false →
      (s.tracker.quality = .unreferenced ∨ s.tracker.twistSet = false → t = raise fcNotReady
        ((if s.tracker.quality = .unreferenced then 1 else 0) + (if s.tracker.twistSet then 0 else 2)) s) ∧
      (s.tracker.quality ≠ .unreferenced → s.tracker.twistSet = true →
        (s.condition fcTwistLimit = decide (s.twistHard ≤ (s.tracker.twist.natAbs : Int)) →
          (s.decision.blocked = true →
            s.condition fcTwistWarn = decide (s.unwindStart ≤ (s.tracker.twist.natAbs : Int))) →
          ∀ way : Int,
            (exempt = true ∧ way = c) ∨
              (exempt = false ∧ ((s.tracker.twist + c).natAbs : Int) < s.twistHard ∧ way = c) ∨
              (exempt = false ∧ s.twistHard ≤ ((s.tracker.twist + c).natAbs : Int) ∧
                ((s.tracker.twist + other).natAbs : Int) < s.twistHard ∧ way = other) →
            t = withMove { direction := if 0 < way then 1 else -1, remaining := way, target := target,
                           mode := s.decision.mode,
                           driveMask := figure s.ycf (match s.decision.mode with
                             | .storm => 26 | .manual => 27 | .seek => 27 | _ => 25) &&& figure s.ycf 2 } s) ∧
        (exempt = false → s.twistHard ≤ ((s.tracker.twist + c).natAbs : Int) →
          s.twistHard ≤ ((s.tracker.twist + other).natAbs : Int) →
          t.decision.blocked = true ∧ t.sequencer = s.sequencer ∧
          (s.faults.length = 64 → t.condition fcTwistLimit = true) ∧
          ByFaultsOnly { s with decision := { s.decision with blocked := true } } t))) := by
  refine ⟨fun hclosed => ht.trans (planMove_of_closed hclosed), fun hc hphase hhold hpending => ?_⟩
  have hopen := planMove_of_open (target := target) (exempt := exempt) hc hphase hhold hpending
  refine ⟨fun hunready => ?_, fun hquality hset => ?_⟩
  · rw [ht, hopen, if_pos (notReady_ne_zero_iff.mpr hunready)]
    rfl
  rw [if_neg (not_not.mpr (notReady_eq_zero hquality hset)), ← ht] at hopen
  refine ⟨fun hlimit hwarn way hway => ?_, fun hexempt hcw hccw => ?_⟩
  · have hmove := handMove_eq way target hphase hhold hset ⟨hlimit, hwarn⟩
    rw [moveMask_eq] at hmove
    refine Eq.trans ?_ hmove
    rw [hopen]
    rcases hway with ⟨rfl, rfl⟩ | ⟨rfl, hfits, rfl⟩ | ⟨rfl, hcw, hccw, rfl⟩
    · rfl
    · rw [chooseWay_eq_some (.inl ⟨twistFits_eq_true_iff.mpr hfits, rfl⟩)]
      rfl
    · rw [chooseWay_eq_some (.inr ⟨twistFits_eq_false_iff.mpr hcw, hother, twistFits_eq_true_iff.mpr hccw⟩)]
      rfl
  · subst hexempt
    subst hother
    rw [chooseWay_eq_none (twistFits_eq_false_iff.mpr hcw) (twistFits_eq_false_iff.mpr hccw)] at hopen
    obtain ⟨hdecision, hsequencer, hcondition, hframe⟩ := blockPlanning_of_none hphase
    have hblock : t = blockPlanning s := hopen
    rw [hblock]
    exact ⟨by rw [hdecision], hsequencer, hcondition, hframe⟩

/-- Settles O26, part by part: the request beyond the stop band, the update's order, the mode changes, the planning, a plan. -/
theorem yawTargetPlansTheMove : Obligations.YawTargetPlansTheMove := by
  refine ⟨?_, decisionUpdate_eq, modeChanges_eq, planning_eq, planMove_eq⟩
  intro len heading choice way s c hdue hlen hheading hway hmode hrecord hphase hhold hpending hquality hset hppr hlimit hwarn hc hband
  obtain ⟨hmove, hblock⟩ := yawTarget_beyond len heading choice way s c hdue hlen hheading hway hmode hrecord hphase hhold hpending
    hquality hset hppr ⟨hlimit, hwarn⟩ hc hband
  refine ⟨fun d hd => hmove d (targetWay_eq_some ?_), fun hcw hccw => ?_⟩
  · rcases hd with ⟨hfits, rfl⟩ | ⟨hshort, hcw, hd, hother⟩
    · exact .inl ⟨twistFits_eq_true_iff.mpr hfits, rfl⟩
    · exact .inr ⟨hshort, twistFits_eq_false_iff.mpr hcw, hd, twistFits_eq_true_iff.mpr hother⟩
  · obtain ⟨hdecision, hsequencer, -, hframe⟩ := blockPlanning_of_none hphase
    exact ⟨_, hblock (targetWay_eq_none (twistFits_eq_false_iff.mpr hcw) (fun h => twistFits_eq_false_iff.mpr (hccw h))),
      by rw [hdecision], hsequencer, hframe⟩

end Sys2Proof.Safety
end

section
/-! SUPPORT. The log and the summary through a raise, an end and the clears (R160 to R164, R168, R169). -/

set_option Elab.async false

namespace Sys2Proof.Machine

open Sys2Proof.Safety

/-! ## The log (R168, R169) -/

theorem loggable_iff {s : State} {k : Nat} : (s.faultEntry k).loggable = true ↔ Loggable s k := by
  simp [FaultEntry.loggable, Loggable]

theorem logIf_of_loggable {s : State} {k : Nat} (h : Loggable s k) (kind : LogKind) (c : Int) :
    logIf k kind c s = logAppend k kind c s := if_pos (loggable_iff.mpr h)

theorem logIf_of_not_loggable {s : State} {k : Nat} (h : ¬ Loggable s k) (kind : LogKind) (c : Int) : logIf k kind c s = s :=
  if_neg (fun hl => h (loggable_iff.mp hl))

theorem log_logPlace (k : Nat) (kind : LogKind) (c : Int) (s : State) : (logPlace k kind c s).log =
    { records := (if s.log.records.length < 64 then s.log.records else s.log.records.drop 1) ++ [logRecordNow s k kind c]
      next := s.log.next + 1 } := rfl

theorem log_raiseOverwrite (w : Word) (s : State) : (raiseOverwrite w s).log =
    if (s.faultEntry fcLogOverwrite).loggable then (logPlace fcLogOverwrite .raised w.toNat s).log else s.log := by
  unfold raiseOverwrite
  dsimp only
  split <;> rfl

/-- An append that the code's log enable decides, made on a state that differs in fault records and spotlight alone (R168, R169). -/
theorem logTakes_logIf {s u : State} (hframe : outsideFaults u = outsideFaults s) (hlog : u.log = s.log)
    (hlength : fcLogOverwrite < u.faults.length) (k : Nat) (kind : LogKind) (c : Int) :
    LogTakes k kind c s (logIf k kind c u) := by
  have hentry : ∀ j, u.faultEntry j = s.faultEntry j := fun j => eq_of_view hframe (fun v => v.faultEntry j)
  have hclock : u.clock = s.clock := eq_of_view hframe State.clock
  have hcycle : u.prevCycle = s.prevCycle := eq_of_view hframe State.prevCycle
  have hloggable : ∀ j, Loggable u j ↔ Loggable s j := fun j => by simp only [Loggable, hentry]
  have hrecord : ∀ j q x, logRecordNow u j q x = logRecordNow s j q x := fun j q x => by
    simp only [logRecordNow, hlog, hclock, hcycle]
  refine ⟨fun hno => ?_, fun hyes => ⟨fun hroom => ?_, fun oldest rest hrecords hfull => ?_⟩⟩
  · rw [logIf_of_not_loggable (fun h => hno ((hloggable k).mp h)), hlog]
  · rw [logIf_of_loggable ((hloggable k).mpr hyes), logAppend_of_lt k kind c (by rw [hlog]; exact hroom), log_logPlace, hlog,
      if_pos hroom, hrecord]
  · have hlen : u.log.records.length = 64 := by rw [hlog, hrecords, List.length_cons, hfull]
    have hplaced : (logPlace k kind c u).log = { records := rest ++ [logRecordNow s k kind c], next := s.log.next + 1 } := by
      rw [log_logPlace, hrecord, if_neg (by omega), hlog, hrecords, List.drop_one, List.tail_cons]
    rw [logIf_of_loggable ((hloggable k).mpr hyes),
      logAppend_of_full k kind c (by rw [hlog, hrecords]) (by omega)]
    have hentry' : (logPlace k kind c u).faultEntry fcLogOverwrite = s.faultEntry fcLogOverwrite := hentry fcLogOverwrite
    refine ⟨?_, fun hno => ?_, fun hover => ?_⟩
    · rw [State.fault, faults_raiseOverwrite, List.getD_eq_getElem?_getD, List.getElem?_set_self (by exact hlength)]
      rfl
    · rw [log_raiseOverwrite, if_neg (by rw [hentry']; exact fun h => hno (loggable_iff.mp h)), hplaced]
    · rw [log_raiseOverwrite, if_pos (by rw [hentry']; exact loggable_iff.mpr hover), log_logPlace, hplaced,
        if_neg (by rw [List.length_append, List.length_singleton]; omega)]
      have hnow : logRecordNow (logPlace k kind c u) fcLogOverwrite .raised oldest.sequence.toNat =
          { logRecordNow s fcLogOverwrite .raised oldest.sequence.toNat with sequence := s.log.next + 1 } := by
        simp only [logRecordNow, hplaced]
        exact congrArg₂ (fun (q : Clock) (x : Option Nat) => LogRecord.mk (s.log.next + 1) fcLogOverwrite .raised q.seconds
          q.timeSet (x.getD 255) oldest.sequence.toNat) hclock hcycle
      rw [hnow]
      have hdrop : (rest ++ [logRecordNow s k kind c]).drop 1 = rest.drop 1 ++ [logRecordNow s k kind c] :=
        List.drop_append_of_le_length (by omega)
      rw [hdrop]
      simp [List.append_assoc, BitVec.add_assoc]

/-! ## The log through summary and hand-over -/

@[simp] theorem log_recompute (s : State) : (recompute s).log = s.log := by
  have houtputs : ∀ (c : Prop) [Decidable c] (u : State), (if c then writeFaultOutputs u else u).log = u.log := by
    intro c _ u
    split <;> rfl
  have htrip : ∀ (a b : Bool) (u : State), (if a then tripOn u else if b then tripOff u else u).log = u.log := by
    intro a b u
    cases a
    · cases b <;> rfl
    · rfl
  exact (htrip _ _ _).trans (houtputs _ _)

@[simp] theorem log_recomputeSince (before s : State) : (recomputeSince before s).log = s.log := by
  unfold recomputeSince
  split
  · rfl
  · exact log_recompute s

/-! ## Fewer latches, fewer actions (R164) -/

theorem summaryFrom_yawHold_le (fat : List Word) : ∀ (k : Nat) (rs qs : List FaultRecord) (m n : Summary),
    rs.length = qs.length → (∀ j, (rs.getD j .reset).latch = true → (qs.getD j .reset).latch = true) →
    (m.yawHold = true → n.yawHold = true) →
    (summaryFrom fat k rs m).yawHold = true → (summaryFrom fat k qs n).yawHold = true
  | _, [], [], _, _, _, _, hm, h => hm h
  | k, r :: rs, q :: qs, m, n, hlength, hlatch, hm, h => by
    refine summaryFrom_yawHold_le fat (k + 1) rs qs _ _ (by simpa using hlength) (fun j => hlatch (j + 1)) ?_ h
    have hhead : r.latch = true → q.latch = true := hlatch 0
    cases hr : r.latch
    · cases hq : q.latch
      · exact hm
      · simp only [Bool.false_eq_true, if_false, if_true, Summary.add, Bool.or_eq_true]
        exact fun hyes => .inl (hm hyes)
    · simp only [hhead hr, if_true, Summary.add, Bool.or_eq_true]
      exact Or.imp_left hm

/-- Where no latch is new, the yaw hold is not, and no move ends (R137, R164). -/
theorem handHold_of_fewer {s t : State} (hsum : s.summary = s.formSummary) (hframe : outsideFaults t = outsideFaults s)
    (hlength : t.faults.length = s.faults.length) (hlatch : ∀ j, (t.fault j).latch = true → (s.fault j).latch = true) :
    handHold s.summary.yawHold (recomputeSince s t) = recomputeSince s t := by
  have hold : (recomputeSince s t).summary.yawHold = true → s.summary.yawHold = true := by
    unfold recomputeSince
    split
    · intro h
      rw [eq_of_view hframe State.summary] at h
      exact h
    · intro h
      rw [(recompute_actions t).left, State.formSummary, eq_of_view hframe State.fat] at h
      rw [hsum, State.formSummary]
      exact summaryFrom_yawHold_le _ 0 _ _ _ _ hlength hlatch id h
  unfold handHold
  refine if_neg ?_
  rw [Bool.and_eq_true, Bool.not_eq_true']
  rintro ⟨hnew, hbefore⟩
  rw [hold hnew] at hbefore
  cases hbefore

/-! ## The record after a clear (R162) -/

/-- The record of a code after its clear at clock second `t` (R162). -/
def clearedFault (e : FaultEntry) (t : Long) (r : FaultRecord) : FaultRecord :=
  if r.condition then
    if r.reasserted then r
    else { r with reasserted := true, count := bump 255 r.count, raiseTime := t, pending := r.pending || e.reportable }
  else { r with latch := false, pending := false }

theorem clearedFault_latch {e : FaultEntry} {t : Long} {r : FaultRecord} (h : (clearedFault e t r).latch = true) :
    r.latch = true := by
  unfold clearedFault at h
  split at h
  · split at h <;> exact h
  · cases h

theorem clearedFault_of_absent {e : FaultEntry} {t : Long} {r : FaultRecord} (h : r.condition = false) :
    clearedFault e t r = { r with latch := false, pending := false } := by
  unfold clearedFault
  rw [if_neg (by rw [h]; exact Bool.false_ne_true)]

theorem clearedFault_of_reasserted {e : FaultEntry} {t : Long} {r : FaultRecord} (h : r.condition = true)
    (hr : r.reasserted = true) : clearedFault e t r = r := by
  unfold clearedFault
  rw [if_pos h, if_pos hr]

theorem clearedFault_of_present {e : FaultEntry} {t : Long} {r : FaultRecord} (h : r.condition = true)
    (hr : r.reasserted = false) : clearedFault e t r = { r with
      reasserted := true, count := bump 255 r.count, raiseTime := t, pending := r.pending || e.reportable } := by
  unfold clearedFault
  rw [if_pos h, if_neg (by rw [hr]; exact Bool.false_ne_true)]

theorem fault_clearRecord_same {s : State} {k : Nat} (hk : k < s.faults.length)
    (h : s.log.records.length < 64 ∨ k ≠ fcLogOverwrite) :
    (clearRecord k s).fault k = clearedFault (s.faultEntry k) s.clock.seconds (s.fault k) := by
  have hroom : ∀ r : FaultRecord, (s.setFault k r).log.records.length < 64 ∨ k ≠ fcLogOverwrite := fun _ => h
  have hroomMarked : ∀ r : FaultRecord, (markSpotlight k (s.setFault k r)).log.records.length < 64 ∨ k ≠ fcLogOverwrite :=
    fun _ => h
  cases hc : (s.fault k).condition
  · rw [clearedFault_of_absent hc]
    by_cases hm : (s.fault k).latch = true ∨ (s.fault k).pending = true
    · rw [clearRecord_of_absent hc hm, fault_logIf_of (hroom _), fault_setFault_same hk]
    · simp only [not_or, Bool.not_eq_true] at hm
      obtain ⟨hlatch, hpending⟩ := hm
      rw [clearRecord_of_idle (.inl ⟨hc, hlatch, hpending⟩)]
      have heta : ∀ r : FaultRecord, r.latch = false → r.pending = false → r = { r with latch := false, pending := false } := by
        rintro r h1 h2
        cases r
        cases h1
        cases h2
        rfl
      exact heta _ hlatch hpending
  · cases hr : (s.fault k).reasserted
    · rw [clearedFault_of_present hc hr, clearRecord_of_present hc hr, fault_logIf_of (hroomMarked _), fault_markSpotlight,
        fault_setFault_same hk]
    · rw [clearedFault_of_reasserted hc hr, clearRecord_of_idle (.inr ⟨hc, hr⟩)]

/-- A clear leaves every other record but LOG_OVERWRITE's, and that one too while the log has room (R162, R169). -/
theorem fault_clearRecord_other {s : State} {j k : Nat} (hjk : j ≠ k) (h : s.log.records.length < 64 ∨ j ≠ fcLogOverwrite) :
    (clearRecord k s).fault j = s.fault j := by
  have hroom : ∀ r : FaultRecord, (s.setFault k r).log.records.length < 64 ∨ j ≠ fcLogOverwrite := fun _ => h
  have hroomMarked : ∀ r : FaultRecord, (markSpotlight k (s.setFault k r)).log.records.length < 64 ∨ j ≠ fcLogOverwrite :=
    fun _ => h
  refine clearRecord_induction (Q := fun t => t.fault j = s.fault j) rfl (fun _ => ?_) (fun _ => ?_)
  · rw [fault_logIf_of (hroom _), fault_setFault_ne hjk.symm]
  · rw [fault_logIf_of (hroomMarked _), fault_markSpotlight, fault_setFault_ne hjk.symm]

/-- Whether a clear of a code has anything to do (R162). -/
def clears (r : FaultRecord) : Bool := if r.condition then !r.reasserted else r.latch || r.pending

/-- How a clear is logged (R162). -/
def clearKind (r : FaultRecord) : LogKind := if r.condition then .reasserted else .cleared

theorem clearRecord_of_not_clears {s : State} {k : Nat} (h : clears (s.fault k) = false) : clearRecord k s = s := by
  refine clearRecord_of_idle ?_
  unfold clears at h
  cases hc : (s.fault k).condition
  · rw [hc, if_neg Bool.false_ne_true, Bool.or_eq_false_iff] at h
    exact .inl ⟨rfl, h⟩
  · rw [hc, if_pos rfl, Bool.not_eq_false'] at h
    exact .inr ⟨rfl, h⟩

/-- A clear with something to do writes the record and logs (R162). -/
theorem clearRecord_of_clears {s : State} {k : Nat} (h : clears (s.fault k) = true) : ∃ u, outsideFaults u = outsideFaults s ∧
    u.log = s.log ∧ u.faults.length = s.faults.length ∧
    clearRecord k s = logIf k (clearKind (s.fault k)) (s.fault k).context u := by
  unfold clears at h
  unfold clearKind
  cases hc : (s.fault k).condition
  · rw [hc, if_neg Bool.false_ne_true, Bool.or_eq_true] at h
    refine ⟨_, ?_, ?_, ?_, clearRecord_of_absent hc h⟩
    · rfl
    · rfl
    · exact faults_length_setFault ..
  · rw [hc, if_pos rfl, Bool.not_eq_true'] at h
    refine ⟨_, ?_, ?_, ?_, clearRecord_of_present hc h⟩
    · rfl
    · rfl
    · exact faults_length_setFault ..

theorem logTakes_clearRecord {s : State} {k : Nat} (h : clears (s.fault k) = true) (hlength : s.faults.length = 64) :
    LogTakes k (clearKind (s.fault k)) (s.fault k).context s (clearRecord k s) := by
  obtain ⟨u, hframe, hlog, hfaults, heq⟩ := clearRecord_of_clears h
  rw [heq]
  exact logTakes_logIf hframe hlog (by rw [hfaults, hlength]; decide) _ _ _

end Sys2Proof.Machine
end

section
/-! SUPPORT. FAULT_CLEAR, FAULT_CLEAR_ALL, the records and watches of the fault manager, POINT_FORCE and POINT_RELEASE (R45, R46, R156,
R160 to R164). -/

set_option Elab.async false

namespace Sys2Proof.Machine

open Sys2Proof.Safety

/-! ## FAULT_CLEAR of one code (R162) -/

theorem handHold_of_same (s : State) : handHold s.summary.yawHold s = s := by
  unfold handHold
  rw [Bool.and_not_self, if_neg Bool.false_ne_true]

theorem recomputeSince_of_same {s t : State} (h : t.faults.map (·.latch) = s.faults.map (·.latch)) : recomputeSince s t = t :=
  if_pos h

theorem clearFault_of_idle {k : Nat} {s : State} (h : clears (s.fault k) = false) : clearFault k s = s := by
  rw [clearFault, clearRecord_of_not_clears h, recomputeSince_of_same rfl, handHold_of_same]

/-- A clear leaves every other record where its own log record does not overwrite any (R162, R169). -/
theorem fault_clearRecord_ne_of {s : State} {j k : Nat} (hjk : j ≠ k)
    (h : (Loggable s k → s.log.records.length < 64) ∨ j ≠ fcLogOverwrite) : (clearRecord k s).fault j = s.fault j := by
  by_cases hl : Loggable s k
  · exact fault_clearRecord_other hjk (h.imp_left (fun hroom => hroom hl))
  · refine clearRecord_induction (Q := fun t => t.fault j = s.fault j) rfl (fun _ => ?_) (fun _ => ?_)
    · rw [logIf_of_not_loggable (by exact hl), fault_setFault_ne hjk.symm]
    · rw [logIf_of_not_loggable (by exact hl), fault_markSpotlight, fault_setFault_ne hjk.symm]

theorem fault_clearRecord_same_of {s : State} {k : Nat} (hk : k < s.faults.length)
    (h : (Loggable s k → s.log.records.length < 64) ∨ k ≠ fcLogOverwrite) :
    (clearRecord k s).fault k = clearedFault (s.faultEntry k) s.clock.seconds (s.fault k) := by
  by_cases hl : Loggable s k
  · exact fault_clearRecord_same hk (h.imp_left (fun hroom => hroom hl))
  · cases hc : (s.fault k).condition
    · rw [clearedFault_of_absent hc]
      cases hclears : clears (s.fault k)
      · rw [clearRecord_of_not_clears hclears]
        simp only [clears, hc, Bool.false_eq_true, if_false, Bool.or_eq_false_iff] at hclears
        obtain ⟨hlatch, hpending⟩ := hclears
        have heta : ∀ r : FaultRecord, r.latch = false → r.pending = false → r = { r with latch := false, pending := false } := by
          rintro r h1 h2
          cases r
          cases h1
          cases h2
          rfl
        exact heta _ hlatch hpending
      · simp only [clears, hc, Bool.false_eq_true, if_false, Bool.or_eq_true] at hclears
        rw [clearRecord_of_absent hc hclears, logIf_of_not_loggable (by exact hl), fault_setFault_same hk]
    · cases hr : (s.fault k).reasserted
      · rw [clearedFault_of_present hc hr, clearRecord_of_present hc hr, logIf_of_not_loggable (by exact hl), fault_markSpotlight,
          fault_setFault_same hk]
      · rw [clearedFault_of_reasserted hc hr, clearRecord_of_idle (.inr ⟨hc, hr⟩)]

theorem logTakes_congr {k : Nat} {kind : LogKind} {c : Int} {s t u : State} (hlog : u.log = t.log)
    (hfault : u.fault fcLogOverwrite = t.fault fcLogOverwrite) (h : LogTakes k kind c s t) : LogTakes k kind c s u := by
  simpa only [LogTakes, hlog, hfault] using h

/-- A clear that ends no move: with room in the log no action is new, and without a move there is none to end. -/
theorem clearFault_of_quiet {k : Nat} {s : State} (hlength : s.faults.length = 64) (hk : k < 64)
    (hquiet : (s.log.records.length < 64 ∧ s.summary = s.formSummary) ∨ s.sequencer.phase = .none) :
    clearFault k s = recomputeSince s (clearRecord k s) := by
  have hframe : outsideFaults (clearRecord k s) = outsideFaults s := outsideFaults_clearRecord k s
  rcases hquiet with ⟨hroom, hsum⟩ | hphase
  · refine handHold_of_fewer hsum hframe (Managed.refl.cleared k).faults_length (fun j hj => ?_)
    by_cases hjk : j = k
    · subst hjk
      rw [fault_clearRecord_same (by rw [hlength]; exact hk) (.inl hroom)] at hj
      exact clearedFault_latch hj
    · rw [fault_clearRecord_other hjk (.inl hroom)] at hj
      exact hj
  · refine handHold_of_none ?_
    have hview : outsideActions (recomputeSince s (clearRecord k s)) = outsideActions s :=
      (outsideActions_recomputeSince ..).trans (outsideActions_of_faults hframe)
    exact (eq_of_view hview (fun u => u.sequencer.phase)).trans hphase

/-! ## FAULT_CLEAR_ALL (R163) -/

theorem outsideFaults_foldl_clearRecord (ks : List Nat) (s : State) :
    outsideFaults (ks.foldl (fun acc k => clearRecord k acc) s) = outsideFaults s :=
  (Managed.foldl (f := fun acc k => clearRecord k acc) (fun k h => h.cleared k) ks Managed.refl).outside

theorem length_foldl_clearRecord (ks : List Nat) (s : State) :
    (ks.foldl (fun acc k => clearRecord k acc) s).faults.length = s.faults.length :=
  (Managed.foldl (f := fun acc k => clearRecord k acc) (fun k h => h.cleared k) ks Managed.refl).faults_length

/-- The records after every code of a list is cleared in turn (R163). -/
theorem fault_foldl_clearRecord {j : Nat} (ho : j ≠ fcLogOverwrite) (ks : List Nat) (hnodup : ks.Nodup) (s : State)
    (hj : j < s.faults.length) : (ks.foldl (fun acc k => clearRecord k acc) s).fault j =
      if j ∈ ks then clearedFault (s.faultEntry j) s.clock.seconds (s.fault j) else s.fault j := by
  induction ks generalizing s with
  | nil => rfl
  | cons k ks ih =>
    rw [List.nodup_cons] at hnodup
    obtain ⟨hnew, hnodup⟩ := hnodup
    have hframe : outsideFaults (clearRecord k s) = outsideFaults s := outsideFaults_clearRecord k s
    have hj' : j < (clearRecord k s).faults.length := by rw [(Managed.refl.cleared k).faults_length]; exact hj
    rw [List.foldl_cons, ih hnodup (clearRecord k s) hj', eq_of_view hframe (fun u => u.faultEntry j),
      eq_of_view hframe (fun u => u.clock.seconds)]
    by_cases hjk : j = k
    · subst hjk
      rw [if_neg hnew, if_pos List.mem_cons_self, fault_clearRecord_same hj (.inr ho)]
    · rw [fault_clearRecord_other hjk (.inr ho)]
      simp only [List.mem_cons, hjk, false_or]

/-- The codes of a list whose clear is logged (R162, R168). -/
def loggedClears (s : State) (ks : List Nat) : List Nat :=
  ks.filter (fun k => (s.faultEntry k).loggable && clears (s.fault k))

/-- Records numbered on from `n`, the first of them apart (R168). -/
theorem mapIdx_numbered (f : Word → Nat → LogRecord) (n : Word) (k : Nat) (ks : List Nat) :
    f n k :: ks.mapIdx (fun i j => f (n + 1 + BitVec.ofNat 16 i) j) = (k :: ks).mapIdx (fun i j => f (n + BitVec.ofNat 16 i) j) ∧
    n + 1 + BitVec.ofNat 16 ks.length = n + BitVec.ofNat 16 (k :: ks).length := by
  have hnext : ∀ i, n + 1 + BitVec.ofNat 16 i = n + BitVec.ofNat 16 (i + 1) := fun i => by
    rw [BitVec.ofNat_add, BitVec.add_comm (BitVec.ofNat 16 i), BitVec.add_assoc]
    rfl
  refine ⟨?_, hnext _⟩
  have hzero : n + BitVec.ofNat 16 0 = n := BitVec.add_zero n
  rw [List.mapIdx_cons, hzero]
  simp only [← hnext]

/-- While the log has room for them all, the clears of a list are logged in order, and set no latch (R163, R168). -/
theorem log_foldl_clearRecord (ks : List Nat) (hnodup : ks.Nodup) (hks : ∀ k ∈ ks, k < 64) (s : State)
    (hlength : s.faults.length = 64) (hroom : s.log.records.length + (loggedClears s ks).length ≤ 64) :
    (ks.foldl (fun acc k => clearRecord k acc) s).log =
      { records := s.log.records ++ (loggedClears s ks).mapIdx (fun i k =>
          { logRecordNow s k (clearKind (s.fault k)) (s.fault k).context with sequence := s.log.next + BitVec.ofNat 16 i })
        next := s.log.next + BitVec.ofNat 16 (loggedClears s ks).length } ∧
    ∀ j, ((ks.foldl (fun acc k => clearRecord k acc) s).fault j).latch = true → (s.fault j).latch = true := by
  induction ks generalizing s with
  | nil => exact ⟨by simp [loggedClears], fun _ h => h⟩
  | cons k ks ih =>
    rw [List.nodup_cons] at hnodup
    obtain ⟨hnew, hnodup⟩ := hnodup
    have hframe : outsideFaults (clearRecord k s) = outsideFaults s := outsideFaults_clearRecord k s
    have hlength' : (clearRecord k s).faults.length = 64 := (Managed.refl.cleared k).faults_length.trans hlength
    have hk : k < s.faults.length := by rw [hlength]; exact hks k List.mem_cons_self
    have hsplit : loggedClears s (k :: ks) =
        (if ((s.faultEntry k).loggable && clears (s.fault k)) = true then [k] else []) ++ loggedClears s ks := by
      unfold loggedClears
      rw [List.filter_cons]
      split <;> rfl
    have hfits : clears (s.fault k) = true → Loggable s k → s.log.records.length < 64 := by
      intro hc hl
      rw [hsplit, if_pos (by rw [hc, loggable_iff.mpr hl]; rfl), List.length_append, List.length_singleton] at hroom
      omega
    have hother : ∀ j, j ≠ k → (clearRecord k s).fault j = s.fault j := by
      intro j hj
      cases hc : clears (s.fault k)
      · rw [clearRecord_of_not_clears hc]
      · exact fault_clearRecord_ne_of hj (.inl (hfits hc))
    have hlatch : ∀ j, ((clearRecord k s).fault j).latch = true → (s.fault j).latch = true := by
      intro j hj
      by_cases hjk : j = k
      · subst hjk
        cases hc : clears (s.fault j)
        · rwa [clearRecord_of_not_clears hc] at hj
        · rw [fault_clearRecord_same_of hk (.inl (hfits hc))] at hj
          exact clearedFault_latch hj
      · rwa [hother j hjk] at hj
    have hsame : loggedClears (clearRecord k s) ks = loggedClears s ks := by
      refine List.filter_congr (fun j hj => ?_)
      rw [hother j (fun h => hnew (h ▸ hj)), eq_of_view hframe (fun u => u.faultEntry j)]
    have hlog : (clearRecord k s).log =
        if ((s.faultEntry k).loggable && clears (s.fault k)) = true then
          { records := s.log.records ++ [logRecordNow s k (clearKind (s.fault k)) (s.fault k).context], next := s.log.next + 1 }
        else s.log := by
      cases hc : clears (s.fault k)
      · rw [clearRecord_of_not_clears hc, Bool.and_false, if_neg Bool.false_ne_true]
      · obtain ⟨hno, hyes⟩ := logTakes_clearRecord hc hlength
        rw [Bool.and_true]
        split
        next hl =>
          obtain ⟨hadd, -⟩ := hyes (loggable_iff.mp hl)
          exact hadd (hfits hc (loggable_iff.mp hl))
        next hl => exact hno (fun h => hl (loggable_iff.mpr h))
    have hroom' : (clearRecord k s).log.records.length + (loggedClears (clearRecord k s) ks).length ≤ 64 := by
      rw [hsplit, List.length_append] at hroom
      rw [hsame, hlog]
      split
      next h =>
        rw [if_pos h, List.length_singleton] at hroom
        rw [List.length_append, List.length_singleton]
        omega
      next h =>
        rw [if_neg h, List.length_nil] at hroom
        omega
    obtain ⟨htail, htailLatch⟩ := ih hnodup (fun j hj => hks j (List.mem_cons_of_mem _ hj)) (clearRecord k s) hlength' hroom'
    refine ⟨?_, fun j hj => hlatch j (htailLatch j hj)⟩
    have hmap : (fun (i : Nat) (j : Nat) =>
        { logRecordNow (clearRecord k s) j (clearKind (s.fault j)) (s.fault j).context with
          sequence := (clearRecord k s).log.next + BitVec.ofNat 16 i }) =
        fun (i : Nat) (j : Nat) => { logRecordNow s j (clearKind (s.fault j)) (s.fault j).context with
          sequence := (clearRecord k s).log.next + BitVec.ofNat 16 i } := by
      funext i j
      have hclock : (clearRecord k s).clock = s.clock := eq_of_view hframe State.clock
      have hcycle : (clearRecord k s).prevCycle = s.prevCycle := eq_of_view hframe State.prevCycle
      simp only [logRecordNow, hclock, hcycle]
    have hrecords : (loggedClears s ks).mapIdx (fun i j =>
          { logRecordNow (clearRecord k s) j (clearKind ((clearRecord k s).fault j)) ((clearRecord k s).fault j).context with
            sequence := (clearRecord k s).log.next + BitVec.ofNat 16 i }) =
        (loggedClears s ks).mapIdx (fun i j => { logRecordNow s j (clearKind (s.fault j)) (s.fault j).context with
          sequence := (clearRecord k s).log.next + BitVec.ofNat 16 i }) := by
      rw [← hmap]
      refine List.mapIdx_eq_mapIdx_iff.mpr (fun i hi => ?_)
      have hmem : (loggedClears s ks)[i] ∈ ks := (List.mem_filter.mp (List.getElem_mem hi)).left
      rw [hother _ (fun h => hnew (h ▸ hmem))]
    rw [List.foldl_cons, htail, hsame, hrecords, hsplit, hlog]
    split
    · obtain ⟨hnumbered, hnext⟩ := mapIdx_numbered
        (fun n j => { logRecordNow s j (clearKind (s.fault j)) (s.fault j).context with sequence := n }) s.log.next k
        (loggedClears s ks)
      dsimp only
      rw [List.append_assoc, hnext]
      exact congrArg (FaultLog.mk · _) (congrArg (s.log.records ++ ·) hnumbered)
    · rfl

end Sys2Proof.Machine
end

section
/-! SUPPORT. The statements on the fault manager's records, clears and watches, and on forced points (R45, R46, R156, R160 to R164). -/

set_option Elab.async false

namespace Sys2Proof.Machine

open Sys2Proof.Safety

/-! ## STALE_INPUT and POINT_FORCED (R48, R49) -/

/-- STALE_INPUT after its evaluation (R48). -/
theorem evaluateStale_eq (s : State) : ∃ (present : Bool) (n : Nat), evaluateStale s = judge fcStaleInput present n s ∧
    (present = true ↔ ∃ m, m < 32 ∧ s.staleInput m = true) ∧
    ∀ m, m < 32 → s.staleInput m = true → (∀ j, j < m → s.staleInput j ≠ true) → present = true ∧ n = m := by
  unfold evaluateStale
  cases hfind : (List.range 32).find? s.staleInput with
  | none =>
    rw [List.find?_eq_none] at hfind
    refine ⟨false, 0, rfl, ⟨fun h => Bool.noConfusion h, ?_⟩, ?_⟩
    · rintro ⟨m, hm, hstale⟩
      exact absurd hstale (hfind m (List.mem_range.mpr hm))
    · intro m hm hstale
      exact absurd hstale (hfind m (List.mem_range.mpr hm))
  | some n =>
    obtain ⟨hn, i, hi, hget, hbefore⟩ := List.find?_eq_some_iff_getElem.mp hfind
    rw [List.getElem_range] at hget
    subst hget
    have hlow : ∀ j, j < i → s.staleInput j ≠ true := by
      intro j hj hstale
      have := hbefore j hj
      rw [List.getElem_range, hstale] at this
      cases this
    rw [List.length_range] at hi
    refine ⟨true, i, rfl, ⟨fun _ => ⟨i, hi, hn⟩, fun _ => rfl⟩, fun m hm hstale hleast => ⟨rfl, ?_⟩⟩
    by_contra hne
    rcases Nat.lt_or_gt_of_ne hne with hlt | hgt
    · exact hleast i hlt hn
    · exact hlow m hgt hstale

theorem staleInput_eq_true_iff {s : State} {n : Nat} :
    s.staleInput n = true ↔ (s.point n).quality = .stale ∧ stalenessLimit s.smt n ≠ 255 := by
  simp [State.staleInput]

theorem mem_raiseOutputs_bounds {n : Nat} (h : n ∈ raiseOutputs) : 32 ≤ n ∧ n ≤ 61 := by
  simp only [raiseOutputs, List.mem_cons, List.not_mem_nil, or_false] at h
  omega

theorem point_judge {n : Nat} (hn : n < 32 ∨ 62 ≤ n) (k : Nat) (present : Bool) (c : Int) (s : State) :
    (judge k present c s).point n = s.point n := by
  obtain ⟨-, hkept⟩ := KeepsPoints.judge k present c s
  refine hkept n (fun h => ?_)
  obtain ⟨hlo, hhi⟩ := mem_raiseOutputs_bounds h
  omega

theorem staleInput_judge {n : Nat} (hn : n < 32) (k : Nat) (present : Bool) (c : Int) (s : State) :
    (judge k present c s).staleInput n = s.staleInput n := by
  have hsmt : (judge k present c s).smt = s.smt := eq_of_view (outsideMoves_judge k present c s) State.smt
  simp only [State.staleInput, point_judge (.inl hn), hsmt]

theorem anyForced_eq_true_iff {s : State} : s.anyForced = true ↔ ∃ m, m < s.points.length ∧ (s.point m).quality = .forced := by
  simp only [State.anyForced, List.any_eq_true, beq_iff_eq, State.point]
  constructor
  · rintro ⟨p, hp, hforced⟩
    obtain ⟨m, hm, rfl⟩ := List.getElem_of_mem hp
    exact ⟨m, hm, by rw [List.getD_eq_getElem?_getD, List.getElem?_eq_getElem hm]; exact hforced⟩
  · rintro ⟨m, hm, hforced⟩
    rw [List.getD_eq_getElem?_getD, List.getElem?_eq_getElem hm] at hforced
    exact ⟨_, List.getElem_mem hm, hforced⟩

theorem byFaultsOnly_trans_judges {s : State} (k j : Nat) (p q : Bool) (c d : Int) :
    ByFaultsOnly s (judge j q d (judge k p c s)) :=
  byFaultsOnly_of ((outsideMoves_judge ..).trans (outsideMoves_judge ..)) ((KeepsPoints.judge k p c s).trans (.judge ..))

/-! ## The summary through a raise or an end (R164) -/

/-- The action summary stands as it is formed. -/
def SummaryFormed (s : State) : Prop := s.summary = s.formSummary

theorem summaryFormed_managed {s t : State} (hm : Managed s t) (h : SummaryFormed s) : SummaryFormed (recomputeSince s t) := by
  unfold recomputeSince
  split
  next hlatch =>
    show t.summary = t.formSummary
    rw [formSummary_congr (eq_of_view hm.outside State.fat) hlatch]
    exact (eq_of_view hm.outside State.summary).trans h
  · obtain ⟨hsum, hform, -⟩ := recompute_actions t
    exact hsum.trans hform.symm

theorem free_summaryFormed : FreeOfMoves SummaryFormed where
  quiet {s t} h hv _ := by
    show t.summary = t.formSummary
    rw [eq_of_view hv State.summary, eq_of_view hv State.formSummary]
    exact h
  points _ _ _ h := h
  limit _ _ h := h
  managed hm _ h := summaryFormed_managed hm h

/-- A change of latches has the summary formed anew, and whatever the hand-over raises keeps it so. -/
theorem summary_of_latches {s t : State} (h : t.faults.map (fun r => r.latch) ≠ s.faults.map (fun r => r.latch)) (before : Bool) :
    (handHold before (recomputeSince s t)).summary = (handHold before (recomputeSince s t)).formSummary := by
  have hformed : SummaryFormed (recomputeSince s t) := by
    rw [recomputeSince, if_neg h]
    obtain ⟨hsum, hform, -⟩ := recompute_actions t
    exact hsum.trans hform.symm
  exact free_handHold free_summaryFormed hformed before

/-- No change of latches, nothing more than the record's own change. -/
theorem handHold_of_latches {s t : State} (hframe : outsideFaults t = outsideFaults s)
    (h : t.faults.map (fun r => r.latch) = s.faults.map (fun r => r.latch)) :
    handHold s.summary.yawHold (recomputeSince s t) = t := by
  rw [recomputeSince_of_same h]
  have hsum : t.summary = s.summary := eq_of_view hframe State.summary
  rw [← hsum]
  exact handHold_of_same t

/-- A code's record after a raise that is no change of context alone (R160). -/
theorem fault_raiseRecord_same {k : Nat} {c : Int} {s : State} (hk : k < s.faults.length)
    (h : levelCode k = false ∨ (s.fault k).condition = false) (hroom : s.log.records.length < 64 ∨ k ≠ fcLogOverwrite) :
    (raiseRecord k c s).fault k = raisedRecord (levelCode k) (s.faultEntry k) c s.clock.seconds (s.fault k) := by
  rw [raiseRecord_of_absent c h, fault_logIf_of (by exact hroom), fault_markSpotlight, fault_setFault_same hk]

/-! ## The watches (R156) -/

theorem watch_threshold {hi lo : Nat} (hhi : hi < 65536) (hlo : lo < 65536) :
    (BitVec.ofNat 32 (hi * 65536 + lo)).toInt = (if 32768 ≤ hi then -4294967296 else 0) + (hi * 65536 : Nat) + (lo : Nat) := by
  rw [BitVec.toInt_eq_toNat_cond, BitVec.toNat_ofNat, Nat.mod_eq_of_lt (by omega)]
  split
  · rw [if_neg (by omega)]
    omega
  · rw [if_pos (by omega)]
    omega

theorem figure_lt (ws : List Word) (i : Nat) : figure ws i < 65536 := (wordAt ws i).isLt

/-- The watch `j` of a FAT in figures (R156, R216). -/
theorem watchOf_eq (fat : List Word) (j : Nat) : watchOf fat j =
    { point := figure fat (64 + 4 * j) / 256, comparison := figure fat (64 + 4 * j) % 256
      threshold := (if 32768 ≤ figure fat (65 + 4 * j) then -4294967296 else 0) + (figure fat (65 + 4 * j) * 65536 : Nat) +
        (figure fat (66 + 4 * j) : Nat)
      hysteresis := figure fat (67 + 4 * j) } := by
  have hpoint : bitsOf (wordAt fat (64 + 4 * j)) 8 8 = figure fat (64 + 4 * j) / 256 := by
    have hlt := figure_lt fat (64 + 4 * j)
    show figure fat (64 + 4 * j) / 2 ^ 8 % 2 ^ 8 = _
    omega
  have hcomparison : bitsOf (wordAt fat (64 + 4 * j)) 0 8 = figure fat (64 + 4 * j) % 256 := by
    show figure fat (64 + 4 * j) / 2 ^ 0 % 2 ^ 8 = _
    omega
  have hthreshold := watch_threshold (figure_lt fat (65 + 4 * j)) (figure_lt fat (66 + 4 * j))
  have hnext : 65 + 4 * j + 1 = 66 + 4 * j := by omega
  rw [watchOf, figure2, hpoint, hcomparison, hnext]
  exact congrArg (fun x => Watch.mk _ _ x _) hthreshold

end Sys2Proof.Machine

namespace Sys2Proof.Safety

open Sys2Proof.Machine

/-- Settles O19: the record by `fault_clearRecord_same`, the log by `logTakes_clearRecord`. -/
theorem faultClearActsByTheRecord : Obligations.FaultClearActsByTheRecord := by
  intro len k s hdue hlen
  have hexec : ∀ {u : State} {st : Status}, faultClearRequest k.toNat s = (u, st) →
      exec (.faultClear len k) s = .next (answered st.alone u) :=
    fun h => exec_request (r := .faultClear k) hdue hlen (congrArg plain h)
  refine ⟨fun hbad => hexec (st := .badArgument) (if_pos hbad), fun hk hlength hsum => ?_⟩
  have htaken : exec (.faultClear len k) s = .next (answered [0x00] (clearFault k.toNat s)) :=
    hexec (st := .ok) (if_neg (Nat.not_lt.mpr hk))
  have hk64 : k.toNat < 64 := Nat.lt_succ_of_le hk
  have hcleared : (s.log.records.length < 64 ∨ (k.toNat ≠ 31 ∧ k.toNat ≠ 34)) →
      (clearFault k.toNat s).fault k.toNat =
        clearedFault (s.faultEntry k.toNat) s.clock.seconds (s.fault k.toNat) := by
    rintro (hroom | ⟨h31, h34⟩)
    · rw [clearFault_of_quiet hlength hk64 (.inl ⟨hroom, hsum⟩), fault_recomputeSince,
        fault_clearRecord_same (by rw [hlength]; exact hk64) (.inl hroom)]
    · rw [clearFault, fault_handHold h31 h34, fault_recomputeSince,
        fault_clearRecord_same (by rw [hlength]; exact hk64) (.inr h34)]
  have hlogged : clears (s.fault k.toNat) = true → (s.log.records.length < 64 ∨ s.sequencer.phase = .none) →
      LogTakes k.toNat (clearKind (s.fault k.toNat)) (s.fault k.toNat).context s (clearFault k.toNat s) := by
    intro hclears hquiet
    rw [clearFault_of_quiet hlength hk64 (hquiet.imp_left (⟨·, hsum⟩))]
    exact logTakes_congr (log_recomputeSince ..) (fault_recomputeSince ..) (logTakes_clearRecord hclears hlength)
  refine ⟨fun hidle => ?_, fun hroom => ⟨fun habsent hmark => ⟨_, htaken, ?_, byFaultsOnly_clearFault .., ?_⟩,
    fun hpresent hfirst => ⟨_, htaken, ?_, byFaultsOnly_clearFault .., ?_⟩⟩⟩
  · have hnothing : clears (s.fault k.toNat) = false := by
      rcases hidle with ⟨hc, hl, hp⟩ | ⟨hc, hr⟩
      · simp [clears, hc, hl, hp]
      · simp [clears, hc, hr]
    rw [htaken, clearFault_of_idle hnothing]
  · rw [hcleared hroom, clearedFault_of_absent habsent]
  · have hclears : clears (s.fault k.toNat) = true := by simpa [clears, habsent] using hmark
    have hkind : clearKind (s.fault k.toNat) = .cleared := by simp [clearKind, habsent]
    rw [← hkind]
    exact hlogged hclears
  · rw [hcleared hroom, clearedFault_of_present hpresent hfirst]
    rfl
  · have hclears : clears (s.fault k.toNat) = true := by simp [clears, hpresent, hfirst]
    have hkind : clearKind (s.fault k.toNat) = .reasserted := by simp [clearKind, hpresent]
    rw [← hkind]
    exact hlogged hclears

/-- Settles O20: `fault_foldl_clearRecord` for the records, `log_foldl_clearRecord` for the log. -/
theorem faultClearAllClearsEveryCode : Obligations.FaultClearAllClearsEveryCode := by
  intro len s hdue hlen hlength
  have hframe := outsideFaults_foldl_clearRecord (List.range 64) s
  have hkept : KeepsPoints s (clearAllFaults s) :=
    ((KeepsPoints.of_outsideFaults hframe).trans (.recomputeSince ..)).trans (.handHold ..)
  refine ⟨clearAllFaults s, exec_request (r := .faultClearAll) hdue hlen rfl,
    byFaultsOnly_of (outsideMoves_clearAllFaults s) hkept, fun k hk h31 h34 => ?_, fun hquiet => ?_⟩
  · have hcleared : (clearAllFaults s).fault k = clearedFault (s.faultEntry k) s.clock.seconds (s.fault k) := by
      rw [clearAllFaults, fault_handHold h31 h34, fault_recomputeSince,
        fault_foldl_clearRecord h34 _ List.nodup_range s (by rw [hlength]; exact hk), if_pos (List.mem_range.mpr hk)]
    rw [hcleared]
    exact ⟨clearedFault_of_absent, clearedFault_of_reasserted, clearedFault_of_present⟩
  · intro hroom
    obtain ⟨hlog, hlatch⟩ := log_foldl_clearRecord (List.range 64) List.nodup_range
      (fun k hk => List.mem_range.mp hk) s hlength hroom
    have hheld : clearAllFaults s =
        recomputeSince s ((List.range 64).foldl (fun acc k => clearRecord k acc) s) := by
      rcases hquiet with hsum | hphase
      · exact handHold_of_fewer hsum hframe (length_foldl_clearRecord ..) hlatch
      · refine handHold_of_none ?_
        have hview := (outsideActions_recomputeSince s _).trans (outsideActions_of_faults hframe)
        exact (eq_of_view hview (fun u => u.sequencer.phase)).trans hphase
    rw [hheld, log_recomputeSince]
    exact hlog

/-- Settles O46: record and log by the rules of raise and end, the summary by `summary_of_latches`, the watches by `watchOf_eq`. -/
theorem recordsFollowRaisesAndEnds : Obligations.RecordsFollowRaisesAndEnds := by
  refine ⟨fun k c s hk hlength => ?_, fun k c s hlength => ?_, fun s j p limit hysteresis hj hp hlimit hhysteresis => ?_,
    fun s after hzero hnext => ?_⟩
  · have hk' : k < s.faults.length := by rw [hlength]; exact hk
    have hover : fcLogOverwrite < s.faults.length := by rw [hlength]; decide
    refine ⟨fun hl hc => raiseRecord_of_present c hl hc, fun hrises => ⟨fun hroom => ?_, ?_⟩, fun hc => endRecord_of_absent hc,
      fun hc hl => endRecord_of_latching hc hl, fun hc hl => ⟨fun hroom => ?_, ?_⟩⟩
    · rw [fault_raiseRecord_same hk' hrises hroom]
      exact congrArg (fun x => FaultRecord.mk _ _ x _ _ _ _) (Bool.or_assoc ..).symm
    · rw [raiseRecord_of_absent c hrises]
      refine logTakes_logIf ?_ ?_ ?_ k .raised c
      · rfl
      · rfl
      · simpa using hover
    · rw [endRecord_of_selfClearing hc hl, fault_logIf_of (by exact hroom), fault_setFault_same hk']
    · rw [endRecord_of_selfClearing hc hl]
      refine logTakes_logIf ?_ ?_ ?_ k .ended _
      · rfl
      · rfl
      · simpa using hover
  · have hraise := (Managed.refl (s := s)).raised k c
    have hend := (Managed.refl (s := s)).ended k
    exact ⟨handHold_of_latches hraise.outside, fun h => summary_of_latches h _, handHold_of_latches hend.outside,
      fun h => summary_of_latches h _⟩
  · have hwatch := watchOf_eq s.fat j
    rw [← hlimit, ← hhysteresis] at hwatch
    have hpoint : s.point (watchOf s.fat j).point = p := by rw [hwatch, hp]
    refine ⟨fun hoff => ?_, fun hread appears ends hcases => ?_⟩
    · unfold watchUpdate
      refine if_neg ?_
      rw [hpoint, hwatch]
      rintro ⟨hon, hread⟩
      rcases hoff with hoff | hoff | hoff | ⟨hfresh, hage⟩
      · exact hon hoff
      · simp [hoff] at hread
      · simp [hoff] at hread
      · simp [hfresh, hage] at hread
    · have hcomparison : (watchOf s.fat j).comparison = figure s.fat (64 + 4 * j) % 256 := by rw [hwatch]
      have hthreshold : (watchOf s.fat j).threshold = limit := by rw [hwatch]
      have hhyst : (watchOf s.fat j).hysteresis = hysteresis := by rw [hwatch]
      have hon : figure s.fat (64 + 4 * j) % 256 ≠ 0 := by
        rcases hcases with ⟨h, -⟩ | ⟨h, -⟩ <;> omega
      have hcode : fcWatch j = 48 + j := rfl
      have hjudged : watchUpdate s j =
          if (!s.condition (48 + j) && appears) = true then raise (48 + j) p.value s
          else if (s.condition (48 + j) && ends) = true then endCondition (48 + j) s else s := by
        unfold watchUpdate
        simp only [hpoint, hcomparison, hthreshold, hhyst, hcode, if_pos (And.intro hon hread)]
        rcases hcases with ⟨habove, rfl, rfl⟩ | ⟨hbelow, rfl, rfl⟩
        · simp only [habove, if_true]
        · simp only [hbelow, OfNat.ofNat_ne_one, if_false]
      rw [hjudged]
      cases s.condition (48 + j) <;> simp
  · have hall : ∀ n, n ≤ 16 → (List.range n).foldl watchUpdate s = after n := by
      intro n hn
      induction n with
      | zero => exact hzero.symm
      | succ n ih =>
        rw [List.range_succ, List.foldl_append, ih (by omega), List.foldl_cons, List.foldl_nil, hnext n (by omega)]
    exact hall 16 (Nat.le_refl _)

/-- Settles O18: two judgements on the table with the point's record set, in the order of force and of release. -/
theorem pointForceAndReleaseSetTheRecord : Obligations.PointForceAndReleaseSetTheRecord := by
  refine ⟨fun len n v s hdue hlen hpoints hfaults => ?_, fun len n s hdue hlen hpoints hfaults => ?_⟩
  · have hexec : ∀ {u : State} {st : Status}, pointForceRequest n.toNat v.toInt s = (u, st) →
        exec (.pointForce len n v) s = .next (answered st.alone u) :=
      fun h => exec_request (r := .pointForce n v) hdue hlen (congrArg plain h)
    refine ⟨fun hlow hstrap => hexec (st := .serviceOnly) ?_, fun hlo hhi => hexec (st := .badArgument) ?_, fun hmay => ?_⟩
    · simp [pointForceRequest, forceStatus, hlow, hstrap]
    · have hnot : ¬ n.toNat ≤ 31 := by omega
      simp [pointForceRequest, forceStatus, hnot, hhi]
    have hstatus : forceStatus s.strap n.toNat = .ok := by
      rcases hmay with ⟨hlow, hstrap⟩ | hhigh
      · simp [forceStatus, hlow, hstrap]
      · have h31 : ¬ n.toNat ≤ 31 := by omega
        have h63 : ¬ n.toNat ≤ 63 := by omega
        simp [forceStatus, h31, h63]
    have hfree : n.toNat < 32 ∨ 62 ≤ n.toNat := by omega
    have hn : n.toNat < s.points.length := by rw [hpoints]; exact n.isLt
    obtain ⟨u, hu⟩ : ∃ u : State, u = { s with points := s.points.set n.toNat { value := v.toInt, quality := .forced, age := 0 } } :=
      ⟨_, rfl⟩
    obtain ⟨present, m, hstale, hpresent, -⟩ := evaluateStale_eq u
    have hset : u.point n.toNat = { value := v.toInt, quality := .forced, age := 0 } := by
      rw [hu, State.point, List.getD_eq_getElem?_getD, List.getElem?_set_self (by exact hn)]
      rfl
    have hfaults' : u.faults = s.faults := by rw [hu]
    have hsmt : u.smt = s.smt := by rw [hu]; rfl
    have hjudgedPoint := (point_judge hfree fcStaleInput present m u).trans hset
    have hlength : n.toNat < (judge fcStaleInput present m u).points.length := by
      obtain ⟨hlen, -⟩ := KeepsPoints.judge fcStaleInput present m u
      rw [hlen, hu]
      simpa using hn
    have hforced : (judge fcStaleInput present m u).anyForced = true :=
      anyForced_eq_true_iff.mpr ⟨n.toNat, hlength, by rw [hjudgedPoint]⟩
    have htaken : exec (.pointForce len n v) s =
        .next (answered [0x00] (judge fcPointForced true n.toNat (judge fcStaleInput present m u))) := by
      refine hexec (st := .ok) ?_
      rw [pointForceRequest, if_pos hstatus, ← hu, hstale, evaluateForced, hforced]
    have hjudgedLength : (judge fcStaleInput present m u).faults.length = 64 := by rw [faults_length_judge, hfaults', hfaults]
    refine ⟨_, htaken, (point_judge hfree ..).trans hjudgedPoint, fun habsent => ?_, ?_, ?_, ?_⟩
    · have hrise := fault_judge_rising (k := fcPointForced) (s := judge fcStaleInput present m u) (by rw [hjudgedLength]; decide) rfl
        (by rw [condition_judge_ne (by decide) rfl, State.condition, State.fault, hfaults']; exact habsent) n.toNat
      rw [hrise]
      rfl
    · exact condition_judge (k := fcPointForced) rfl (fun _ => by rw [hjudgedLength]; decide) _
    · rw [condition_judge_ne (by decide) rfl, condition_judge (k := fcStaleInput) rfl (fun _ => by rw [hfaults', hfaults]; decide),
        hpresent]
      refine exists_congr (fun j => and_congr_right (fun hj => ?_))
      rw [staleInput_eq_true_iff, point_judge (.inl hj), point_judge (.inl hj), hsmt]
    · rw [← hu]
      exact byFaultsOnly_trans_judges ..
  · have hexec : ∀ {u : State} {st : Status}, pointReleaseRequest n.toNat s = (u, st) →
        exec (.pointRelease len n) s = .next (answered st.alone u) :=
      fun h => exec_request (r := .pointRelease n) hdue hlen (congrArg plain h)
    refine ⟨fun hnot => hexec (st := .ok) (if_neg hnot), fun hforced hfree => ?_⟩
    have hn : n.toNat < s.points.length := by rw [hpoints]; exact n.isLt
    have hfree' : n.toNat < 32 ∨ 62 ≤ n.toNat := by omega
    obtain ⟨u, hu⟩ : ∃ u : State, u = { s with points := s.points.set n.toNat { s.point n.toNat with quality := .stale } } :=
      ⟨_, rfl⟩
    have hset : u.point n.toNat = { s.point n.toNat with quality := .stale } := by
      rw [hu, State.point, List.getD_eq_getElem?_getD, List.getElem?_set_self (by exact hn)]
      rfl
    have hother : ∀ j, j ≠ n.toNat → u.point j = s.point j := by
      intro j hj
      rw [hu, State.point, List.getD_eq_getElem?_getD, List.getElem?_set_ne hj.symm, ← List.getD_eq_getElem?_getD]
      rfl
    have hfaults' : u.faults = s.faults := by rw [hu]
    have hsmt : u.smt = s.smt := by rw [hu]; rfl
    obtain ⟨present, m, hstale, hpresent, hleast⟩ := evaluateStale_eq (judge fcPointForced u.anyForced n.toNat u)
    have htaken : exec (.pointRelease len n) s =
        .next (answered [0x00] (judge fcStaleInput present m (judge fcPointForced u.anyForced n.toNat u))) := by
      refine hexec (st := .ok) ?_
      have hrelease : releasePoint (s.point n.toNat) = { s.point n.toNat with quality := .stale } := if_pos hforced
      rw [pointReleaseRequest, if_pos hforced, hrelease, ← hu, evaluateForced, hstale]
    have hjudgedLength : (judge fcPointForced u.anyForced n.toNat u).faults.length = 64 := by
      rw [faults_length_judge, hfaults', hfaults]
    have hpoint : ∀ j, j < 32 → ((judge fcStaleInput present m (judge fcPointForced u.anyForced n.toNat u)).point j).quality =
        ((judge fcPointForced u.anyForced n.toNat u).point j).quality := fun j hj => by rw [point_judge (.inl hj)]
    have hstaleIff : ∀ j, j < 32 → ((judge fcPointForced u.anyForced n.toNat u).staleInput j = true ↔
        ((judge fcStaleInput present m (judge fcPointForced u.anyForced n.toNat u)).point j).quality = .stale ∧
          stalenessLimit s.smt j ≠ 255) := by
      intro j hj
      have hsmt' : (judge fcPointForced u.anyForced n.toNat u).smt = s.smt :=
        (eq_of_view (outsideMoves_judge ..) State.smt).trans hsmt
      rw [staleInput_eq_true_iff, hpoint j hj, hsmt']
    refine ⟨_, htaken, ?_, ?_, ?_, fun j hj hjstale hjlimit hjleast habsent => ?_, ?_⟩
    · rw [point_judge hfree', point_judge hfree', hset]
    · rw [condition_judge_ne (by decide) rfl, condition_judge (k := fcPointForced) rfl (fun _ => by rw [hfaults', hfaults]; decide),
        anyForced_eq_true_iff]
      have hlength : u.points.length = 256 := by rw [hu]; simpa using hpoints
      rw [hlength]
      refine exists_congr (fun j => and_congr_right (fun hj => ?_))
      by_cases hjn : j = n.toNat
      · subst hjn
        simp [hset]
      · simp [hother j hjn, hjn]
    · rw [condition_judge (k := fcStaleInput) rfl (fun _ => by rw [hjudgedLength]; decide), hpresent]
      exact exists_congr (fun j => and_congr_right (fun hj => hstaleIff j hj))
    · obtain ⟨rfl, rfl⟩ := hleast j hj ((hstaleIff j hj).mpr ⟨hjstale, hjlimit⟩)
        (fun i hi hstaleI => hjleast i hi ((hstaleIff i (by omega)).mp hstaleI))
      have hrise := fault_judge_rising (k := fcStaleInput) (s := judge fcPointForced u.anyForced n.toNat u)
        (by rw [hjudgedLength]; decide) rfl
        (by rw [condition_judge_ne (by decide) rfl, State.condition, State.fault, hfaults']; exact habsent) (m : Int)
      rw [hrise]
      rfl
    · rw [← hu]
      exact byFaultsOnly_trans_judges ..

end Sys2Proof.Safety
end

section
/-! SUPPORT. Bad ends on both lanes, the arbitration of P1 and the ends of a frame at the ports (R1, R8, R13, R14, R22, R23). -/

set_option Elab.async false

namespace Sys2Proof.Machine

open Sys2Proof.Safety

/-! ## The outgoing frame ended (R8) -/

theorem endOut_eq (bad : Bool) (s : State) : endOut bad s =
    { s with p1 := { s.p1 with bytes := closedBytes bad s.p1.bytes s.outLane.held, ended := true } } := rfl

/-- P3 as a return frame that is not of kind ISLAND ends (R8, R21). -/
theorem endReturn_eq (bad : Bool) (s : State) : endReturn bad s = { s with p3 := closedP3 bad s } := by
  unfold endReturn closedP3
  by_cases hkind : s.retLane.kind = kindIsland
  · rw [if_pos hkind, if_pos hkind]
  · rw [if_neg hkind, if_neg hkind]
    have hsend : ∀ (bs : List Byte) (u : State), u.retLane = s.retLane →
        sendBytes .ret bs u = { u with p3 := { u.p3 with bytes := u.p3.bytes ++ bs } } :=
      fun bs u hu => if_neg (by rw [hu]; exact hkind)
    have hended : ∀ u v w : State, u.retLane = s.retLane → v = sendTail .ret u →
        w = sendBytes .ret (endCheck bad v.p3.bytes) v → { w with p3 := { w.p3 with busy := false, ended := true } } =
        { u with p3 := { busy := false, bytes := closedBytes bad u.p3.bytes u.retLane.held, ended := true } } := by
      intro u v w hu hv hw
      have hv' := hv.trans (hsend _ u hu)
      have hw' := hw.trans (hsend _ v (by rw [hv']; exact hu))
      rw [hw', hv']
      rfl
    by_cases hrecv : s.retLane.recv = []
    · have hbegun : beginReturn 0 s = { s with p3 := { busy := true, bytes := [], ended := false } } :=
        if_neg (by decide)
      simp only [if_pos hrecv, hbegun]
      exact hended { s with p3 := { busy := true, bytes := [], ended := false } } _ _ rfl rfl rfl
    · simp only [if_neg hrecv]
      exact hended s _ _ rfl rfl rfl

/-! ## Bad ends (R13, R14) -/

theorem setOutcome_eq (e : Engine) (o : FrameOutcome) (s : State) :
    setOutcome e o s = { s with flight := withOutcome o e s.flight } := by
  unfold setOutcome withOutcome
  split <;> rfl

theorem removeRecord_eq {e : Engine} {s t : State} (hbinding : e.binding = t.retLane.binding) (hflight : s.flight = t.flight)
    (hbanks : s.banks = t.banks) : removeRecord e s = { s with flight := withoutBound t, banks := drainedBanks t } := by
  have hall : ∀ l : List FlightRecord, l.all (fun r => r.generation == t.banks.generation) = true ↔
      ∀ r ∈ l, r.generation = t.banks.generation := fun l => by simp
  cases h : t.retLane.binding with
  | record id =>
    have hwithout : withoutBound t = t.flight.filter (fun r => r.id != id) := by simp only [withoutBound, h]
    have hremove : removeRecord e s = bankDrain { s with flight := withoutBound t } := by
      simp only [removeRecord, hbinding, h, hwithout, hflight]
    have hdrained : drainedBanks t =
        if t.banks.status = .draining ∧ ∀ r ∈ withoutBound t, r.generation = t.banks.generation then
          { t.banks with status := .idle }
        else t.banks := by simp only [drainedBanks, h]
    rw [hremove, hdrained, bankDrain]
    dsimp only
    rw [hbanks]
    by_cases hdrain : t.banks.status = .draining ∧ ∀ r ∈ withoutBound t, r.generation = t.banks.generation
    · have hdrain' := hdrain
      rw [← hall] at hdrain'
      rw [if_pos hdrain, if_pos hdrain']
    · have hdrain' := hdrain
      rw [← hall] at hdrain'
      rw [if_neg hdrain, if_neg hdrain', ← hbanks]
  | unbound => simp only [removeRecord, hbinding, withoutBound, drainedBanks, h, ← hflight, ← hbanks]
  | carrier r => simp only [removeRecord, hbinding, withoutBound, drainedBanks, h, ← hflight, ← hbanks]
  | removed r => simp only [removeRecord, hbinding, withoutBound, drainedBanks, h, ← hflight, ← hbanks]

theorem settleSpotlight_false (s : State) : settleSpotlight false s = { s with spotlight := none } := by
  cases h : s.spotlight with
  | none =>
    simp only [settleSpotlight, h]
    rw [← h]
  | some sp => simp only [settleSpotlight, h, Bool.false_and, Bool.false_eq_true, if_false]

/-- The consecutive-bad count set and judged (R14). -/
theorem setBad_out (n : Nat) (s : State) : setBad .out n s = judge fcOutErrors (decide (4 ≤ n)) 4 { s with outBad := n } := rfl

theorem setBad_ret (n : Nat) (s : State) : setBad .ret n s = judge fcReturnErrors (decide (4 ≤ n)) 4 { s with retBad := n } := rfl

theorem closeOut_bad {s : State} {truncated : Bool} (hbad : (s.outLane.sound && !truncated) = false) :
    closeOut truncated s = judge fcOutErrors (decide (4 ≤ min 255 (s.outBad + 1))) 4 { s with
      p1 := { s.p1 with bytes := closedBytes true s.p1.bytes s.outLane.held, ended := true }
      outLane := s.outLane.closed
      outBad := min 255 (s.outBad + 1)
      flight := withOutcome .bad s.outLane s.flight } := by
  unfold closeOut
  dsimp only
  rw [hbad]
  simp only [Bool.false_eq_true, if_false, Bool.not_false, endOut_eq, outBadEnd, countBad, setOutcome_eq, setBad_out]
  rfl

/-- A bad end on the out lane (R13). -/
theorem outBadEnd_closeOut {s : State} {truncated : Bool} (hbad : (s.outLane.sound && !truncated) = false) :
    OutBadEnd s (closeOut truncated s) := by
  rw [closeOut_bad hbad]
  have hcount : ∀ (p : Bool) (u : State), (judge fcOutErrors p 4 u).outBad = u.outBad :=
    fun p u => eq_of_view (outsideMoves_judge ..) State.outBad
  refine ⟨hcount _ _, fun hlength => ?_, byFaultsOnly_judge ..⟩
  rw [condition_judge (k := fcOutErrors) rfl (fun _ => by exact hlength ▸ (by decide : fcOutErrors < 64)), hcount, decide_eq_true_iff]

theorem closeReturn_bad {s : State} {truncated : Bool} (order : List Block) (hbad : (s.retLane.sound && !truncated) = false) :
    closeReturn truncated order s = { judge fcReturnErrors (decide (4 ≤ min 255 (s.retBad + 1))) 4 { s with
        p3 := closedP3 true s
        retLane := s.retLane.closed
        retBad := min 255 (s.retBad + 1)
        flight := withoutBound s
        banks := drainedBanks s } with spotlight := none } := by
  unfold closeReturn
  dsimp only
  rw [hbad]
  simp only [Bool.false_eq_true, if_false, Bool.not_false, endReturn_eq, returnBadEnd, countBad]
  have hremove := removeRecord_eq (e := s.retLane) (t := s) (s := { s with p3 := closedP3 true s, retLane := s.retLane.closed })
    rfl rfl rfl
  rw [hremove, settleSpotlight_false, setBad_ret]
  rfl

/-- A bad end on the return lane (R13). -/
theorem retBadEnd_closeReturn {s : State} {truncated : Bool} (order : List Block)
    (hbad : (s.retLane.sound && !truncated) = false) : RetBadEnd s (closeReturn truncated order s) := by
  rw [closeReturn_bad order hbad]
  have hjudged : ∀ (n : Nat) (u t : State), u.retBad = n →
      t = { judge fcReturnErrors (decide (4 ≤ n)) 4 u with spotlight := none } → t.retBad = n ∧
      (u.faults.length = 64 → (t.condition fcReturnErrors = true ↔ 4 ≤ t.retBad)) ∧ t.spotlight = none ∧ ByFaultsOnly u t := by
    rintro n u t hu rfl
    have hcount : (judge fcReturnErrors (decide (4 ≤ n)) 4 u).retBad = n := (eq_of_view (outsideMoves_judge ..) State.retBad).trans hu
    obtain ⟨hframe, hpoints⟩ := byFaultsOnly_judge fcReturnErrors (decide (4 ≤ n)) 4 u
    refine ⟨hcount, fun hlength => ?_, rfl, ⟨?_, hpoints⟩⟩
    · have hcondition : (judge fcReturnErrors (decide (4 ≤ n)) 4 u).condition fcReturnErrors = decide (4 ≤ n) :=
        condition_judge rfl (fun _ => by rw [hlength]; decide) 4
      show (judge fcReturnErrors (decide (4 ≤ n)) 4 u).condition fcReturnErrors = true ↔
        4 ≤ (judge fcReturnErrors (decide (4 ≤ n)) 4 u).retBad
      rw [hcondition, hcount, decide_eq_true_iff]
    · exact congrArg (fun v : State => { v with spotlight := none }) hframe
  exact hjudged (min 255 (s.retBad + 1)) { s with
    p3 := closedP3 true s, retLane := s.retLane.closed, retBad := min 255 (s.retBad + 1), flight := withoutBound s,
    banks := drainedBanks s } _ rfl rfl

/-! ## The arbitration of P1 (R22) -/

theorem arbitrate_of_busy {s : State} (h : s.p1.busy = true) : arbitrate s = s := if_pos h

theorem arbitrate_of_held {s : State} (hbusy : s.p1.busy = false) (hheld : s.hold.occupied = true) : arbitrate s =
    if s.hold.leaving then s else { s with
      p1 := { busy := true, bytes := [], ended := false }
      hold := { s.hold with leaving := true }
      outLane := s.outLane.opened .holdBuffer } := by
  unfold arbitrate
  rw [if_neg (by rw [hbusy]; exact Bool.false_ne_true), if_pos hheld]
  rfl

theorem arbitrate_of_empty {s : State} (hbusy : s.p1.busy = false) (hheld : s.hold.occupied = false) :
    arbitrate s = arbitrateIsland s := by
  unfold arbitrate
  rw [if_neg (by rw [hbusy]; exact Bool.false_ne_true), if_neg (by rw [hheld]; exact Bool.false_ne_true)]

theorem arbitrateIsland_of_not_waiting {s : State} (h : s.supervision.waiting = false) : arbitrateIsland s = s :=
  if_neg (by rw [h]; exact Bool.false_ne_true)

theorem arbitrateIsland_of_waiting {s : State} (h : s.supervision.waiting = true) : arbitrateIsland s =
    if s.opState = .island then { s with
      p1 := { busy := true, bytes := [], ended := false }
      outLane := s.outLane.opened .island
      islandBytes := islandFrame s.itp s.islandCycle ++ checkBytes (crc16 (islandFrame s.itp s.islandCycle))
      supervision := { s.supervision with waiting := false } }
    else { s with supervision := { s.supervision with waiting := false } } := if_pos h

/-! ## Ends and starts at the ports (R1, R22, R23) -/

theorem endAtP0_of_none {s : State} {truncated : Bool} (h : s.rx0.mode = .none ∨ s.rx0.mode = .discarding) :
    endAtP0 truncated s = setMode0 .none s := by
  rcases h with h | h <;> simp only [endAtP0, h]

theorem endAtP0_of_passing {s : State} {truncated : Bool} (h : s.rx0.mode = .passing) :
    endAtP0 truncated s = closeOut truncated (setMode0 .none s) := by
  simp only [endAtP0, h]

theorem endAtP0_of_buffering {s : State} {truncated : Bool} (h : s.rx0.mode = .buffering) :
    endAtP0 truncated s = holdEnd truncated (setMode0 .none s) := by
  simp only [endAtP0, h]

theorem endAtP0_of_dropping {s : State} {truncated : Bool} (h : s.rx0.mode = .dropping) :
    endAtP0 truncated s = ringOverrun (setMode0 .none s) := by
  simp only [endAtP0, h]

theorem endAtP2_of_passing {s : State} {truncated : Bool} (order : List Block) (h : s.rx2.mode = .passing) :
    endAtP2 truncated order s = closeReturn truncated order (setMode2 .none s) := by
  simp only [endAtP2, h]

theorem endAtP2_of_not_passing {s : State} {truncated : Bool} (order : List Block) (h : s.rx2.mode ≠ .passing) :
    endAtP2 truncated order s = setMode2 .none s := by
  cases hmode : s.rx2.mode <;> simp_all [endAtP2]

theorem ringOverrun_eq {s : State} {c : Nat}
    (hc : c = (if 2 ≤ s.rx0.seen.length then (s.rx0.seen.getD 1 0).toNat % 128 else 0)) :
    ringOverrun s = raise fcOverrun c { s with rx0 := { s.rx0 with seen := [] } } := by
  subst hc
  unfold ringOverrun
  cases s.rx0.seen with
  | nil => rfl
  | cons a rest =>
    cases rest with
    | nil => rfl
    | cons b rest => simp [cycleOf]

theorem sending_eq_true_iff {s : State} {source : OutSource} :
    s.sending source = true ↔ s.outLane.isOpen = true ∧ s.outLane.source = source := by
  simp [State.sending]

/-- The end of the frame arriving in the hold buffer, while it waits or leaves (R22). -/
theorem holdEnd_of_held {s : State} {truncated : Bool} (h : s.hold.leaving = false ∨ s.sending .holdBuffer = true) :
    holdEnd truncated s = { s with hold := { s.hold with ended := some truncated } } := by
  unfold holdEnd
  refine if_neg ?_
  rw [Bool.and_eq_true, Bool.not_eq_true']
  rintro ⟨hleaving, hsending⟩
  rcases h with h | h
  · rw [show s.hold.leaving = true from hleaving] at h
    cases h
  · rw [show s.sending .holdBuffer = false from hsending] at h
    cases h

/-- The end of a held frame that has been cut on P1: the buffer EMPTY, P1 arbitrated (R7, R22). -/
theorem holdEnd_of_cut {s : State} {truncated : Bool} (hleaving : s.hold.leaving = true) (h : s.sending .holdBuffer = false) :
    holdEnd truncated s = arbitrate { s with hold := .empty } := by
  unfold holdEnd
  refine if_pos ?_
  rw [Bool.and_eq_true, Bool.not_eq_true']
  exact ⟨hleaving, h⟩

end Sys2Proof.Machine

namespace Sys2Proof.Safety

open Sys2Proof.Machine

/-- Settles O29: an end at the port behind the line's change. -/
theorem lineLockSetsTheLineAndTruncates : Obligations.LineLockSetsTheLineAndTruncates := by
  intro s hdue
  have hgained : ∀ port, exec (.lineLockGained port) s = .next (setLine port .up s) := fun port => by
    show Host.Outcome.next (setLine port .up (settle s)) = _
    rw [settle_of_due_nil hdue]
  have hlost : ∀ port, exec (.lineLockLost port) s = .next (loseLock port s) := fun port => by
    show Host.Outcome.next (loseLock port (settle s)) = _
    rw [settle_of_due_nil hdue]
  have hp0 : loseLock .p0 s = endAtP0 true { s with rx0 := { s.rx0 with line := .down } } := rfl
  have hcutEnd : s.rx0.mode = .buffering → s.hold.leaving = true →
      (s.outLane.isOpen = false ∨ s.outLane.source ≠ .holdBuffer) → ∀ u : State, u = { s with
        rx0 := { s.rx0 with line := .down, mode := .none }, hold := .empty } →
      exec (.lineLockLost .p0) s = .next (arbitrate u) := by
    intro hmode hleaving hcut u hu
    have hnot : s.sending .holdBuffer = false := by
      rw [← Bool.not_eq_true, sending_eq_true_iff]
      rintro ⟨hopen, hsource⟩
      rcases hcut with h | h
      · rw [hopen] at h
        cases h
      · exact h hsource
    rw [hlost, hp0, endAtP0_of_buffering (by exact hmode), holdEnd_of_cut (by exact hleaving) (by exact hnot), hu]
    rfl
  have hp2 : loseLock .p2 s = endAtP2 true [] { s with rx2 := { s.rx2 with line := .down } } := rfl
  refine ⟨hgained .p0, hgained .p2, fun hmode => ?_, fun hmode => ⟨_, hlost .p0, ?_⟩, fun hmode hleaving => ?_,
    fun hmode hleaving => ⟨fun hopen hsource => ?_, fun hcut u hu => ⟨fun hwait => ?_, fun hidle hwait hstate => ?_,
      fun hidle hwait hstate => ?_⟩⟩, fun hmode c hc => ?_, fun hmode => ?_, fun hmode => ⟨_, hlost .p2, ?_⟩⟩
  · rw [hlost, hp0, endAtP0_of_none (by exact hmode)]
    rfl
  · rw [hp0, endAtP0_of_passing (by exact hmode)]
    exact outBadEnd_closeOut (Bool.and_false _)
  · rw [hlost, hp0, endAtP0_of_buffering (by exact hmode), holdEnd_of_held (.inl (by exact hleaving))]
    rfl
  · rw [hlost, hp0, endAtP0_of_buffering (by exact hmode),
      holdEnd_of_held (.inr (sending_eq_true_iff.mpr ⟨by exact hopen, by exact hsource⟩))]
    rfl
  · rw [hcutEnd hmode hleaving hcut u hu]
    cases hbusy : s.p1.busy
    · rw [arbitrate_of_empty (by rw [hu]; exact hbusy) (by rw [hu]), arbitrateIsland_of_not_waiting]
      rw [hu]
      exact hwait.resolve_left (by rw [hbusy]; exact Bool.false_ne_true)
    · rw [arbitrate_of_busy (by rw [hu]; exact hbusy)]
  · rw [hcutEnd hmode hleaving hcut u hu, arbitrate_of_empty (by rw [hu]; exact hidle) (by rw [hu]), arbitrateIsland_of_waiting (by rw [hu]; exact hwait),
      if_neg (by rw [hu]; exact hstate), hu]
  · rw [hcutEnd hmode hleaving hcut u hu, arbitrate_of_empty (by rw [hu]; exact hidle) (by rw [hu]), arbitrateIsland_of_waiting (by rw [hu]; exact hwait),
      if_pos (by rw [hu]; exact hstate), hu]
    rfl
  · rw [hlost, hp0, endAtP0_of_dropping (by exact hmode), ringOverrun_eq (c := c) (by exact hc)]
    rfl
  · rw [hlost, hp2, endAtP2_of_not_passing [] (by exact hmode)]
    rfl
  · rw [hp2, endAtP2_of_passing [] (by exact hmode)]
    exact retBadEnd_closeReturn [] (Bool.and_false _)

end Sys2Proof.Safety
end

section
/-! SUPPORT. Start delimiters, the arbitration of an idle P1, the island frame and the cut at the 1025th byte (R1, R7, R22, R23, R181). -/

set_option Elab.async false

namespace Sys2Proof.Machine

open Sys2Proof.Safety

/-- What lies outside a raise's frame stands. -/
theorem outsideMoves_of_byFaultsOnly {s t : State} (h : ByFaultsOnly s t) : outsideMoves t = outsideMoves s := by
  obtain ⟨hframe, -⟩ := h
  exact (congrArg outsideMoves hframe).trans rfl

theorem setMode0_of_same {s : State} {m : RxMode} (h : s.rx0.mode = m) : setMode0 m s = s := by
  rw [setMode0, ← h]

theorem startAtP0_of_occupied {s : State} (h : s.hold.occupied = true) :
    startAtP0 s = { s with rx0 := { s.rx0 with mode := .dropping, seen := [] } } := if_pos h

theorem startAtP0_of_busy {s : State} (hheld : s.hold.occupied = false) (hbusy : s.p1.busy = true) : startAtP0 s = { s with
    rx0 := { s.rx0 with mode := .buffering }
    hold := { occupied := true, bytes := [], stored := 0, overrun := false, ended := none, leaving := false } } := by
  unfold startAtP0
  rw [if_neg (by rw [hheld]; exact Bool.false_ne_true), if_pos hbusy]
  rfl

theorem startAtP0_of_idle {s : State} (hheld : s.hold.occupied = false) (hbusy : s.p1.busy = false) : startAtP0 s = { s with
    rx0 := { s.rx0 with mode := .passing }
    p1 := { busy := true, bytes := [], ended := false }
    outLane := s.outLane.opened .p0 } := by
  unfold startAtP0
  rw [if_neg (by rw [hheld]; exact Bool.false_ne_true), if_neg (by rw [hbusy]; exact Bool.false_ne_true)]
  rfl

/-! ## The island frame (R181, R185) -/

theorem islandSlot_eq (itp : List Word) (k : Nat) :
    islandSlot itp k = (figure itp (5 + k) / 256, figure itp (5 + k) % 256) := by
  have hlt := figure_lt itp (5 + k)
  have htag : bitsOf (wordAt itp (5 + k)) 8 8 = figure itp (5 + k) / 256 := by
    show figure itp (5 + k) / 2 ^ 8 % 2 ^ 8 = _
    omega
  have hlength : bitsOf (wordAt itp (5 + k)) 0 8 = figure itp (5 + k) % 256 := by
    show figure itp (5 + k) / 2 ^ 0 % 2 ^ 8 = _
    omega
  rw [islandSlot, htag, hlength]

theorem islandFrame_eq (itp : List Word) (cycle : Nat) : islandFrame itp cycle =
    frameBody 0xA5 (BitVec.ofNat 8 cycle) ((List.range (figure itp 4)).map (fun k =>
      (BitVec.ofNat 8 (figure itp (5 + k) / 256), List.replicate (figure itp (5 + k) % 256) 0))) := by
  have hslots : islandSlotList itp = (List.range (figure itp 4)).map (fun k =>
      (figure itp (5 + k) / 256, figure itp (5 + k) % 256)) := by
    rw [islandSlotList]
    exact congrArg (List.map · _) (funext (islandSlot_eq itp))
  unfold islandFrame frameBody
  rw [hslots]
  have hsmall : ∀ n : Nat, BitVec.ofNat 8 (n % 256) = BitVec.ofNat 8 n := fun n => by
    apply BitVec.eq_of_toNat_eq
    simp
  simp only [List.length_map, List.map_map, Function.comp_def, List.length_replicate, List.flatMap_map, List.cons_append,
    List.nil_append, hsmall]
  rfl

/-! ## The cut at the 1025th byte (R7) -/

theorem overlengthCut_out (s : State) : overlengthCut .out s = closeOut true (discardRest .out s.outLane.source s) := rfl

theorem overlengthCut_ret (s : State) : overlengthCut .ret s = closeReturn true [] (setMode2 .discarding s) := rfl

end Sys2Proof.Machine

namespace Sys2Proof.Safety

open Sys2Proof.Machine

/-- Settles O30: an end of what is still arriving, then the frame's beginning by the state of hold buffer and P1. -/
theorem startDelimiterIsArbitratedOrDropped : Obligations.StartDelimiterIsArbitratedOrDropped := by
  refine ⟨fun s hdue => ?_, fun s hdue => ?_⟩
  · have h0 : exec .startDelimiterAtP0 s = .next (delimiterAtP0 s) := by
      show Host.Outcome.next (delimiterAtP0 (settle s)) = _
      rw [settle_of_due_nil hdue]
    have h2 : exec .startDelimiterAtP2 s = .next (delimiterAtP2 s) := by
      show Host.Outcome.next (delimiterAtP2 (settle s)) = _
      rw [settle_of_due_nil hdue]
    have hup0 : ∀ {u : State}, u.rx0.line = .up → delimiterAtP0 u = startAtP0 (endAtP0 true u) := fun h => if_pos h
    have hup2 : s.rx2.line = .up → delimiterAtP2 s = startAtP2 (endAtP2 true [] s) := fun h => if_pos h
    refine ⟨fun hdown => ?_, fun hup hmode => ⟨fun hheld => ?_, fun hheld hbusy => ?_, fun hheld hbusy => ?_⟩,
      fun hup hmode => ⟨closeOut true (setMode0 .none s), outBadEnd_closeOut (Bool.and_false _), ?_⟩, fun hup hmode hheld hleaving => ?_,
      fun hdown => ?_, fun hup hmode => ?_, fun hup hmode => ⟨closeReturn true [] (setMode2 .none s),
        retBadEnd_closeReturn [] (Bool.and_false _), ?_⟩⟩
    · rw [h0, delimiterAtP0, if_neg (by rw [hdown]; decide)]
    · rw [h0, hup0 hup, endAtP0_of_none hmode, startAtP0_of_occupied (by exact hheld)]
      rfl
    · rw [h0, hup0 hup, endAtP0_of_none hmode, startAtP0_of_busy (by exact hheld) (by exact hbusy)]
      rfl
    · rw [h0, hup0 hup, endAtP0_of_none hmode, startAtP0_of_idle (by exact hheld) (by exact hbusy)]
      rfl
    · obtain ⟨-, -, hframe⟩ := outBadEnd_closeOut (s := setMode0 .none s) (truncated := true) (Bool.and_false _)
      have hview := outsideMoves_of_byFaultsOnly hframe
      have hrx : (closeOut true (setMode0 .none s)).rx0 = { s.rx0 with mode := .none } := eq_of_view hview State.rx0
      have hdue' : (closeOut true (setMode0 .none s)).due = [] := (eq_of_view hview State.due).trans hdue
      rw [h0, hup0 hup, endAtP0_of_passing hmode]
      show _ = Host.Outcome.next (delimiterAtP0 (settle (closeOut true (setMode0 .none s))))
      have hmode' : (closeOut true (setMode0 .none s)).rx0.mode = .none := by rw [hrx]
      have hline' : (closeOut true (setMode0 .none s)).rx0.line = .up := by rw [hrx]; exact hup
      rw [settle_of_due_nil hdue', hup0 hline', endAtP0_of_none (.inl hmode'), setMode0_of_same hmode']
    · rw [h0, hup0 hup, endAtP0_of_buffering hmode, holdEnd_of_held (.inl (by exact hleaving)),
        startAtP0_of_occupied (by exact hheld)]
      rfl
    · rw [h2, delimiterAtP2, if_neg (by rw [hdown]; decide)]
    · rw [h2, hup2 hup, endAtP2_of_not_passing [] hmode]
      rfl
    · rw [h2, hup2 hup, endAtP2_of_passing [] hmode]
      rfl
  · have hexec : exec .frameDropped s = .next (dropEnd s) := by
      show Host.Outcome.next (dropEnd (settle s)) = _
      rw [settle_of_due_nil hdue]
    refine ⟨fun hmode => ?_, fun hmode c hc => ?_⟩
    · rw [hexec, dropEnd, if_neg hmode]
    · rw [hexec, dropEnd, if_pos hmode, endAtP0_of_dropping hmode, ringOverrun_eq (c := c) (by exact hc)]
      rfl

/-- Settles O31: `arbitrate` on P1 no longer BUSY, and `islandFrame_eq`. -/
theorem idleP1TakesItsNextFrame : Obligations.IdleP1TakesItsNextFrame := by
  refine ⟨islandFrame_eq, fun s hdue => ?_⟩
  have hexec : exec .p1BecomesIdle s = .next (becomeIdle s) := by
    show Host.Outcome.next (becomeIdle (settle s)) = _
    rw [settle_of_due_nil hdue]
  refine ⟨fun hno => ?_, fun hbusy hended => ?_⟩
  · rw [hexec, becomeIdle, if_neg]
    rw [Bool.and_eq_true]
    rintro ⟨hbusy, hended⟩
    rcases hno with h | h
    · rw [hbusy] at h
      cases h
    · rw [hended] at h
      cases h
  · have hidle : exec .p1BecomesIdle s = .next (arbitrate { s with p1 := { s.p1 with busy := false } }) := by
      rw [hexec, becomeIdle, hbusy, hended, Bool.and_self, if_pos rfl]
    refine ⟨fun hheld hleaving => ?_, fun hheld hleaving => ?_, fun hheld hwait => ?_, fun hheld hwait hstate => ?_,
      fun hheld hwait hstate => ?_⟩
    · rw [hidle, arbitrate_of_held rfl (by exact hheld), if_neg (by exact hleaving ▸ Bool.false_ne_true)]
    · rw [hidle, arbitrate_of_held rfl (by exact hheld), if_pos (by exact hleaving)]
    · rw [hidle, arbitrate_of_empty rfl (by exact hheld), arbitrateIsland_of_not_waiting (by exact hwait)]
    · rw [hidle, arbitrate_of_empty rfl (by exact hheld), arbitrateIsland_of_waiting (by exact hwait), if_neg (by exact hstate)]
    · rw [hidle, arbitrate_of_empty rfl (by exact hheld), arbitrateIsland_of_waiting (by exact hwait), if_pos (by exact hstate)]
      rfl

/-- Settles O39: the engine's frame closed as a bad one behind what is left at its port. -/
theorem overlengthFrameIsCutAndBad : Obligations.OverlengthFrameIsCutAndBad := by
  intro s
  have hexec : ∀ lane, s.due = [.overlengthCut lane] →
      exec (.frameOverlengthCut lane) s = .next (overlengthCut lane { s with due := [] }) := fun lane hdue =>
    congrArg Host.Outcome.next (takeDue_of_single hdue (by simp))
  refine ⟨fun hdue hsource => ⟨_, hexec _ hdue, ?_⟩, fun hdue hsource hended => ⟨_, hexec _ hdue, ?_⟩,
    fun hdue hsource hended => ⟨_, hexec _ hdue, ?_⟩, fun hdue => ⟨_, hexec _ hdue, ?_⟩⟩
  · have hrest : discardRest .out s.outLane.source { s with due := [] } =
        { s with due := [], rx0 := { s.rx0 with mode := .discarding } } := by
      rw [hsource]
      rfl
    have hbad := outBadEnd_closeOut (s := { s with due := [], rx0 := { s.rx0 with mode := .discarding } }) (truncated := true)
      (Bool.and_false _)
    rw [overlengthCut_out, hrest]
    obtain ⟨hcount, hcondition, hframe⟩ := hbad
    exact ⟨eq_of_view (outsideMoves_of_byFaultsOnly hframe) (fun u => u.rx0.mode), hcount, hcondition, hframe⟩
  · have hrest : discardRest .out s.outLane.source { s with due := [] } = { s with due := [] } := by
      rw [hsource]
      exact if_neg (by rw [hended]; decide)
    rw [overlengthCut_out, hrest]
    exact outBadEnd_closeOut (Bool.and_false _)
  · have hrest : discardRest .out s.outLane.source { s with due := [] } = { s with due := [], hold := .empty } := by
      rw [hsource]
      exact if_pos (Option.isSome_iff_ne_none.mpr hended)
    have hbad := outBadEnd_closeOut (s := { s with due := [], hold := .empty }) (truncated := true) (Bool.and_false _)
    rw [overlengthCut_out, hrest]
    obtain ⟨hcount, hcondition, hframe⟩ := hbad
    exact ⟨eq_of_view (outsideMoves_of_byFaultsOnly hframe) (fun u => u.hold.occupied), hcount, hcondition, hframe⟩
  · have hbad := retBadEnd_closeReturn (s := setMode2 .discarding { s with due := [] }) (truncated := true) [] (Bool.and_false _)
    rw [overlengthCut_ret]
    obtain ⟨hcount, hcondition, hspot, hframe⟩ := hbad
    exact ⟨eq_of_view (outsideMoves_of_byFaultsOnly hframe) (fun u => u.rx2.mode), hcount, hcondition, hspot, hframe⟩

end Sys2Proof.Safety
end

section
/-! SUPPORT. The numbers of a field (R32, R211), the field actions (R33 to R36, R39), the application of an entry (R31) and the
frame start on the return lane (R17, R18). -/

set_option Elab.async false

namespace Sys2Proof.Machine

open Sys2Proof.Safety

/-! ## Numbers and their bytes (R211) -/

@[simp] theorem length_beBytes (w n : Nat) : (beBytes w n).length = w := by
  induction w with
  | zero => rfl
  | succ w ih => rw [beBytes, List.length_cons, ih]

/-- Bytes read on from a number held. -/
theorem foldl_bytes (bs : List Byte) (acc : Nat) :
    bs.foldl (fun acc b => acc * 256 + b.toNat) acc = acc * 256 ^ bs.length + beNat bs := by
  unfold beNat
  induction bs generalizing acc with
  | nil => simp
  | cons b bs ih =>
    rw [List.foldl_cons, List.foldl_cons, ih, ih (0 * 256 + b.toNat), List.length_cons, pow_succ]
    ring

theorem beNat_cons (b : Byte) (bs : List Byte) : beNat (b :: bs) = b.toNat * 256 ^ bs.length + beNat bs := by
  have h := foldl_bytes bs (0 * 256 + b.toNat)
  rw [Nat.zero_mul, Nat.zero_add] at h
  exact (congrArg (fun n => bs.foldl _ n) (by omega : 0 * 256 + b.toNat = b.toNat)).trans h

theorem beNat_lt (bs : List Byte) : beNat bs < 256 ^ bs.length := by
  induction bs with
  | nil => exact Nat.one_pos
  | cons b bs ih =>
    have hb := b.isLt
    rw [beNat_cons, List.length_cons, pow_succ]
    nlinarith

theorem beNat_beBytes (w n : Nat) : beNat (beBytes w n) = n % 256 ^ w := by
  induction w with
  | zero => simp [beBytes, beNat, Nat.mod_one]
  | succ w ih =>
    have hbyte : (BitVec.ofNat 8 (n / 256 ^ w)).toNat = n / 256 ^ w % 256 := BitVec.toNat_ofNat ..
    rw [beBytes, beNat_cons, ih, length_beBytes, hbyte, pow_succ (256 : Nat) w, Nat.mod_mul, Nat.mul_comm, Nat.add_comm]

theorem beBytes_beNat (bs : List Byte) (m : Nat) : beBytes bs.length (m * 256 ^ bs.length + beNat bs) = bs := by
  induction bs generalizing m with
  | nil => rfl
  | cons b bs ih =>
    have hlt := beNat_lt bs
    have hpos : 0 < 256 ^ bs.length := Nat.pow_pos (by decide)
    have hsplit : m * 256 ^ (bs.length + 1) + beNat (b :: bs) = (m * 256 + b.toNat) * 256 ^ bs.length + beNat bs := by
      rw [beNat_cons, pow_succ]
      ring
    rw [List.length_cons, beBytes, hsplit, ih]
    congr 1
    rw [Nat.mul_comm, Nat.mul_add_div hpos, Nat.div_eq_of_lt hlt, Nat.add_zero]
    apply BitVec.eq_of_toNat_eq
    have hb := b.isLt
    rw [BitVec.toNat_ofNat]
    omega

theorem pow_256 (w : Nat) : 256 ^ w = 2 ^ (8 * w) := by
  rw [Nat.pow_mul]

/-! ## The field of an action (R32) -/

theorem fieldNumber_eq (signed : Bool) (bs : List Byte) : fieldNumber signed bs = fieldRead signed bs := by
  unfold fieldNumber fieldRead
  simp only [Bool.and_eq_true, decide_eq_true_eq]
  rfl

theorem toField_eq (a : FieldAction) (x : Int) : toField a x = saturate (fieldMin a.signed a.width) (fieldMax a.signed a.width) x := by
  unfold toField saturate fieldMin fieldMax
  cases a.signed
  · simp only [Bool.false_eq_true, if_false]
  · simp only [if_true]

@[simp] theorem length_fieldWrite (signed : Bool) (w : Nat) (x : Int) : (fieldWrite signed w x).length = w := length_beBytes _ _

/-- The half of a field's range, twice. -/
theorem two_mul_half {w : Nat} (hw : 1 ≤ w) : 2 * 2 ^ (8 * w - 1) = 2 ^ (8 * w) := by
  rw [← pow_succ']
  congr 1
  omega

theorem saturate_range (signed : Bool) (w : Nat) (x : Int) :
    fieldMin signed w ≤ saturate (fieldMin signed w) (fieldMax signed w) x ∧
    saturate (fieldMin signed w) (fieldMax signed w) x ≤ fieldMax signed w := by
  have hle : fieldMin signed w ≤ fieldMax signed w := by
    unfold fieldMin fieldMax
    have hfull := Nat.pow_pos (n := 8 * w) (show 0 < 2 by decide)
    have hhalf := Nat.pow_pos (n := 8 * w - 1) (show 0 < 2 by decide)
    split <;> omega
  rw [saturate]
  omega

/-- A number written to a field and read back is the number saturated (R32). -/
theorem fieldRead_fieldWrite {signed : Bool} {w : Nat} (hw : 1 ≤ w) (x : Int) :
    fieldRead signed (fieldWrite signed w x) = saturate (fieldMin signed w) (fieldMax signed w) x := by
  obtain ⟨y, hy⟩ : ∃ y, y = saturate (fieldMin signed w) (fieldMax signed w) x := ⟨_, rfl⟩
  have hhalf := two_mul_half hw
  have hpos : 0 < 2 ^ (8 * w - 1) := Nat.pow_pos (by decide)
  have hread : beNat (fieldWrite signed w x) = (y % ((2 ^ (8 * w) : Nat) : Int)).toNat := by
    rw [fieldWrite, beNat_beBytes, pow_256, ← hy]
    refine Nat.mod_eq_of_lt ?_
    have hlt := Int.emod_lt_of_pos y (b := ((2 ^ (8 * w) : Nat) : Int)) (by omega)
    omega
  obtain ⟨hlo, hhi⟩ := saturate_range signed w x
  rw [← hy] at hlo hhi
  unfold fieldRead
  rw [hread, length_fieldWrite, ← hy]
  unfold fieldMin at hlo
  unfold fieldMax at hhi
  cases signed
  · simp only [Bool.false_eq_true, if_false, Bool.false_and] at hlo hhi ⊢
    rw [Int.emod_eq_of_lt hlo (by omega), Int.toNat_of_nonneg hlo]
  · simp only [if_true, Bool.true_and, decide_eq_true_eq] at hlo hhi ⊢
    by_cases hneg : y < 0
    · have hmod : y % ((2 ^ (8 * w) : Nat) : Int) = y + ((2 ^ (8 * w) : Nat) : Int) := by
        rw [← Int.add_emod_right, Int.emod_eq_of_lt (by omega) (by omega)]
      rw [hmod, if_pos (by omega)]
      omega
    · rw [Int.emod_eq_of_lt (by omega) (by omega), if_neg (by omega)]
      omega

/-- The number read from a field, written back, is the field (R32). -/
theorem fieldWrite_fieldRead {signed : Bool} {bs : List Byte} {w : Nat} (hlength : bs.length = w) (hw : 1 ≤ w) :
    fieldWrite signed w (fieldRead signed bs) = bs := by
  have hhalf := two_mul_half hw
  have hlt := beNat_lt bs
  rw [hlength, pow_256] at hlt
  have hback : beBytes w (beNat bs) = bs := by
    have h := beBytes_beNat bs 0
    rw [Nat.zero_mul, Nat.zero_add, hlength] at h
    exact h
  suffices hnumber : (saturate (fieldMin signed w) (fieldMax signed w) (fieldRead signed bs) %
      ((2 ^ (8 * w) : Nat) : Int)).toNat = beNat bs by
    rw [fieldWrite, hnumber, hback]
  unfold saturate fieldRead fieldMin fieldMax
  rw [hlength]
  cases signed
  · simp only [Bool.false_eq_true, if_false, Bool.false_and]
    rw [Int.emod_eq_of_lt (by omega) (by omega)]
    omega
  · simp only [if_true, Bool.true_and, decide_eq_true_eq]
    by_cases hneg : 2 ^ (8 * w - 1) ≤ beNat bs
    · rw [if_pos hneg, max_eq_right (by omega), min_eq_left (by omega), ← Int.add_emod_right, Int.emod_eq_of_lt (by omega) (by omega)]
      omega
    · rw [if_neg hneg, Int.emod_eq_of_lt (by omega) (by omega)]
      omega

end Sys2Proof.Machine
end

section
/-! SUPPORT. The field actions (R33 to R36, R39), the application of an entry (R31) and the frame start on the return lane (R17, R18). -/

set_option Elab.async false

namespace Sys2Proof.Machine

open Sys2Proof.Safety

/-! ## Staging and writes into a payload (R10, R32) -/

theorem mapStaging_eq (lane : Lane) (f : Staging → Staging) (s : State) :
    mapStaging lane f s = staged lane (f (s.engine lane).staging) s := by
  cases lane <;> rfl

theorem length_write {a : FieldAction} {payload : List Byte} (hfits : a.displacement + a.width ≤ payload.length) (x : Int) :
    (a.write x payload).length = payload.length := by
  rw [FieldAction.write, List.length_append, List.length_append, length_fieldWrite, List.length_take, List.length_drop]
  omega

/-- What a write does to the payload, field and rest apart (R32). -/
theorem fieldReplaced_write {a : FieldAction} {payload : List Byte} (hwidth : 1 ≤ a.width)
    (hfits : a.displacement + a.width ≤ payload.length) (x : Int) : FieldReplaced a (toField a x) payload (a.write x payload) := by
  have htake : (payload.take a.displacement).length = a.displacement := by rw [List.length_take]; omega
  have hfield : fieldOf a (a.write x payload) = fieldWrite a.signed a.width x := by
    rw [fieldOf, FieldAction.write, List.append_assoc, List.drop_left' htake]
    exact List.take_left' (length_fieldWrite ..)
  refine ⟨length_write hfits x, ?_, ?_, ?_⟩
  · rw [FieldAction.write, List.append_assoc]
    exact List.take_left' htake
  · rw [FieldAction.write]
    exact List.drop_left' (by rw [List.length_append, htake, length_fieldWrite])
  · rw [fieldNumber_eq, hfield, fieldRead_fieldWrite hwidth, toField_eq]

/-- The number read, written back, leaves the payload (R32, R35). -/
theorem write_read {a : FieldAction} {payload : List Byte} (hwidth : 1 ≤ a.width)
    (hfits : a.displacement + a.width ≤ payload.length) : a.write (a.read payload) payload = payload := by
  have hlength : ((payload.drop a.displacement).take a.width).length = a.width := by
    rw [List.length_take, List.length_drop]
    omega
  rw [FieldAction.write, FieldAction.read, fieldWrite_fieldRead hlength hwidth, List.append_assoc, ← List.drop_drop,
    List.take_append_drop, List.take_append_drop]

theorem saturate_of_range {lo hi x : Int} (hlo : lo ≤ x) (hhi : x ≤ hi) : saturate lo hi x = x := by
  unfold saturate
  omega

theorem fieldMin_le_fieldMax (signed : Bool) (width : Nat) : fieldMin signed width ≤ 0 ∧ 0 ≤ fieldMax signed width := by
  have hpos : 1 ≤ 2 ^ (8 * width) := Nat.one_le_two_pow
  have hpos' : 1 ≤ 2 ^ (8 * width - 1) := Nat.one_le_two_pow
  unfold fieldMin fieldMax
  cases signed
  · simp only [Bool.false_eq_true, if_false]
    omega
  · simp only [if_true]
    omega

theorem toField_zero (a : FieldAction) : toField a 0 = 0 := by
  obtain ⟨hlo, hhi⟩ := fieldMin_le_fieldMax a.signed a.width
  rw [toField_eq]
  exact saturate_of_range hlo hhi

/-- The field takes the saturated number as it takes the number (R32). -/
theorem write_toField (a : FieldAction) (payload : List Byte) (x : Int) : a.write (toField a x) payload = a.write x payload := by
  obtain ⟨hlo, hhi⟩ := fieldMin_le_fieldMax a.signed a.width
  have hsame : saturate (fieldMin a.signed a.width) (fieldMax a.signed a.width) (toField a x) = toField a x := by
    rw [toField_eq]
    unfold saturate
    omega
  rw [FieldAction.write, FieldAction.write, fieldWrite, fieldWrite, hsame, ← toField_eq]

/-! ## An action's frame (R31) -/

/-- An action keeps the payload's length and touches the lane's staging set and the entry counters alone. -/
theorem applyAction_frame (lane : Lane) (entry tag : Nat) (payload : List Byte) (s : State) (a : FieldAction) :
    ∃ (p : List Byte) (st : Staging) (hits : List EntryHits), applyAction lane entry tag (payload, s) a =
      (p, { staged lane st s with entryHits := hits }) ∧ p.length = payload.length := by
  have hself : s = { staged lane (s.engine lane).staging s with entryHits := s.entryHits } := by cases lane <;> rfl
  have hstaged : ∀ (q : List Byte) (f : Staging → Staging), ∃ (p : List Byte) (st : Staging) (hits : List EntryHits),
      (q, mapStaging lane f s) = (p, { staged lane st s with entryHits := hits }) ∧ p.length = q.length := by
    intro q f
    refine ⟨q, f (s.engine lane).staging, s.entryHits, ?_, rfl⟩
    rw [mapStaging_eq]
    cases lane <;> rfl
  have hcounted : ∀ (q : List Byte) (f : EntryHits → EntryHits), ∃ (p : List Byte) (st : Staging) (hits : List EntryHits),
      (q, countHit entry f s) = (p, { staged lane st s with entryHits := hits }) ∧ p.length = q.length := by
    intro q f
    refine ⟨q, (s.engine lane).staging, s.entryHits.set entry (f (s.entryHits.getD entry .reset)), ?_, rfl⟩
    cases lane <;> rfl
  have hkept : ∀ q : List Byte, ∃ (p : List Byte) (st : Staging) (hits : List EntryHits),
      (q, s) = (p, { staged lane st s with entryHits := hits }) ∧ p.length = q.length :=
    fun q => ⟨q, (s.engine lane).staging, s.entryHits, congrArg (Prod.mk q) hself, rfl⟩
  unfold applyAction
  dsimp only
  cases hfits : a.fits payload
  · rw [if_pos rfl]
    refine ⟨payload, Staging.stageFault fcSlotShort tag (s.engine lane).staging,
      s.entryHits.set entry (EntryHits.shortHit (s.entryHits.getD entry .reset)), ?_, rfl⟩
    rw [mapStaging_eq]
    cases lane <;> rfl
  · rw [if_neg (by decide)]
    have hfits' : a.displacement + a.width ≤ payload.length := by simpa [FieldAction.fits] using hfits
    split
    · exact hstaged payload _
    · obtain ⟨p, st, hits, heq, hlength⟩ := hkept (insertAction a payload s)
      exact ⟨p, st, hits, heq, hlength.trans (length_write hfits' _)⟩
    · unfold clampAction
      dsimp only
      split
      · obtain ⟨p, st, hits, heq, hlength⟩ := hkept (a.write
          (saturate (fieldMin a.signed a.width) (fieldMax a.signed a.width) (s.clampResult a (a.read payload))) payload)
        exact ⟨p, st, hits, heq, hlength.trans (length_write hfits' _)⟩
      · obtain ⟨p, st, hits, heq, hlength⟩ := hcounted (a.write
          (saturate (fieldMin a.signed a.width) (fieldMax a.signed a.width) (s.clampResult a (a.read payload))) payload)
          EntryHits.clampHit
        exact ⟨p, st, hits, heq, hlength.trans (length_write hfits' _)⟩
    · unfold checkAction
      dsimp only
      split
      · exact hstaged payload _
      · exact hkept payload
    · exact hkept payload

theorem staged_staged (lane : Lane) (st st' : Staging) (hits : List EntryHits) (s : State) :
    staged lane st' { staged lane st s with entryHits := hits } = { staged lane st' s with entryHits := hits } := by
  cases lane <;> rfl

theorem applyEntry_frame (lane : Lane) (position : Nat) (x : SlotEntry) (payload : List Byte) (s : State) :
    ∃ (p : List Byte) (st : Staging) (hits : List EntryHits), applyEntry lane position x payload s =
      (p, { staged lane st s with entryHits := hits }) ∧ p.length = payload.length := by
  unfold applyEntry
  induction x.actions generalizing payload s with
  | nil => exact ⟨payload, (s.engine lane).staging, s.entryHits, by cases lane <;> rfl, rfl⟩
  | cons a l ih =>
    obtain ⟨p, st, hits, heq, hlength⟩ := applyAction_frame lane position x.tag payload s a
    obtain ⟨p', st', hits', heq', hlength'⟩ := ih p { staged lane st s with entryHits := hits }
    refine ⟨p', st', hits', ?_, hlength'.trans hlength⟩
    rw [List.foldl_cons, heq, heq', staged_staged]

/-! ## The record a return frame matches (R17) -/

theorem running_eq (s : State) : s.running = decide (s.opState ≠ .pass) := by
  unfold State.running
  cases s.opState <;> rfl

theorem matchRecord_eq_some {s : State} {kind : Byte} {count : Nat} {before : List FlightRecord} {r : FlightRecord}
    {after : List FlightRecord} (hflight : s.flight = before ++ r :: after) (hcycle : r.cycle = count)
    (horigin : r.origin = (if kind = kindIsland then .island else .master))
    (hbefore : ∀ x ∈ before, ¬ (x.cycle = count ∧ x.origin = (if kind = kindIsland then .island else .master))) :
    s.matchRecord kind count = some r := by
  rw [State.matchRecord, List.find?_eq_some_iff_append]
  refine ⟨?_, before, after, hflight, fun x hx => ?_⟩
  · rw [Bool.and_eq_true, beq_iff_eq, beq_iff_eq]
    exact ⟨hcycle, horigin⟩
  · rw [Bool.not_eq_true', ← Bool.not_eq_true, Bool.and_eq_true, beq_iff_eq, beq_iff_eq]
    exact hbefore x hx

theorem matchRecord_eq_none {s : State} {kind : Byte} {count : Nat}
    (h : ∀ x ∈ s.flight, ¬ (x.cycle = count ∧ x.origin = (if kind = kindIsland then .island else .master))) :
    s.matchRecord kind count = none := by
  rw [State.matchRecord, List.find?_eq_none]
  intro x hx
  rw [Bool.and_eq_true, beq_iff_eq, beq_iff_eq]
  exact h x hx

end Sys2Proof.Machine

namespace Sys2Proof.Safety

open Sys2Proof.Machine

/-- Settles O35: the oldest matching record, else the carrier, else RING_ORDER. -/
theorem returnFrameStartFindsItsRecord : Obligations.ReturnFrameStartFindsItsRecord := by
  intro s count e hdue hcount he
  have hexec : exec .returnFrameStart s = .next (returnFrameStart { s with due := [] }) :=
    congrArg Host.Outcome.next (takeDue_of_single hdue rfl)
  have hstart : returnFrameStart { s with due := [] } =
      match State.matchRecord { s with due := [] } s.retLane.kind count with
      | some r => { s with due := [], retLane := { e with generation := r.generation, binding := .record r.id } }
      | none =>
        match s.carrier with
        | some (c, response) =>
          if c = count then { s with due := [], retLane := { e with binding := .carrier response }, carrier := none }
          else raise fcOrder count { s with due := [], retLane := e }
        | none => raise fcOrder count { s with due := [], retLane := e } := by
    have hactive : State.running { s with due := [] } = decide (s.opState ≠ .pass) := running_eq _
    rw [he, ← hactive, hcount]
    rfl
  refine ⟨fun before r after hflight hcycle horigin hbefore => ?_, fun hno => ⟨fun response hcarrier => ?_, fun hcarrier => ?_⟩⟩
  · have hmatch : State.matchRecord { s with due := [] } s.retLane.kind count = some r :=
      matchRecord_eq_some hflight hcycle horigin hbefore
    rw [hexec, hstart, hmatch]
  · have hmatch : State.matchRecord { s with due := [] } s.retLane.kind count = none := matchRecord_eq_none hno
    rw [hexec, hstart, hmatch, hcarrier]
    simp only [if_true]
  · have hmatch : State.matchRecord { s with due := [] } s.retLane.kind count = none := matchRecord_eq_none hno
    rw [hexec, hstart, hmatch]
    cases hc : s.carrier with
    | none => rfl
    | some x =>
      obtain ⟨c, response⟩ := x
      have hne : c ≠ count := fun h => hcarrier response (by rw [hc, h])
      simp only [if_neg hne]

/-- Settles O36: `applyEntry_frame`; the actions in order by induction on the list; the bound map by its definition. -/
theorem slotEntryRewritesOnlyItsPayload : Obligations.SlotEntryRewritesOnlyItsPayload := by
  refine ⟨fun lane s u e hdue hu he => ?_, fun lane position x payload s after hzero hnext => ?_, fun s g => ?_⟩
  · have hexec : exec (.slotEntryApply lane) s = .next (slotApply lane u) := by
      rw [hu]
      exact congrArg Host.Outcome.next (takeDue_of_single hdue (by simp))
    have hlane : u.engine lane = e := by
      rw [hu, he]
      cases lane <;> rfl
    refine ⟨fun hentry => ?_, fun position keep payload held v hentry hkeep happly hheld => ?_⟩
    · rw [hexec, slotApply, hlane]
      simp only [hentry]
    · obtain ⟨p, st, hits, hframe, hlength⟩ := applyEntry_frame lane position (slotEntry (s.boundSmt e.generation) position)
        (e.held.drop keep) u
      rw [happly] at hframe
      obtain ⟨rfl, hv⟩ := Prod.mk.inj hframe
      have hsmt : u.boundSmt e.generation = s.boundSmt e.generation := by rw [hu]; rfl
      have hslot : slotApply lane u = forwardHeld lane
          (v.setEngine lane { v.engine lane with held := held, buffered := 0, entry := none }) := by
        rw [slotApply, hlane]
        simp only [hentry, ← hkeep, hsmt, happly, hheld]
      have hcut : held.length - max 2 0 = held.length - 2 := rfl
      refine ⟨hlength, fun hout => ?_, fun hret => ?_⟩
      · subst hout
        have hengine : u.outLane = e := hlane
        rw [hexec, hslot, hv]
        simp only [staged, State.setEngine, State.engine, forwardHeld, sendBytes, hengine, hcut]
        rw [hu]
      · subst hret
        have hengine : u.retLane = e := hlane
        rw [hexec, hslot, hv]
        simp only [staged, State.setEngine, State.engine, forwardHeld, sendBytes, hengine, hcut]
        have hkind : ∀ (y : List Byte) (z : Staging), ({ e with held := y, buffered := 0, entry := none, staging := z } : Engine).kind =
            e.kind := fun _ _ => rfl
        by_cases hisland : e.kind = kindIsland
        · rw [if_pos (by exact hisland), if_pos hisland, hu]
        · rw [if_neg (by exact hisland), if_neg hisland, hu]
  · have hall : ∀ (l : List FieldAction) (i : Nat), x.actions.drop i = l →
        l.foldl (applyAction lane position x.tag) (after i) = after (i + l.length) := by
      intro l
      induction l with
      | nil => intro i _; rfl
      | cons a l ih =>
        intro i hdrop
        have hget : x.actions[i]? = some a := by
          rw [← List.head?_drop, hdrop]
          rfl
        have htail : x.actions.drop (i + 1) = l := by
          rw [← List.tail_drop, hdrop]
          rfl
        rw [List.foldl_cons, ← hnext i a hget, ih (i + 1) htail, List.length_cons]
        congr 1
        omega
    have h := hall x.actions 0 rfl
    rw [hzero, Nat.zero_add] at h
    exact h
  · refine ⟨fun hcurrent => ?_, fun hbefore hnamed => ?_⟩
    · unfold State.boundSmt
      refine if_neg ?_
      rintro ⟨hne, hnamed⟩
      rcases hcurrent with h | h
      · exact hne h
      · cases hlast : s.banks.lastExchange with
        | none => rw [hlast] at hnamed; cases hnamed
        | some x =>
          simp only [hlast, h x hlast] at hnamed
          cases hnamed
    · obtain ⟨x, hlast, hbit⟩ := hnamed
      unfold State.boundSmt
      refine if_pos ⟨?_, ?_⟩
      · rw [← hbefore]
        bv_omega
      · simp only [hlast, hbit]

/-- Settles O37, action by action on a payload that holds its field, and the skip of one that does not. -/
theorem fieldActionsReadAndWriteTheirField : Obligations.FieldActionsReadAndWriteTheirField := by
  intro lane entry tag a payload s st n hwidth hst hn
  have hwidth' : 1 ≤ a.width := by omega
  have hread : a.read payload = n := by rw [hn, fieldNumber_eq]; rfl
  refine ⟨fun hshort => ?_, fun hfits => ?_⟩
  · have hfits : a.fits payload = false := by simpa [FieldAction.fits] using hshort
    rw [applyAction, if_pos hfits, mapStaging_eq, ← hst]
    cases lane <;> rfl
  · have hfits' : ¬ a.fits payload = false := by simpa [FieldAction.fits] using hfits
    refine ⟨fun hkind => ?_, fun hkind => ⟨_, ?_, fieldReplaced_write hwidth' hfits _⟩, fun hkind => ?_, fun hkind => ?_⟩
    · rw [applyAction, if_neg hfits', hkind]
      simp only [extractAction, hread, mapStaging_eq, ← hst]
      rfl
    · rw [applyAction, if_neg hfits', hkind]
      rfl
    · have hclamp : applyAction lane entry tag (payload, s) a = (a.write (s.clampResult a n) payload,
          if toField a (s.clampResult a n) = n then s else countHit entry EntryHits.clampHit s) := by
        rw [applyAction, if_neg hfits', hkind]
        simp only [clampAction, hread, ← toField_eq]
        rw [write_toField]
      refine ⟨_, _, toField a (s.clampResult a n), hclamp, fun hdead => ?_, fun hlow hhigh => ?_, fieldReplaced_write hwidth' hfits _,
        fun hsame => ⟨?_, if_pos hsame⟩, fun hne => if_neg hne⟩
      · have hzero : s.clampResult a n = 0 := by
          unfold State.clampResult
          rcases hdead with h | h <;> simp [h]
        rw [hzero, toField_zero]
      · have hbounds : s.clampResult a n = min (s.point a.pointB).value (max (s.point a.pointA).value n) := by
          simp [State.clampResult, hlow, hhigh]
        rw [hbounds]
      · have hback := write_read hwidth' hfits
        rw [hread] at hback
        rw [← write_toField, hsame, hback]
    · rw [applyAction, if_neg hfits', hkind]
      simp only [checkAction, hread, mapStaging_eq, ← hst]
      rfl

end Sys2Proof.Safety
end

section
/-! SUPPORT. The report contents and the service response (R19, R20, R166, R204, R214, R215). -/

set_option Elab.async false

namespace Sys2Proof.Machine

open Sys2Proof.Safety

/-! ## Bytes cut or filled to a slot (R204, R215) -/

theorem length_padTo (n : Nat) (l : List Byte) : (padTo n l).length = n := by
  rw [padTo, List.length_append, List.length_take, List.length_replicate]
  omega

theorem fittingBytes_le (sizes : List Nat) (room : Nat) : fittingBytes sizes room ≤ room ∧ fittingBytes sizes room ≤ sizes.sum := by
  induction sizes generalizing room with
  | nil => exact ⟨Nat.zero_le _, Nat.zero_le _⟩
  | cons w rest ih =>
    rw [fittingBytes, List.sum_cons]
    by_cases hroom : w ≤ room
    · obtain ⟨hle, hsum⟩ := ih (room - w)
      rw [if_pos hroom]
      omega
    · rw [if_neg hroom]
      omega

/-- What a report slot carries, where the contents fit and behind (R215). -/
theorem getElem?_reportPayload {contents : List Byte} {n : Nat} (hlength : contents.length = 41) (i : Nat) :
    (i < fittingBytes reportSizes n → (reportPayload contents n)[i]? = contents[i]?) ∧
    (fittingBytes reportSizes n ≤ i → i < n → (reportPayload contents n)[i]? = some 0) := by
  obtain ⟨hle, hsum⟩ := fittingBytes_le reportSizes n
  have hsum' : fittingBytes reportSizes n ≤ 41 := hsum
  have hcut : ((contents.take (fittingBytes reportSizes n)).take n) = contents.take (fittingBytes reportSizes n) := by
    rw [List.take_take, Nat.min_eq_right hle]
  have hshort : (contents.take (fittingBytes reportSizes n)).length = fittingBytes reportSizes n := by
    rw [List.length_take, hlength, Nat.min_eq_left hsum']
  refine ⟨fun hi => ?_, fun hi hn => ?_⟩
  · rw [reportPayload, padTo, hcut, List.getElem?_append_left (by rw [hshort]; exact hi), List.getElem?_take_of_lt hi]
  · rw [reportPayload, padTo, hcut, hshort, List.getElem?_append_right (by rw [hshort]; exact hi), hshort,
      List.getElem?_replicate, if_pos (by omega)]

/-! ## Fields side by side (R214) -/

/-- The fields of `l` with their offsets and lengths, the first at `start`. -/
def laidOut : Nat → List (List Byte) → List (Nat × Nat × List Byte)
  | _, [] => []
  | start, field :: rest => (start, field.length, field) :: laidOut (start + field.length) rest

theorem le_of_mem_laidOut {start : Nat} {l : List (List Byte)} {offset size : Nat} {field : List Byte}
    (h : (offset, size, field) ∈ laidOut start l) : start ≤ offset := by
  induction l generalizing start with
  | nil => cases h
  | cons first rest ih =>
    rcases List.mem_cons.1 h with heq | hrest
    · cases heq
      exact Nat.le_refl _
    · exact Nat.le_trans (Nat.le_add_right ..) (ih hrest)

/-- A field stands at its offset. -/
theorem take_drop_of_mem_laidOut {start : Nat} {l : List (List Byte)} {offset size : Nat} {field : List Byte}
    (h : (offset, size, field) ∈ laidOut start l) : (l.flatten.drop (offset - start)).take size = field := by
  induction l generalizing start with
  | nil => cases h
  | cons first rest ih =>
    rcases List.mem_cons.1 h with heq | hrest
    · cases heq
      rw [Nat.sub_self, List.drop_zero, List.flatten_cons]
      exact List.take_left' rfl
    · have hle := le_of_mem_laidOut hrest
      rw [List.flatten_cons, ← ih hrest, List.drop_append, List.drop_eq_nil_of_le (by omega), List.nil_append]
      congr 2
      omega

/-- The 25 fields of the report contents in order (R214). -/
def reportFields (s : State) (code : Option Nat) : List (List Byte) :=
  [[BitVec.ofNat 8 s.opState.code], [BitVec.ofNat 8 s.strap.code], wordBytes s.banks.generation,
    [BitVec.ofNat 8 s.banks.status.code], putU 1 (s.faults.filter (fun r => r.latch)).length, putU 1 s.summary.severity,
    [match code with | some k => BitVec.ofNat 8 k | none => 0xFF],
    match code with | some k => putU 1 (s.faultEntry k).severity | none => [0],
    match code with | some k => putS 4 (s.fault k).context | none => [0, 0, 0, 0],
    match code with | some k => longBytes (s.fault k).raiseTime | none => [0, 0, 0, 0],
    [BitVec.ofNat 8 (s.summary.derate % 8 + (if s.summary.yawHold then 8 else 0) +
      (if s.summary.pumpBoost then 16 else 0) + (if s.summary.trip then 32 else 0))],
    putU 2 s.envelope.limit, [BitVec.ofNat 8 s.envelope.rideThrough.code], putU 2 s.envelope.exposure,
    putU 2 s.tracker.heading, [BitVec.ofNat 8 s.tracker.quality.code], putS 4 s.tracker.twist,
    [if s.tracker.twistSet then 1 else 0], [BitVec.ofNat 8 s.decision.mode.code], putU 1 s.sequencer.step,
    putU 2 (s.point 40).value.toNat, putU 1 (s.point 41).value.toNat, putS 2 (s.point 44).value,
    putU 1 s.log.records.length, wordBytes (s.log.next - 1)]

theorem saturate_toNat (w : Nat) (x : Int) : saturate (fieldMin false w) (fieldMax false w) x.toNat =
    saturate (fieldMin false w) (fieldMax false w) x := by
  obtain ⟨hlo, hhi⟩ := fieldMin_le_fieldMax false w
  have hmin : fieldMin false w = 0 := rfl
  unfold saturate
  omega

theorem putU_toNat (w : Nat) (x : Int) : putU w x.toNat = fieldWrite false w x := by
  rw [putU, fieldWrite, fieldWrite, saturate_toNat]

theorem Summary.putU_byte (m : Summary) : putU 1 m.byte = [BitVec.ofNat 8 (m.derate % 8 + (if m.yawHold then 8 else 0) +
    (if m.pumpBoost then 16 else 0) + (if m.trip then 32 else 0))] := by
  have hbyte : m.byte = m.derate % 8 + (if m.yawHold then 8 else 0) + (if m.pumpBoost then 16 else 0) +
      (if m.trip then 32 else 0) := by
    unfold Summary.byte
    cases m.yawHold <;> cases m.pumpBoost <;> cases m.trip <;> rfl
  rw [hbyte]
  refine putU_one_of_lt ?_
  have hderate : m.derate % 8 < 8 := Nat.mod_lt _ (by decide)
  split <;> split <;> split <;> omega

theorem RideThrough.putU_code (r : RideThrough) : putU 1 r.code = [BitVec.ofNat 8 r.code] :=
  putU_one_of_lt (by cases r <;> decide)

theorem HeadingQuality.putU_code (q : HeadingQuality) : putU 1 q.code = [BitVec.ofNat 8 q.code] :=
  putU_one_of_lt (by cases q <;> decide)

theorem YawMode.putU_code (m : YawMode) : putU 1 m.code = [BitVec.ofNat 8 m.code] :=
  putU_one_of_lt (by cases m <;> decide)

theorem reportContents_eq {s : State} {code : Option Nat} (hcode : ∀ k, code = some k → k < 64) :
    s.reportContents code = (reportFields s code).flatten := by
  have hspot : s.spotlightFields code = [match code with | some k => BitVec.ofNat 8 k | none => 0xFF] ++
      ((match code with | some k => putU 1 (s.faultEntry k).severity | none => [0]) ++
      ((match code with | some k => putS 4 (s.fault k).context | none => [0, 0, 0, 0]) ++
      (match code with | some k => longBytes (s.fault k).raiseTime | none => [0, 0, 0, 0]))) := by
    cases code with
    | none => rfl
    | some k =>
      have hk := hcode k rfl
      rw [State.spotlightFields, putU_one_of_lt (by omega), putU_four_toNat]
      simp only [List.append_assoc]
  have hflag : (if s.tracker.twistSet then (1 : Byte) else 0) = BitVec.ofNat 8 (if s.tracker.twistSet then 1 else 0) := by
    cases s.tracker.twistSet <;> rfl
  unfold State.reportContents reportFields
  rw [hspot, OpState.putU_code, StrapMode.putU_code, putU_two_toNat, BankStatus.putU_code,
    Summary.putU_byte, RideThrough.putU_code, HeadingQuality.putU_code, YawMode.putU_code, putU_flagCode, putU_two_toNat,
    ← putU_toNat, ← putU_toNat, State.pointValue, State.pointValue, State.pointValue, State.latchedCount, hflag]
  simp only [List.flatten_cons, List.flatten_nil, List.append_assoc, List.append_nil]

theorem length_spotlightFields (s : State) (code : Option Nat) : (s.spotlightFields code).length = 10 := by
  cases code with
  | none => rfl
  | some k =>
    rw [State.spotlightFields, List.length_append, List.length_append, List.length_append, putU, putU, putS, putU,
      length_fieldWrite, length_fieldWrite, length_fieldWrite, length_fieldWrite]

theorem length_reportContents (s : State) (code : Option Nat) : (s.reportContents code).length = 41 := by
  unfold State.reportContents
  simp only [List.length_append, length_spotlightFields]
  simp only [putU, putS, length_fieldWrite]

/-! ## The spotlight chosen (R166) -/

/-- Code `k` comes before `j`: higher severity, or the same and the lower number (R166). -/
def Outshines (fat : List Word) (k j : Nat) : Prop :=
  (faultEntry fat j).severity < (faultEntry fat k).severity ∨
    ((faultEntry fat j).severity = (faultEntry fat k).severity ∧ k < j)

theorem foldl_betterSpotlight (fat : List Word) (l : List Nat) (best : Nat) (hbest : ∀ j ∈ l, best < j) (hl : l.Pairwise (· < ·)) :
    ∃ k, l.foldl (betterSpotlight fat) (some best) = some k ∧ k ∈ best :: l ∧
      ∀ j ∈ best :: l, j ≠ k → Outshines fat k j := by
  induction l generalizing best with
  | nil => exact ⟨best, rfl, List.mem_singleton_self _, fun j hj hne => absurd (List.mem_singleton.1 hj) hne⟩
  | cons x l ih =>
    obtain ⟨hfirst, hrest⟩ := List.pairwise_cons.1 hl
    have hx := hbest x (List.mem_cons_self ..)
    rw [List.foldl_cons, betterSpotlight]
    by_cases hsev : (faultEntry fat best).severity < (faultEntry fat x).severity
    · rw [if_pos hsev]
      obtain ⟨k, heq, hmem, hout⟩ := ih x hfirst hrest
      refine ⟨k, heq, List.mem_cons_of_mem _ hmem, fun j hj hne => ?_⟩
      rcases List.mem_cons.1 hj with rfl | hj
      · by_cases hk : x = k
        · exact Or.inl (hk ▸ hsev)
        · rcases hout x (List.mem_cons_self ..) hk with h | ⟨h, hlt⟩
          · exact Or.inl (Nat.lt_trans hsev h)
          · exact Or.inl (h ▸ hsev)
      · exact hout j hj hne
    · rw [if_neg hsev]
      obtain ⟨k, heq, hmem, hout⟩ := ih best (fun j hj => hbest j (List.mem_cons_of_mem _ hj)) hrest
      have hmem' : k ∈ best :: x :: l := by
        rcases List.mem_cons.1 hmem with h | h
        · exact h ▸ List.mem_cons_self ..
        · exact List.mem_cons_of_mem _ (List.mem_cons_of_mem _ h)
      refine ⟨k, heq, hmem', fun j hj hne => ?_⟩
      rcases List.mem_cons.1 hj with rfl | hj
      · exact hout _ (List.mem_cons_self ..) hne
      · rcases List.mem_cons.1 hj with rfl | hj
        · by_cases hk : best = k
          · subst hk
            unfold Outshines
            omega
          · have hle := hout best (List.mem_cons_self ..) hk
            unfold Outshines at hle ⊢
            rcases List.mem_cons.1 hmem with h | h
            · exact absurd h.symm hk
            · have := hfirst k h
              omega
        · exact hout j (List.mem_cons_of_mem _ hj) hne

theorem pairwise_pending (s : State) : ((List.range 64).filter (fun k => (s.fault k).pending)).Pairwise (· < ·) :=
  List.Pairwise.filter _ List.pairwise_lt_range

theorem mem_pending {s : State} {k : Nat} :
    k ∈ (List.range 64).filter (fun k => (s.fault k).pending) ↔ k < 64 ∧ (s.fault k).pending = true := by
  rw [List.mem_filter, List.mem_range]

/-- Either no code is pending, or the one chosen outshines every other (R166). -/
theorem chooseSpotlight_cases (s : State) :
    (s.chooseSpotlight = none ∧ ∀ k, k < 64 → (s.fault k).pending = false) ∨
    (∃ k, s.chooseSpotlight = some k ∧ k < 64 ∧ (s.fault k).pending = true ∧
      ∀ j, j < 64 → (s.fault j).pending = true → j ≠ k → Outshines s.fat k j) := by
  rw [State.chooseSpotlight]
  have hsorted := pairwise_pending s
  have hmem := fun k => mem_pending (s := s) (k := k)
  generalize (List.range 64).filter (fun k => (s.fault k).pending) = l at hsorted hmem
  cases l with
  | nil =>
    refine Or.inl ⟨rfl, fun k hk => Bool.eq_false_iff.2 fun hp => ?_⟩
    exact List.not_mem_nil ((hmem k).2 ⟨hk, hp⟩)
  | cons x l =>
    obtain ⟨hfirst, hrest⟩ := List.pairwise_cons.1 hsorted
    obtain ⟨k, heq, hk, hout⟩ := foldl_betterSpotlight s.fat l x hfirst hrest
    obtain ⟨hlt, hpending⟩ := (hmem k).1 hk
    exact Or.inr ⟨k, heq, hlt, hpending, fun j hj hp hne => hout j ((hmem j).2 ⟨hj, hp⟩) hne⟩

/-! ## The service response (R19, R204) -/

theorem slotResponse_of_bound {r : FlightRecord} {s : State} (h : IsBoundRecord r s) : s.slotResponse = r.slotResponse := by
  rcases h with hremoved | ⟨before, after, hflight, hrecord, hbefore⟩
  · rw [State.slotResponse, hremoved]
  · have hfind : s.flight.find? (fun x => x.id == r.id) = some r := by
      rw [List.find?_eq_some_iff_append]
      refine ⟨by rw [beq_self_eq_true], before, after, hflight, fun x hx => ?_⟩
      rw [Bool.not_eq_true', beq_eq_false_iff_ne]
      exact hbefore x hx
    rw [State.slotResponse, hrecord]
    simp only [hfind]

end Sys2Proof.Machine

namespace Sys2Proof.Safety

open Sys2Proof.Machine

theorem reportContentsTaken_overlays {s : State} (hdue : s.due = [.reportTaken]) (hreport : s.retLane.report = none) :
    ∃ t, exec .reportContentsTaken s = .next t ∧
      t.spotlight = (if 8 ≤ s.retLane.slotLength then
        s.chooseSpotlight.map (fun k => { code := k, raisedAgain := false }) else s.spotlight) ∧
      t.retLane = { s.retLane with
        report := some (s.reportContents (if 8 ≤ s.retLane.slotLength then s.chooseSpotlight else none))
        overlay := reportPayload (s.reportContents (if 8 ≤ s.retLane.slotLength then s.chooseSpotlight else none))
          s.retLane.slotLength } ∧
      t = { s with due := [], spotlight := t.spotlight, retLane := t.retLane } := by
  have hexec : exec .reportContentsTaken s = .next (takeReport { s with due := [] }) :=
    congrArg Host.Outcome.next (takeDue_of_single hdue rfl)
  refine ⟨_, hexec, ?_⟩
  rw [takeReport]
  simp only [hreport]
  by_cases hroom : 8 ≤ s.retLane.slotLength
  · simp only [if_pos hroom]
    exact ⟨rfl, rfl, rfl⟩
  · simp only [if_neg hroom]
    exact ⟨rfl, rfl, rfl⟩

theorem chooseSpotlight_eq_some_iff (s : State) (k : Nat) : s.chooseSpotlight = some k ↔ k < 64 ∧ (s.fault k).pending = true ∧
    ∀ j, j < 64 → (s.fault j).pending = true → j ≠ k → Outshines s.fat k j := by
  rcases chooseSpotlight_cases s with ⟨hnone, hno⟩ | ⟨k', hsome, hlt, hpending, hout⟩
  · rw [hnone]
    refine ⟨fun h => (by cases h), fun ⟨hlt, hpending, _⟩ => ?_⟩
    rw [hno k hlt] at hpending
    exact Bool.noConfusion hpending
  · rw [hsome]
    refine ⟨fun h => Option.some.inj h ▸ ⟨hlt, hpending, hout⟩, fun ⟨hlt', hpending', hout'⟩ => ?_⟩
    by_cases hsame : k' = k
    · rw [hsame]
    · have h₁ := hout k hlt' hpending' (Ne.symm hsame)
      have h₂ := hout' k' hlt hpending hsame
      unfold Outshines at h₁ h₂
      omega

/-- Settles O38: the contents over the slot, the response found by its binding, the choice by severity and number, and the
fields side by side. -/
theorem reportAndResponseAreWrittenOver : Obligations.ReportAndResponseAreWrittenOver := by
  refine ⟨fun s => ⟨fun hdue hreport => ?_, fun hdue answer hanswer => ?_, fun hdue r hbound hgood hnone => ?_⟩,
    fun s => ⟨?_, fun k => chooseSpotlight_eq_some_iff s k⟩, fun s code offset size field hmem hcode => ?_⟩
  · obtain ⟨t, hexec, hspot, hlane, hrest⟩ := reportContentsTaken_overlays hdue hreport
    have hcontents := getElem?_reportPayload (n := s.retLane.slotLength)
      (length_reportContents s (if 8 ≤ s.retLane.slotLength then s.chooseSpotlight else none))
    have hoverlay := congrArg Engine.overlay hlane
    refine ⟨t, hexec, hspot, ?_, ?_, fun i hi => ?_, fun i hi hn => ?_, hrest⟩
    · rw [hlane]
    · rw [hoverlay]
      exact length_padTo _ _
    · rw [hoverlay]
      exact (hcontents i).1 hi
    · rw [hoverlay]
      exact (hcontents i).2 hi hn
  · have hexec : exec .serviceResponseWrite s = .next (writeService { s with due := [] }) :=
      congrArg Host.Outcome.next (takeDue_of_single hdue rfl)
    have hresponse : State.slotResponse { s with due := [] } = some answer := by
      rcases hanswer with ⟨hunbound, rfl⟩ | hcarrier | ⟨r, hbound, hr⟩
      · rw [State.slotResponse]
        simp only [hunbound]
        rfl
      · rw [State.slotResponse]
        simp only [hcarrier]
      · rw [slotResponse_of_bound (s := { s with due := [] }) hbound, FlightRecord.slotResponse]
        rcases hr with ⟨hgood, hr⟩ | ⟨hbad, rfl⟩
        · simp only [hgood, hr]
        · simp only [hbad]
          rfl
    rw [hexec, writeService, hresponse]
    rfl
  · have hexec : exec .serviceResponseWrite s = .next (writeService { s with due := [] }) :=
      congrArg Host.Outcome.next (takeDue_of_single hdue rfl)
    have hresponse : State.slotResponse { s with due := [] } = none := by
      rw [slotResponse_of_bound (s := { s with due := [] }) hbound, FlightRecord.slotResponse]
      simp only [hgood, hnone]
    rw [hexec, writeService, hresponse]
  · rcases chooseSpotlight_cases s with ⟨hnone, hno⟩ | ⟨k, hsome, hlt, hpending, -⟩
    · exact ⟨fun _ => hno, fun _ => hnone⟩
    · rw [hsome]
      refine ⟨fun h => (by cases h), fun h => ?_⟩
      rw [h k hlt] at hpending
      exact Bool.noConfusion hpending
  · refine ⟨?_, length_reportContents s code⟩
    rw [reportContents_eq hcode]
    refine take_drop_of_mem_laidOut (start := 0) ?_
    cases code <;>
      simpa only [laidOut, reportFields, wordBytes, longBytes, putU, putS, length_fieldWrite, length_beBytes, List.length_cons,
        List.length_nil, Nat.zero_add, Nat.reduceAdd] using hmem

end Sys2Proof.Safety
end

section
/-! SUPPORT. The frame start on the out lane (R15, R16, R42) and what the swap before it leaves alone (R196). -/

set_option Elab.async false

namespace Sys2Proof.Machine

open Sys2Proof.Safety

/-! ## What the swap of the copies, raises and ends all leave (R196) -/

/-- The state but for what a swap's owners and the fault manager may write: the banks and the lanes stand. -/
def outsideOwners (s : State) : State :=
  { s with
    faults := [], log := { records := [], next := 0 }, spotlight := none, summary := .reset, points := [], envelope := .reset
    sequencer := .reset, decision := .reset, entryHits := [], arbiter := .reset, thermal := .reset
    tracker := .reset false false false }

theorem outsideOwners_outsideMoves (s : State) : outsideOwners (outsideMoves s) = outsideOwners s := rfl

theorem outsideOwners_of_moves {s t : State} (h : outsideMoves t = outsideMoves s) : outsideOwners t = outsideOwners s := by
  rw [← outsideOwners_outsideMoves t, h, outsideOwners_outsideMoves]

/-- From `s` to `t` neither banks nor lanes, neither inputs nor free points have changed, nor the context that MASTER_RESTART
was raised with. -/
structure OwnersOnly (s t : State) : Prop where
  rest : outsideOwners t = outsideOwners s
  length : t.points.length = s.points.length
  point : ∀ n, n < 32 ∨ 63 < n → t.point n = s.point n
  faults : t.faults.length = s.faults.length
  restart : (t.fault fcMasterRestart).context = (s.fault fcMasterRestart).context

namespace OwnersOnly

theorem refl (s : State) : OwnersOnly s s := ⟨rfl, rfl, fun _ _ => rfl, rfl, rfl⟩

theorem trans {s t u : State} (h : OwnersOnly s t) (k : OwnersOnly t u) : OwnersOnly s u :=
  ⟨k.rest.trans h.rest, k.length.trans h.length, fun n hn => (k.point n hn).trans (h.point n hn), k.faults.trans h.faults,
    k.restart.trans h.restart⟩

theorem of_faults {s t : State} (h : outsideMoves t = outsideMoves s) (hp : KeepsPoints s t)
    (hlength : t.faults.length = s.faults.length)
    (hrestart : (t.fault fcMasterRestart).context = (s.fault fcMasterRestart).context) : OwnersOnly s t := by
  refine ⟨outsideOwners_of_moves h, hp.1, fun n hn => hp.2 n fun hmem => ?_, hlength, hrestart⟩
  have hrange : ∀ m ∈ raiseOutputs, 32 ≤ m ∧ m ≤ 63 := by decide
  have := hrange n hmem
  omega

theorem of_rest {s t : State} (h : outsideOwners t = outsideOwners s) (hp : t.points = s.points) (hf : t.faults = s.faults) :
    OwnersOnly s t :=
  ⟨h, congrArg List.length hp, fun n _ => congrArg (·.getD n .reset) hp, congrArg List.length hf,
    congrArg (fun l => (l.getD fcMasterRestart .reset).context) hf⟩

theorem output (n : Nat) (hn : 32 ≤ n ∧ n ≤ 63) (v : Int) (s : State) : OwnersOnly s (outputWrite n v s) :=
  ⟨rfl, by simp, fun m hm => point_outputWrite_ne (by omega) v s, rfl, rfl⟩

/-- The size of the fault records is a law of its own. -/
theorem plain_faults_length (n : Nat) : Plain False (fun t => t.faults.length = n) where
  quiet hu hv _ := (congrArg List.length (eq_of_view hv State.faults)).trans hu
  points _ _ _ hu := hu
  managed hm _ hu := hm.faults_length.trans hu

theorem raise {k : Nat} (hk : k ≠ fcMasterRestart) (c : Int) (s : State) : OwnersOnly s (raise k c s) :=
  of_faults (outsideMoves_raise k c s) (.raise k c s) (keeps_raise (plain_faults_length _).keeps rfl k c)
    (congrArg FaultRecord.context (fault_raise_ne hk.symm (by decide) (by decide) c s))

theorem judge {k : Nat} (hk : k ≠ fcMasterRestart) (present : Bool) (c : Int) (s : State) : OwnersOnly s (judge k present c s) :=
  of_faults (outsideMoves_judge k present c s) (.judge k present c s) (faults_length_judge k present c s)
    (congrArg FaultRecord.context (fault_judge_ne hk.symm (by decide) (by decide) present c s))

theorem judgeTwistLimit (s : State) : OwnersOnly s (judgeTwistLimit s) := by
  refine of_faults (outsideMoves_judgeTwistLimit s) (.judgeTwistLimit s)
    (keeps_judgeTwistLimit (plain_faults_length _).keeps rfl) (congrArg FaultRecord.context ?_)
  have hjudged := fault_judge_ne (j := fcMasterRestart) (k := fcTwistLimit) (by decide) (by decide) (by decide) s.twistLimit
    s.tracker.twist s
  unfold Machine.judgeTwistLimit
  dsimp only
  split
  · exact (fault_abortMove (by decide) (by decide) _).trans hjudged
  · exact hjudged

theorem judgeTwist (s : State) : OwnersOnly s (judgeTwist s) := (judge (by decide) _ _ s).trans (judgeTwistLimit _)

theorem fatSwapLatch (s : State) (k : Nat) : ((fatSwapLatch s k).fault fcMasterRestart).context = (s.fault fcMasterRestart).context := by
  unfold Machine.fatSwapLatch
  dsimp only
  split
  · rw [fault_logIf_ne (by decide)]
    by_cases hk : k = fcMasterRestart
    · by_cases hlength : k < s.faults.length
      · rw [← hk, fault_setFault_same hlength]
      · rw [← hk, State.fault, State.fault, State.setFault, List.set_eq_of_length_le (by omega)]
    · rw [fault_setFault_ne hk]
  · rfl

theorem fcWatch_ne (j : Nat) : fcMasterRestart ≠ fcWatch j := by
  simp only [fcWatch, fcMasterRestart]
  omega

theorem fatSwapWatch (s : State) (j : Nat) : (fatSwapWatch s j).fault fcMasterRestart = s.fault fcMasterRestart := by
  unfold Machine.fatSwapWatch
  split
  · exact fault_endRecord_ne (fcWatch_ne j) (by decide) s
  · rfl

theorem fatSwap (s : State) : OwnersOnly s (fatSwap s) := by
  have hmanaged : Managed s ((List.range 16).foldl Machine.fatSwapWatch ((List.range 64).foldl Machine.fatSwapLatch s)) :=
    Managed.foldl (fun j hv => hv.watched j) (List.range 16) (Managed.foldl (fun k hv => hv.latched k) (List.range 64) Managed.refl)
  have hlatches : ∀ (l : List Nat) (u : State),
      ((l.foldl Machine.fatSwapLatch u).fault fcMasterRestart).context = (u.fault fcMasterRestart).context := by
    intro l
    induction l with
    | nil => exact fun _ => rfl
    | cons k l ih => exact fun u => (ih _).trans (fatSwapLatch u k)
  have hwatches : ∀ (l : List Nat) (u : State), (l.foldl Machine.fatSwapWatch u).fault fcMasterRestart = u.fault fcMasterRestart := by
    intro l
    induction l with
    | nil => exact fun _ => rfl
    | cons k l ih => exact fun u => (ih _).trans (fatSwapWatch u k)
  refine of_faults ?_ ?_ (reforms_fatSwap (plain_faults_length _).reforms rfl) ?_
  · rw [Machine.fatSwap]
    exact (outsideMoves_handHold ..).trans
      (outsideMoves_of_actions ((outsideActions_recompute _).trans (outsideActions_of_faults hmanaged.outside)))
  · exact ((KeepsPoints.of_outsideFaults hmanaged.outside).trans (.recompute _)).trans (.handHold ..)
  · have hlength := congrArg (fun l => (l.getD fcMasterRestart FaultRecord.reset).context)
      (faults_recompute ((List.range 16).foldl Machine.fatSwapWatch ((List.range 64).foldl Machine.fatSwapLatch s)))
    rw [Machine.fatSwap, fault_handHold (by decide) (by decide)]
    exact hlength.trans ((congrArg FaultRecord.context (hwatches _ _)).trans (hlatches _ s))

theorem writeHeading (s : State) : OwnersOnly s (writeHeading s) :=
  ((output 42 (by decide) _ s).trans (output 43 (by decide) _ _)).trans (output 63 (by decide) _ _)

theorem trackerYcfSwap (oldPpr : Nat) (s : State) : OwnersOnly s (trackerYcfSwap oldPpr s) := by
  unfold Machine.trackerYcfSwap
  dsimp only
  have htracker : ∀ v : Tracker, OwnersOnly s { s with tracker := v } := fun v => of_rest rfl rfl rfl
  refine OwnersOnly.trans ?_ (judge (by decide) _ _ _)
  split
  · exact htracker _
  · exact (htracker _).trans (writeHeading _)

theorem pumpWrite (interval : Nat) (v : Int) (s : State) : OwnersOnly s (pumpWrite interval v s) := by
  have hthermal : ∀ (h : Thermal) (u : State), OwnersOnly u { u with thermal := h } := fun h u => of_rest rfl rfl rfl
  exact (output 40 (by decide) v s).trans (hthermal _ _)

theorem lowerPump (s : State) : OwnersOnly s (lowerPump s) := by
  unfold Machine.lowerPump
  split
  · exact pumpWrite _ _ s
  · exact refl s

theorem pltSwap (s : State) : OwnersOnly s (arbiterPltSwap s) := by
  have harbiter : ∀ a : Arbiter, OwnersOnly s { s with arbiter := a } := fun a => of_rest rfl rfl rfl
  exact (harbiter _).trans (lowerPump _)

/-- The swap at the owners leaves the lanes and the copies that the swap at the banks has made (R196). -/
theorem swapExchange (mask : Word) (s : State) : OwnersOnly (swapBanks mask s) (swapExchange mask s) := by
  have hif : ∀ (b : Bool) (f : State → State) (u : State), (∀ v, OwnersOnly v (f v)) → OwnersOnly u (if b then f u else u) := by
    intro b f u hf
    cases b
    · exact refl u
    · exact hf u
  exact (((hif _ resetHits _ fun _ => of_rest rfl rfl rfl).trans (hif _ arbiterPltSwap _ pltSwap)).trans
    (hif _ (fun u => Machine.judgeTwist (Machine.trackerYcfSwap s.ppr u)) _
      fun u => (trackerYcfSwap s.ppr u).trans (judgeTwist _))).trans (hif _ Machine.fatSwap _ fatSwap)

/-- What `OwnersOnly` keeps field by field. -/
theorem kept {s t : State} {α : Type} (h : OwnersOnly s t) (f : State → α)
    (hf : ∀ u, f (outsideOwners u) = f u := by exact fun _ => rfl) : f t = f s := eq_of_view h.rest f hf

end OwnersOnly

/-! ## The steps of the frame start (R15, R16) -/

theorem getD_mapIdx {f : Nat → Point → Point} {ps : List Point} {n : Nat} (hn : n < ps.length) :
    (ps.mapIdx f).getD n .reset = f n (ps.getD n .reset) := by
  rw [List.getD_eq_getElem?_getD, List.getD_eq_getElem?_getD, List.getElem?_mapIdx, List.getElem?_eq_getElem hn]
  rfl

/-- Lanes, list and banks written alike on both sides. -/
theorem OwnersOnly.lanes {s t : State} (h : OwnersOnly s t) (prev : Option Nat) (e : Engine) (out : Engine) (l : List FlightRecord)
    (next : Nat) (b : Banks) :
    OwnersOnly { s with prevCycle := prev, retLane := e, outLane := out, flight := l, nextFlight := next, banks := b }
      { t with prevCycle := prev, retLane := e, outLane := out, flight := l, nextFlight := next, banks := b } :=
  ⟨congrArg (fun v : State => { v with prevCycle := prev, retLane := e, outLane := out, flight := l, nextFlight := next, banks := b })
    h.rest, h.length, h.point, h.faults, h.restart⟩

theorem OwnersOnly.mapped {s t : State} (h : OwnersOnly s t) (f : Nat → Point → Point) :
    OwnersOnly { s with points := s.points.mapIdx f } { t with points := t.points.mapIdx f } := by
  refine ⟨h.rest, by simp [h.length], fun n hn => ?_, h.faults, h.restart⟩
  have hpoint : t.points.getD n .reset = s.points.getD n .reset := h.point n hn
  by_cases hlt : n < s.points.length
  · exact (getD_mapIdx (by rw [h.length]; exact hlt)).trans ((congrArg (f n) hpoint).trans (getD_mapIdx hlt).symm)
  · have hlt' : ¬ n < t.points.length := by rwa [h.length]
    have houts : ∀ ps : List Point, ¬ n < ps.length → (ps.mapIdx f).getD n .reset = .reset := by
      intro ps hps
      rw [List.getD_eq_getElem?_getD, List.getElem?_eq_none (by simpa using hps)]
      rfl
    exact (houts _ hlt').trans (houts _ hlt).symm

theorem swapIfScheduled_owners (s : State) : ∃ b : Banks, OwnersOnly { s with banks := b } (swapIfScheduled s) ∧
    b.generation = (match s.banks.status with | .scheduled _ => s.banks.generation + 1 | _ => s.banks.generation) := by
  unfold swapIfScheduled
  cases hstatus : s.banks.status with
  | idle => exact ⟨s.banks, .refl s, rfl⟩
  | draining => exact ⟨s.banks, .refl s, rfl⟩
  | scheduled mask => exact ⟨(swapBanks mask s).banks, .swapExchange mask s, rfl⟩

theorem agePoints_owners (advance : Nat) (s : State) : OwnersOnly
    { s with points := s.points.mapIdx (fun n p => agePoint advance (stalenessLimit s.smt n) p) } (agePoints advance s) := by
  unfold agePoints evaluateStale
  split
  · exact .judge (by decide) _ _ _
  · exact .judge (by decide) _ _ _

/-- The list and the return engine behind a record pushed out (R16, R17). -/
def pushedFlight (s : State) : List FlightRecord := if 4 ≤ s.flight.length then s.flight.drop 1 else s.flight

def pushedRet (s : State) : Engine := if 4 ≤ s.flight.length then s.retLane.keeping (s.flight.take 1) else s.retLane

/-- Either no record is pushed out, or the oldest is, with RING_LATENCY (R16). -/
theorem pushOut_cases (s : State) : (¬ 4 ≤ s.flight.length ∧ pushOut s = s) ∨
    (4 ≤ s.flight.length ∧ ∃ b : Banks, b.generation = s.banks.generation ∧ b.active = s.banks.active ∧
      (s.banks.status = .idle → b = s.banks) ∧
      pushOut s = raise fcLatency ((s.flight.head?.map (·.cycle)).getD 0 : Nat)
        { s with flight := pushedFlight s, retLane := pushedRet s, banks := b }) := by
  unfold pushOut pushedFlight pushedRet
  cases hflight : s.flight with
  | nil => exact .inl ⟨by decide, rfl⟩
  | cons r rest =>
    by_cases hfull : 4 ≤ (r :: rest).length
    · simp only [if_pos hfull]
      refine .inr ⟨hfull, (bankDrain { s with flight := rest, retLane := s.retLane.keeping [r] }).banks, ?_, ?_, ?_, ?_⟩
      · unfold bankDrain
        split <;> rfl
      · unfold bankDrain
        split <;> rfl
      · intro hidle
        unfold bankDrain
        rw [if_neg (fun h => by rw [hidle] at h; exact absurd h.1 (by decide))]
      · congr 1
        unfold bankDrain
        split <;> rfl
    · exact .inl ⟨hfull, if_neg hfull⟩

theorem pushOut_owners (s : State) : ∃ b : Banks, b.generation = s.banks.generation ∧ b.active = s.banks.active ∧
    OwnersOnly { s with flight := pushedFlight s, retLane := pushedRet s, banks := b } (pushOut s) := by
  rcases pushOut_cases s with ⟨hroom, hpush⟩ | ⟨hfull, b, hgeneration, hactive, -, hpush⟩
  · refine ⟨s.banks, rfl, rfl, ?_⟩
    rw [hpush, pushedFlight, pushedRet, if_neg hroom, if_neg hroom]
    exact .refl s
  · refine ⟨b, hgeneration, hactive, ?_⟩
    rw [hpush]
    exact .raise (by decide) _ _

end Sys2Proof.Machine
end

section
/-! SUPPORT. OUT_FRAME_START settled (R15, R16, R42). -/

set_option Elab.async false

namespace Sys2Proof.Machine

open Sys2Proof.Safety

/-- The record and the engine of a frame bound as it starts (R16). -/
theorem bindOut_owners {s u : State} (h : OwnersOnly u s) : ∃ b : Banks, b.generation = u.banks.generation ∧ b.active = u.banks.active ∧
    OwnersOnly { u with
      retLane := pushedRet u
      flight := pushedFlight u ++ [boundRecord u]
      nextFlight := u.nextFlight + 1
      outLane := { u.outLane with generation := u.banks.generation, record := some u.nextFlight }
      banks := b } (bindOut s) := by
  obtain ⟨b, hgeneration, hactive, hpush⟩ := pushOut_owners s
  have hbanks := h.kept State.banks
  have hlanes := (h.lanes u.prevCycle (pushedRet u) u.outLane (pushedFlight u) u.nextFlight b)
  have hprev := h.kept State.prevCycle
  have hflight := h.kept State.flight
  have hret := h.kept State.retLane
  have hout := h.kept State.outLane
  have hnext := h.kept State.nextFlight
  have hsame : ({ s with
      prevCycle := u.prevCycle, retLane := pushedRet u, outLane := u.outLane, flight := pushedFlight u, nextFlight := u.nextFlight,
      banks := b } : State) = { s with flight := pushedFlight s, retLane := pushedRet s, banks := b } := by
    rw [pushedFlight, pushedFlight, pushedRet, pushedRet, hflight, hret, ← hprev, ← hout, ← hnext]
  have hpushed : OwnersOnly { u with flight := pushedFlight u, retLane := pushedRet u, banks := b } (pushOut s) :=
    (hsame ▸ hlanes).trans hpush
  have hbound := hpushed.lanes u.prevCycle (pushedRet u) { u.outLane with generation := b.generation, record := some u.nextFlight }
    (pushedFlight u ++ [boundRecord u]) (u.nextFlight + 1) b
  refine ⟨b, hgeneration.trans (congrArg Banks.generation hbanks), hactive.trans (congrArg Banks.active hbanks), ?_⟩
  have hgen : b.generation = u.banks.generation := hgeneration.trans (congrArg Banks.generation hbanks)
  rw [hgen] at hbound
  have hfinal : bindOut s = { pushOut s with
      prevCycle := u.prevCycle, retLane := pushedRet u
      outLane := { u.outLane with generation := u.banks.generation, record := some u.nextFlight }
      flight := pushedFlight u ++ [boundRecord u]
      nextFlight := u.nextFlight + 1, banks := b } := by
    have e1 : (pushOut s).prevCycle = u.prevCycle := hpushed.kept State.prevCycle
    have e2 : (pushOut s).retLane = pushedRet u := hpushed.kept State.retLane
    have e3 : (pushOut s).outLane = u.outLane := hpushed.kept State.outLane
    have e4 : (pushOut s).flight = pushedFlight u := hpushed.kept State.flight
    have e5 : (pushOut s).nextFlight = u.nextFlight := hpushed.kept State.nextFlight
    have e6 : (pushOut s).banks = b := hpushed.kept State.banks
    have hrecord : boundRecord u = boundRecord (pushOut s) := by
      unfold boundRecord
      rw [← hgen, e3, e5, e6]
    rw [hrecord, ← hgen, ← e1, ← e2, ← e3, ← e4, ← e5, ← e6]
    rfl
  rw [hfinal]
  exact hbound

/-- The frame start behind the restart flag: advance, swap, ageing and binding (R15, R16). -/
def startTaken (count advance : Nat) (s : State) : State :=
  bindOut (agePoints advance (swapIfScheduled { s with prevCycle := some count }))

theorem startTaken_owners (count advance : Nat) (s : State) : ∃ b : Banks,
    b.generation = (match s.banks.status with | .scheduled _ => s.banks.generation + 1 | _ => s.banks.generation) ∧
    OwnersOnly { s with
      prevCycle := some count
      points := s.points.mapIdx (fun n p => agePoint advance (stalenessLimit (b.active.getD 0 (.reset 0)).words n) p)
      retLane := pushedRet s
      flight := pushedFlight s ++ [{ boundRecord s with generation := b.generation }]
      nextFlight := s.nextFlight + 1
      outLane := { s.outLane with generation := b.generation, record := some s.nextFlight }
      banks := b } (startTaken count advance s) := by
  obtain ⟨b, hswap, hgeneration⟩ := swapIfScheduled_owners { s with prevCycle := some count }
  have hsmt : (swapIfScheduled { s with prevCycle := some count }).smt = (b.active.getD 0 (.reset 0)).words :=
    congrArg (fun x : Banks => (x.active.getD 0 (.reset 0)).words) (hswap.kept State.banks)
  have haged := (hswap.mapped (fun n p => agePoint advance (stalenessLimit (b.active.getD 0 (.reset 0)).words n) p)).trans
    (hsmt ▸ agePoints_owners advance (swapIfScheduled { s with prevCycle := some count }))
  obtain ⟨b', hgeneration', hactive', hbound⟩ := bindOut_owners haged
  refine ⟨b', hgeneration'.trans hgeneration, ?_⟩
  rw [hactive', hgeneration']
  exact hbound

theorem latency_startTaken {count advance : Nat} {s : State} (hlength : s.faults.length = 64) (hfull : 4 ≤ s.flight.length) :
    ((startTaken count advance s).fault fcLatency).context = ((s.flight.head?.map (·.cycle)).getD 0 : Nat) := by
  obtain ⟨b, hswap, -⟩ := swapIfScheduled_owners { s with prevCycle := some count }
  have haged := (hswap.mapped (fun n p => agePoint advance
    (stalenessLimit (swapIfScheduled { s with prevCycle := some count }).smt n) p)).trans (agePoints_owners advance _)
  unfold startTaken
  generalize agePoints advance (swapIfScheduled { s with prevCycle := some count }) = w at haged
  have hflight : w.flight = s.flight := haged.kept State.flight
  have hfaults : w.faults.length = 64 := haged.faults.trans hlength
  have hbound : (bindOut w).fault fcLatency = (pushOut w).fault fcLatency := rfl
  rcases pushOut_cases w with ⟨hroom, -⟩ | ⟨-, c, -, -, -, hpush⟩
  · rw [hflight] at hroom
    exact absurd hfull hroom
  · rw [hbound, hpush, fault_raise_same (by rw [show fcLatency = 5 from rfl]; exact hfaults ▸ by decide) (by decide) (by decide) (.inl (by decide)), hflight]
    rfl

theorem outFrameStart_eq {s : State} {count advance : Nat} (hcount : count = (s.outLane.byteAt 1).toNat % 128)
    (hadvance : advance = (if (s.outLane.byteAt 1).getLsbD 7 then 1
      else match s.prevCycle with
        | none => 1
        | some p => if (count + 128 - p) % 128 = 0 then 1 else (count + 128 - p) % 128)) :
    outFrameStart s = startTaken count advance (if (s.outLane.byteAt 1).getLsbD 7 then raise fcMasterRestart count
      { s with outLane := { s.outLane with
        started := true, active := decide (s.opState ≠ .pass), cycle := count, staging := .empty } }
      else { s with outLane := { s.outLane with
        started := true, active := decide (s.opState ≠ .pass), cycle := count, staging := .empty } }) := by
  have hcycle : cycleAdvance (restartOf (s.outLane.byteAt 1)) s.prevCycle (cycleOf (s.outLane.byteAt 1)) = advance := by
    rw [hadvance]
    unfold cycleAdvance restartOf cycleOf
    rw [← hcount]
    by_cases hrestart : (s.outLane.byteAt 1).getLsbD 7 = true
    · rw [if_pos hrestart, if_pos hrestart]
    · rw [if_neg hrestart, if_neg hrestart]
      cases s.prevCycle with
      | none => rfl
      | some p =>
        dsimp only
        by_cases hzero : (count + 128 - p) % 128 = 0
        · rw [if_pos hzero, hzero]
          rfl
        · rw [if_neg hzero]
          omega
  have hrunning := running_eq s
  unfold outFrameStart startTaken
  dsimp only
  rw [hcycle, hrunning, cycleOf, ← hcount, restartOf]

/-! ## With the banks IDLE nothing but raises changes further (R16) -/

/-- `t` is `s` but for what raises and ends change. -/
def FaultsOnly (s t : State) : Prop := outsideMoves t = outsideMoves s ∧ KeepsPoints s t

theorem FaultsOnly.kept {s t : State} {α : Type} (h : FaultsOnly s t) (f : State → α)
    (hf : ∀ u, f (outsideOwners u) = f u := by exact fun _ => rfl) : f t = f s := eq_of_view (outsideOwners_of_moves h.1) f hf

theorem FaultsOnly.trans {s t u : State} (h : FaultsOnly s t) (k : FaultsOnly t u) : FaultsOnly s u :=
  ⟨k.1.trans h.1, h.2.trans k.2⟩

theorem FaultsOnly.lanes {s t : State} (h : FaultsOnly s t) (prev : Option Nat) (e : Engine) (out : Engine) (l : List FlightRecord)
    (next : Nat) : FaultsOnly { s with prevCycle := prev, retLane := e, outLane := out, flight := l, nextFlight := next }
      { t with prevCycle := prev, retLane := e, outLane := out, flight := l, nextFlight := next } :=
  ⟨congrArg (fun v : State => { v with prevCycle := prev, retLane := e, outLane := out, flight := l, nextFlight := next }) h.1, h.2⟩

theorem FaultsOnly.mapped {s t : State} (h : FaultsOnly s t) (f : Nat → Point → Point) :
    FaultsOnly { s with points := s.points.mapIdx f } { t with points := t.points.mapIdx f } := by
  obtain ⟨hview, hlength, hpoint⟩ := h
  refine ⟨hview, by simp [hlength], fun n hn => ?_⟩
  have hpoint : t.points.getD n .reset = s.points.getD n .reset := hpoint n hn
  have hget : t.points[n]? = s.points[n]? := by
    rw [List.getD_eq_getElem?_getD, List.getD_eq_getElem?_getD] at hpoint
    by_cases hlt : n < s.points.length
    · have hlt' : n < t.points.length := by rwa [hlength]
      rw [List.getElem?_eq_getElem hlt, List.getElem?_eq_getElem hlt'] at hpoint ⊢
      exact congrArg some hpoint
    · rw [List.getElem?_eq_none (by omega), List.getElem?_eq_none (by omega)]
  simp only [State.point, List.getD_eq_getElem?_getD, List.getElem?_mapIdx, hget]

theorem FaultsOnly.raise (k : Nat) (c : Int) (s : State) : FaultsOnly s (raise k c s) := ⟨outsideMoves_raise k c s, .raise k c s⟩

theorem FaultsOnly.agePoints (advance : Nat) (s : State) : FaultsOnly
    { s with points := s.points.mapIdx (fun n p => agePoint advance (stalenessLimit s.smt n) p) } (agePoints advance s) := by
  unfold Machine.agePoints evaluateStale
  split
  · exact ⟨outsideMoves_judge .., .judge ..⟩
  · exact ⟨outsideMoves_judge .., .judge ..⟩

theorem startTaken_of_idle {count advance : Nat} {s u : State} (h : FaultsOnly u s) (hidle : u.banks.status = .idle) :
    FaultsOnly { u with
      prevCycle := some count
      points := u.points.mapIdx (fun n p => agePoint advance (stalenessLimit u.smt n) p)
      retLane := (startTaken count advance s).retLane
      flight := (startTaken count advance s).flight
      nextFlight := u.nextFlight + 1
      outLane := (startTaken count advance s).outLane } (startTaken count advance s) := by
  have hsidle : s.banks.status = .idle := (congrArg Banks.status (h.kept State.banks)).trans hidle
  have hsmt : s.smt = u.smt := h.kept State.smt
  have hswap : swapIfScheduled { s with prevCycle := some count } = { s with prevCycle := some count } := by
    unfold swapIfScheduled
    simp only [hsidle]
  have hprev : FaultsOnly { u with prevCycle := some count } { s with prevCycle := some count } :=
    ⟨congrArg (fun v : State => { v with prevCycle := some count }) h.1, h.2⟩
  have haged := (hprev.mapped (fun n p => agePoint advance (stalenessLimit s.smt n) p)).trans
    (FaultsOnly.agePoints advance { s with prevCycle := some count })
  rw [hsmt] at haged
  unfold startTaken
  rw [hswap]
  generalize agePoints advance { s with prevCycle := some count } = v at haged
  have hvidle : v.banks.status = .idle := (congrArg Banks.status (haged.kept State.banks)).trans hidle
  have hpush : FaultsOnly { v with flight := (pushOut v).flight, retLane := (pushOut v).retLane } (pushOut v) := by
    rcases pushOut_cases v with ⟨-, hpush⟩ | ⟨-, b, -, -, hb, hpush⟩
    · rw [hpush]
      exact ⟨rfl, .refl _⟩
    · rw [hb hvidle] at hpush
      have hraise : FaultsOnly { v with flight := pushedFlight v, retLane := pushedRet v } (pushOut v) := hpush ▸ .raise _ _ _
      have hflight : (pushOut v).flight = pushedFlight v := hraise.kept State.flight
      have hret : (pushOut v).retLane = pushedRet v := hraise.kept State.retLane
      rw [hflight, hret]
      exact hraise
  have hnext : (pushOut v).nextFlight = u.nextFlight :=
    (hpush.kept State.nextFlight).trans (haged.kept State.nextFlight)
  have hprevious : (pushOut v).prevCycle = some count :=
    (hpush.kept State.prevCycle).trans (haged.kept State.prevCycle)
  have hbound := ((haged.lanes (some count) (pushOut v).retLane u.outLane (pushOut v).flight u.nextFlight).trans
    (hpush.lanes (some count) (pushOut v).retLane u.outLane (pushOut v).flight u.nextFlight)).lanes (some count)
      (bindOut v).retLane (bindOut v).outLane (bindOut v).flight (u.nextFlight + 1)
  have hfinal : bindOut v = { pushOut v with
      prevCycle := some count, retLane := (bindOut v).retLane, outLane := (bindOut v).outLane, flight := (bindOut v).flight,
      nextFlight := u.nextFlight + 1 } := by
    rw [← hprevious, ← hnext]
    rfl
  exact (congrArg (FaultsOnly _) hfinal).mpr hbound

end Sys2Proof.Machine

namespace Sys2Proof.Safety

open Sys2Proof.Machine

/-- Settles O34: field by field from the frame of the swap's owners; exactly, with the banks IDLE, from that of the raises. -/
theorem outFrameStartAgesAndBinds : Obligations.OutFrameStartAgesAndBinds := by
  intro s hdue hpoints count advance hcount hadvance
  have hexec : exec .outFrameStart s = .next (outFrameStart { s with due := [] }) :=
    congrArg Host.Outcome.next (takeDue_of_single hdue rfl)
  rw [hexec, outFrameStart_eq (s := { s with due := [] }) hcount hadvance]
  generalize hu : ({ s with
      due := []
      outLane := { s.outLane with
        started := true, active := decide (s.opState ≠ .pass), cycle := count, staging := .empty } } : State) = u
  generalize hv : (if (s.outLane.byteAt 1).getLsbD 7 then raise fcMasterRestart count u else u) = v
  have huv : FaultsOnly u v := by
    rw [← hv]
    split
    · exact .raise _ _ u
    · exact ⟨rfl, .refl u⟩
  have huvfaults : v.faults.length = u.faults.length := by
    rw [← hv]
    split
    · exact keeps_raise (OwnersOnly.plain_faults_length _).keeps rfl _ _
    · rfl
  obtain ⟨b, hgeneration, hframe⟩ := startTaken_owners count advance v
  have hbanks : v.banks = s.banks := (huv.kept State.banks).trans (congrArg State.banks hu).symm
  have hflight : v.flight = s.flight := (huv.kept State.flight).trans (congrArg State.flight hu).symm
  have hret : v.retLane = s.retLane := (huv.kept State.retLane).trans (congrArg State.retLane hu).symm
  have hnext : v.nextFlight = s.nextFlight := (huv.kept State.nextFlight).trans (congrArg State.nextFlight hu).symm
  have hout := (huv.kept State.outLane).trans (congrArg State.outLane hu).symm
  have hb : (startTaken count advance v).banks = b := hframe.kept State.banks
  have hgen : (startTaken count advance v).banks.generation =
      (match s.banks.status with | .scheduled _ => s.banks.generation + 1 | _ => s.banks.generation) := by
    rw [hb, hgeneration, hbanks]
  have hretlane : (startTaken count advance v).retLane = pushedRet s := by
    rw [hframe.kept State.retLane]
    simp only [pushedRet, hflight, hret]
  have hcycle : v.outLane.cycle = count := congrArg Engine.cycle hout
  have hpoint : ∀ n, n < 32 ∨ 63 < n → v.point n = s.point n := by
    intro n hn
    refine (huv.2.2 n fun hmem => ?_).trans (congrArg (fun w : State => w.point n) hu).symm
    obtain ⟨hlo, hhi⟩ := mem_raiseOutputs_bounds hmem
    omega
  have hlengthv : v.points.length = 256 := huv.2.1.trans ((congrArg (fun w : State => w.points.length) hu).symm.trans hpoints)
  have hsame : ∀ {α : Type} (f : State → α), (∀ w, f (outsideOwners w) = f w) →
      f { v with
        prevCycle := some count
        points := v.points.mapIdx (fun n p => agePoint advance (stalenessLimit (b.active.getD 0 (.reset 0)).words n) p)
        retLane := pushedRet v
        flight := pushedFlight v ++ [{ boundRecord v with generation := b.generation }]
        nextFlight := v.nextFlight + 1
        outLane := { v.outLane with generation := b.generation, record := some v.nextFlight }
        banks := b } = f v → f { s with
        due := []
        outLane := { s.outLane with
          started := true, active := decide (s.opState ≠ .pass), cycle := count, staging := .empty } } = f { s with due := [] } →
      f (startTaken count advance v) = f { s with due := [] } := by
    intro α f hf hv hs
    exact (hframe.kept f hf).trans (hv.trans ((huv.kept f hf).trans (hu ▸ hs)))
  refine ⟨startTaken count advance v, rfl, hsame State.due (fun _ => rfl) rfl rfl, hframe.kept State.prevCycle, hgen,
    fun n hn hrange => ?_, ?_, ?_, fun hrestart hlength => ?_, fun hfull hlength => ?_, hsame State.opState (fun _ => rfl) rfl rfl,
    hsame State.clock (fun _ => rfl) rfl rfl, hsame State.supervision (fun _ => rfl) rfl rfl, ?_, hsame State.p1 (fun _ => rfl) rfl rfl,
    hsame State.p3 (fun _ => rfl) rfl rfl, hsame State.hold (fun _ => rfl) rfl rfl, hsame State.carrier (fun _ => rfl) rfl rfl,
    hsame State.outBad (fun _ => rfl) rfl rfl, hsame State.retBad (fun _ => rfl) rfl rfl, hsame State.timebase (fun _ => rfl) rfl rfl,
    hsame State.inputs (fun _ => rfl) rfl rfl, hsame State.pending (fun _ => rfl) rfl rfl, hsame State.response (fun _ => rfl) rfl rfl,
    fun hidle => ?_⟩
  · have hlimit : (startTaken count advance v).smt = (b.active.getD 0 (.reset 0)).words :=
      congrArg (fun x : Banks => (x.active.getD 0 (.reset 0)).words) hb
    rw [hframe.point n hrange, hlimit, ← hpoint n hrange]
    exact getD_mapIdx (by rw [hlengthv]; exact hn)
  · rw [hframe.kept State.flight, hb]
    have hrecord : ({ boundRecord v with generation := b.generation } : FlightRecord) =
        { id := s.nextFlight, cycle := count, generation := b.generation
          origin := if s.outLane.source = .island then .island else .master, outcome := .pending, response := none } := by
      simp only [boundRecord, hnext, hout, Engine.origin]
    simp only [pushedFlight, hflight, hrecord]
  · rw [hframe.kept State.outLane, hb]
    simp only [hout, hnext]
    rfl
  · have hrecord : (v.fault fcMasterRestart).context = count := by
      have hlength' : u.faults.length = 64 := by
        rw [← hu]
        exact hlength
      rw [← hv, if_pos hrestart, fault_raise_same (hlength' ▸ by decide) (by decide) (by decide) (.inl (by decide))]
      rfl
    exact hframe.restart.trans hrecord
  · have hlength' : v.faults.length = 64 := by
      rw [huvfaults, ← hu]
      exact hlength
    rw [latency_startTaken hlength' (by rw [hflight]; exact hfull), hflight]
  · rw [hretlane]
    unfold pushedRet
    by_cases hfull : 4 ≤ s.flight.length
    · rw [if_pos hfull, if_pos hfull, keeping_eq]
    · rw [if_neg hfull, if_neg hfull]
  · have hidle' : u.banks.status = .idle := by
      rw [← hu]
      exact hidle
    have hstart := startTaken_of_idle (count := count) (advance := advance) huv hidle'
    have hbyfaults := byFaultsOnly_of hstart.1 hstart.2
    rw [← hu] at hbyfaults
    exact hbyfaults

end Sys2Proof.Safety
end

section
/-! SUPPORT. A byte of a frame in passage on either lane (R4 to R10, R19 to R22, R31). -/

set_option Elab.async false

namespace Sys2Proof.Machine

open Sys2Proof.Safety

/-! ## What the walk of a byte may write (R5) -/

/-- From `s` to `t` the engine of the lane has changed, but for what it has received and holds, and what falls due has been
added to. -/
def Walked (lane : Lane) (s t : State) : Prop :=
  ∃ (e : Engine) (d : List Due), t = { s.setEngine lane e with due := s.due ++ d } ∧
    e.recv = (s.engine lane).recv ∧ e.held = (s.engine lane).held

theorem Walked.refl (lane : Lane) (s : State) : Walked lane s s :=
  ⟨s.engine lane, [], by cases lane <;> simp [State.setEngine, State.engine], rfl, rfl⟩

theorem Walked.due {lane : Lane} {s t : State} (h : Walked lane s t) (d : Due) : Walked lane s (t.addDue d) := by
  obtain ⟨e, ds, rfl, hrecv, hheld⟩ := h
  exact ⟨e, ds ++ [d], by cases lane <;> simp [State.addDue, State.setEngine], hrecv, hheld⟩

theorem Walked.set {lane : Lane} {s t : State} (h : Walked lane s t) (e : Engine) (hrecv : e.recv = (t.engine lane).recv)
    (hheld : e.held = (t.engine lane).held) : Walked lane s (t.setEngine lane e) := by
  obtain ⟨e', ds, rfl, hrecv', hheld'⟩ := h
  refine ⟨e, ds, by cases lane <;> rfl, hrecv.trans ?_, hheld.trans ?_⟩
  · cases lane <;> exact hrecv'
  · cases lane <;> exact hheld'

theorem Walked.parse {lane : Lane} {s t : State} (h : Walked lane s t) (p : Parse) : Walked lane s (setParse lane p t) :=
  h.set _ rfl rfl

section
variable {lane : Lane} {s t : State} (h : Walked lane s t)
include h

theorem walked_headerByte : Walked lane s (headerByte lane t) := by
  unfold headerByte
  dsimp only
  split
  · split
    · exact h
    · exact h.parse _
  · split
    · exact (h.due _).parse _
    · exact h

theorem walked_tagByte (b : Byte) : Walked lane s (tagByte lane b t) := by
  unfold tagByte
  dsimp only
  split
  · exact h.parse _
  · split
    · exact h.parse _
    · exact h.set _ rfl rfl

theorem walked_openSlot (tag : Byte) (len : Nat) : Walked lane s (openSlot lane tag len t) := by
  have hreport : lane = .ret → Walked lane s (openReport t) := by
    rintro rfl
    unfold openReport
    split
    · exact h.set _ rfl rfl
    · exact h.due _
  have hservice : Walked lane s (openService lane len t) := by
    unfold openService
    cases lane with
    | out => exact h.set _ rfl rfl
    | ret =>
      dsimp only
      split
      · exact h
      · exact h.due _
  have hmapped : Walked lane s (openMapped lane tag len t) := by
    unfold openMapped
    dsimp only
    split
    · split
      · split
        · refine Walked.due ?_ _
          exact h.set _ rfl rfl
        · exact h.set _ rfl rfl
      · exact h
    · exact h
  unfold openSlot
  dsimp only
  split
  · split
    · next hlane => exact hreport hlane
    · exact h
  · split
    · split
      · exact hservice
      · exact h
    · split
      · exact h
      · exact hmapped

theorem walked_lengthByte (tag b : Byte) : Walked lane s (lengthByte lane tag b t) := by
  unfold lengthByte
  dsimp only
  split
  · exact h.parse _
  · exact walked_openSlot (h.parse _) tag _

theorem walked_payloadByte (tag : Byte) (len left : Nat) : Walked lane s (payloadByte lane tag len left t) := by
  unfold payloadByte
  dsimp only
  split
  · exact h.set _ rfl rfl
  · split
    · refine Walked.due ?_ _
      exact h.set _ rfl rfl
    · exact h.set _ rfl rfl

theorem walked_walkByte (b : Byte) : Walked lane s (walkByte lane b t) := by
  unfold walkByte
  split
  · exact walked_headerByte h
  · exact walked_tagByte h b
  · exact walked_lengthByte h _ b
  · exact walked_payloadByte h _ _ _
  · exact h
  · exact h

end

/-! ## What a byte brings about (R4, R19, R20, R31) -/

theorem due_setEngine (s : State) (lane : Lane) (e : Engine) : (s.setEngine lane e).due = s.due := by
  cases lane <;> rfl

theorem due_setParse (s : State) (lane : Lane) (p : Parse) : (setParse lane p s).due = s.due := due_setEngine ..

theorem engine_setParse (s : State) (lane : Lane) (p : Parse) : (setParse lane p s).engine lane = { s.engine lane with parse := p } :=
  engine_setEngine ..

theorem findEntry_eq {smt : List Word} {lane : Lane} {tag : Byte} {entry : Option Nat} (hzero : tag ≠ 0) (hlast : tag ≠ 0xFF)
    (h : IsEntryFor smt lane tag entry) : findEntry smt lane tag.toNat = entry := by
  have hused : ∀ p, ((slotEntry smt p).used && (slotEntry smt p).tag == tag.toNat && (slotEntry smt p).lane == lane) = true ↔
      ((slotEntry smt p).tag = tag.toNat ∧ (slotEntry smt p).lane = lane) := by
    intro p
    rw [Bool.and_eq_true, Bool.and_eq_true, beq_iff_eq, beq_iff_eq, and_assoc]
    refine ⟨fun hp => hp.2, fun hp => ⟨?_, hp⟩⟩
    have h0 : tag.toNat ≠ 0 := fun h0 => hzero (BitVec.eq_of_toNat_eq h0)
    have h255 : tag.toNat ≠ 255 := fun h255 => hlast (BitVec.eq_of_toNat_eq h255)
    rw [SlotEntry.used, hp.1]
    simp [h0, h255]
  obtain ⟨hnone, hsome⟩ := h
  cases entry with
  | none =>
    rw [findEntry, List.find?_eq_none]
    intro p hp
    rw [hused]
    exact hnone rfl p (List.mem_range.1 hp)
  | some p =>
    obtain ⟨hlt, htag, hlane, hfirst⟩ := hsome p rfl
    rw [findEntry, List.find?_range_eq_some]
    refine ⟨(hused p).2 ⟨htag, hlane⟩, List.mem_range.2 hlt, fun q hq => ?_⟩
    rw [Bool.not_eq_true', ← Bool.not_eq_true, hused]
    exact hfirst q hq

theorem due_headerByte (lane : Lane) (v : State) : (headerByte lane v).due =
    v.due ++ if (v.engine lane).recv.length = 5 then [.frameStart lane] else [] := by
  unfold headerByte
  dsimp only
  by_cases hone : (v.engine lane).recv.length = 1
  · have hfive : ¬ (v.engine lane).recv.length = 5 := by omega
    rw [if_pos hone, if_neg hfive, List.append_nil]
    split
    · rfl
    · exact due_setParse ..
  · rw [if_neg hone]
    split
    · exact due_setParse ..
    · exact (List.append_nil _).symm

theorem due_tagByte (lane : Lane) (b : Byte) (v : State) : (tagByte lane b v).due = v.due := by
  unfold tagByte
  dsimp only
  split
  · exact due_setParse ..
  · split
    · exact due_setParse ..
    · exact due_setEngine ..

theorem due_payloadByte (lane : Lane) (tag : Byte) (len left : Nat) (v : State) : (payloadByte lane tag len left v).due =
    v.due ++ if left ≤ 1 ∧ (v.engine lane).entry ≠ none then [.slotApply lane] else [] := by
  unfold payloadByte
  dsimp only
  by_cases hleft : 1 < left
  · have hmore : ¬ (left ≤ 1 ∧ (v.engine lane).entry ≠ none) := fun h => by omega
    rw [if_pos hleft, if_neg hmore, List.append_nil]
    exact due_setEngine ..
  · rw [if_neg hleft]
    cases hentry : (v.engine lane).entry with
    | none =>
      have hnone : ¬ (left ≤ 1 ∧ (none : Option Nat) ≠ none) := fun h => h.2 rfl
      rw [if_neg hnone, List.append_nil]
      exact due_setEngine ..
    | some p =>
      have hsome : left ≤ 1 ∧ some p ≠ none := ⟨by omega, Option.some_ne_none p⟩
      rw [if_pos hsome]
      exact congrArg (· ++ [Due.slotApply lane]) (due_setEngine ..)

theorem due_openSlot_report (lane : Lane) (len : Nat) (v : State) : (openSlot lane 0xFD len v).due =
    v.due ++ if lane = .ret ∧ (v.engine lane).report = none then [.reportTaken] else [] := by
  cases lane with
  | out => exact (List.append_nil _).symm
  | ret =>
    have hopen : openSlot .ret 0xFD len v = openReport v := rfl
    rw [hopen, openReport]
    cases hreport : v.retLane.report with
    | none => exact congrArg (v.due ++ ·) (if_pos ⟨rfl, hreport⟩).symm
    | some contents =>
      rw [if_neg (fun h => by rw [show (v.engine .ret).report = some contents from hreport] at h; cases h.2), List.append_nil]
      rfl

theorem due_openSlot_service (lane : Lane) (len : Nat) (v : State) : (openSlot lane 0xFE len v).due =
    v.due ++ if lane = .ret ∧ (v.engine lane).ordinal = (v.engine lane).slotCount ∧ len ≠ 0 then [.serviceWrite] else [] := by
  have hopen : openSlot lane 0xFE len v =
      if (v.engine lane).ordinal = (v.engine lane).slotCount then openService lane len v else v := rfl
  rw [hopen]
  by_cases hlast : (v.engine lane).ordinal = (v.engine lane).slotCount
  · rw [if_pos hlast]
    cases lane with
    | out => exact (List.append_nil _).symm
    | ret =>
      by_cases hempty : len = 0
      · rw [if_neg (fun h => h.2.2 hempty), List.append_nil, openService]
        exact congrArg State.due (if_pos hempty)
      · rw [if_pos ⟨rfl, hlast, hempty⟩, openService]
        exact congrArg State.due (if_neg hempty)
  · rw [if_neg hlast, if_neg (fun h => hlast h.2.1), List.append_nil]

theorem openSlot_of_empty {tag : Byte} (h : tag = 0x00 ∨ tag = 0xFF) (lane : Lane) (len : Nat) (v : State) :
    openSlot lane tag len v = v := by
  rcases h with rfl | rfl
  · rfl
  · rfl

theorem openSlot_of_mapped {tag : Byte} (h : tag ∉ [0x00, 0xFD, 0xFE, 0xFF]) (lane : Lane) (len : Nat) (v : State) :
    openSlot lane tag len v = openMapped lane tag len v := by
  simp only [List.mem_cons, List.not_mem_nil, or_false, not_or] at h
  obtain ⟨h0, hreport, hservice, hlast⟩ := h
  unfold openSlot
  rw [if_neg hreport, if_neg hservice, if_neg (not_or.2 ⟨h0, hlast⟩)]

theorem openMapped_of_passed {lane : Lane} {len : Nat} {v : State} (h : (v.engine lane).active = false ∨ 60 < len) (tag : Byte) :
    openMapped lane tag len v = v := by
  unfold openMapped
  refine if_neg fun hmapped => ?_
  rw [Bool.and_eq_true, decide_eq_true_eq] at hmapped
  rcases h with h | h
  · rw [h] at hmapped
    cases hmapped.1
  · omega

/-- The slot's entry, if there is one, is found (R31). -/
theorem openMapped_of_taken {lane : Lane} {len : Nat} {v : State} {tag : Byte} {entry : Option Nat}
    (hactive : (v.engine lane).active = true) (hlen : len ≤ 60) (hzero : tag ≠ 0) (hlast : tag ≠ 0xFF)
    (hentry : IsEntryFor (v.boundSmt (v.engine lane).generation) lane tag entry) :
    ((openMapped lane tag len v).engine lane).entry = (if entry = none then (v.engine lane).entry else entry) ∧
    (openMapped lane tag len v).due = v.due ++ if entry ≠ none ∧ len = 0 then [.slotApply lane] else [] := by
  unfold openMapped
  dsimp only
  rw [if_pos (by rw [hactive, decide_eq_true hlen]; rfl), findEntry_eq hzero hlast hentry]
  cases entry with
  | none => exact ⟨rfl, (List.append_nil _).symm⟩
  | some p =>
    dsimp only
    by_cases hempty : len = 0
    · have hboth : some p ≠ none ∧ len = 0 := ⟨Option.some_ne_none p, hempty⟩
      rw [if_pos hempty, if_pos hboth]
      cases lane <;> exact ⟨rfl, rfl⟩
    · have hnot : ¬ (some p ≠ none ∧ len = 0) := fun h => hempty h.2
      rw [if_neg hempty, if_neg hnot, List.append_nil]
      cases lane <;> exact ⟨rfl, rfl⟩

theorem toNat_eq_zero_iff {b : Byte} : b.toNat = 0 ↔ b = 0 := ⟨fun h => BitVec.eq_of_toNat_eq h, fun h => h ▸ rfl⟩

theorem boundSmt_congr {s v : State} (h : v.banks = s.banks) (g : Word) : v.boundSmt g = s.boundSmt g := by
  unfold State.boundSmt State.smt State.active State.shadow
  rw [h]

/-- The walk of a byte brings about what `BringsDue` says. -/
theorem bringsDue_walkByte {lane : Lane} {b : Byte} {s v t : State} {held overlay : List Byte} (hdue : v.due = [])
    (hengine : v.engine lane = { s.engine lane with recv := (s.engine lane).recv ++ [b], held := held, overlay := overlay })
    (hbanks : v.banks = s.banks) (ht : t.due = (walkByte lane b v).due)
    (htentry : (t.engine lane).entry = ((walkByte lane b v).engine lane).entry) : BringsDue lane b s t := by
  unfold BringsDue
  refine ⟨fun hparse => ?_, fun tag hparse => ?_, fun tag len left hparse => ?_, fun hparse => ?_⟩
  · have hparse' : (v.engine lane).parse = .header := by rw [hengine]; exact hparse
    have hwalk : walkByte lane b v = headerByte lane v := by rw [walkByte, hparse']
    rw [ht, hwalk, due_headerByte, hdue, hengine]
    rfl
  · have hparse' : (v.engine lane).parse = .length tag := by rw [hengine]; exact hparse
    have hwalk : walkByte lane b v = lengthByte lane tag b v := by rw [walkByte, hparse']
    have htotal : (v.engine lane).total = Engine.total { s.engine lane with recv := (s.engine lane).recv ++ [b] } := by
      rw [hengine]
      rfl
    have hlength : (v.engine lane).recv.length = ((s.engine lane).recv ++ [b]).length := by rw [hengine]
    have hslots : (v.engine lane).slotCount = Engine.slotCount { s.engine lane with recv := (s.engine lane).recv ++ [b] } := by
      rw [hengine]
      rfl
    refine ⟨fun hlong => ?_, fun hfits => ?_⟩
    · rw [← htotal, ← hlength] at hlong
      rw [ht, hwalk, lengthByte, if_pos hlong, due_setParse, hdue]
    · rw [← htotal, ← hlength] at hfits
      obtain ⟨p, hopened⟩ : ∃ p, lengthByte lane tag b v = openSlot lane tag b.toNat (setParse lane p v) :=
        ⟨_, if_neg (Nat.not_lt.2 hfits)⟩
      rw [ht, htentry, hwalk, hopened]
      have hdue' : (setParse lane p v).due = [] := (due_setParse ..).trans hdue
      have hopen := engine_setParse v lane p
      have hbanks' : (setParse lane p v).banks = s.banks := by
        rw [← hbanks]
        cases lane <;> rfl
      rw [hengine] at hopen
      refine ⟨fun htag => ?_, fun htag => ?_, fun htag => ?_, fun htag => ⟨fun hpass => ?_, fun hactive hshort entry hentry => ?_⟩⟩
      · rw [htag, due_openSlot_report, hdue', hopen]
        rfl
      · rw [htag, due_openSlot_service, hdue', hopen, List.nil_append]
        simp only [ne_eq, toNat_eq_zero_iff]
        rfl
      · rw [openSlot_of_empty htag, hdue']
      · rw [openSlot_of_mapped htag, openMapped_of_passed (by rw [hopen]; exact hpass), hopen]
        exact ⟨hdue', rfl⟩
      · have hmapped := htag
        simp only [List.mem_cons, List.not_mem_nil, or_false, not_or] at htag
        obtain ⟨hzero, -, -, hlast⟩ := htag
        obtain ⟨hfound, hfell⟩ := openMapped_of_taken (lane := lane) (len := b.toNat) (v := setParse lane p v) (tag := tag)
          (by rw [hopen]; exact hactive) hshort hzero hlast (by rw [hopen, boundSmt_congr hbanks']; exact hentry)
        rw [openSlot_of_mapped hmapped, hfound, hfell, hdue', hopen, List.nil_append]
        simp only [ne_eq, toNat_eq_zero_iff]
        exact ⟨trivial, trivial⟩
  · have hparse' : (v.engine lane).parse = .payload tag len left := by rw [hengine]; exact hparse
    have hwalk : walkByte lane b v = payloadByte lane tag len left v := by rw [walkByte, hparse']
    rw [ht, hwalk, due_payloadByte, hdue, hengine]
    rfl
  · rcases hparse with hparse | hparse | hparse
    · have hparse' : (v.engine lane).parse = .tag := by rw [hengine]; exact hparse
      have hwalk : walkByte lane b v = tagByte lane b v := by rw [walkByte, hparse']
      rw [ht, hwalk, due_tagByte, hdue]
    · have hparse' : (v.engine lane).parse = .check := by rw [hengine]; exact hparse
      have hwalk : walkByte lane b v = v := by rw [walkByte, hparse']
      rw [ht, hwalk, hdue]
    · have hparse' : (v.engine lane).parse = .lost := by rw [hengine]; exact hparse
      have hwalk : walkByte lane b v = v := by rw [walkByte, hparse']
      rw [ht, hwalk, hdue]

/-! ## A byte taken by an engine (R4, R8, R9) -/

theorem sendBytes_ret (bs : List Byte) (v : State) : sendBytes .ret bs v =
    { v with p3 := if v.retLane.kind = kindIsland then v.p3 else { v.p3 with bytes := v.p3.bytes ++ bs } } := by
  unfold sendBytes
  dsimp only
  split
  · rfl
  · rfl

/-- A byte within the frame's greatest length: received and walked; what is held beyond two bytes, or beyond the slot buffer,
goes on (R4, R8, R31). -/
theorem feedByte_of_room {lane : Lane} {b : Byte} {s : State} (hroom : (s.engine lane).recv.length < 1024) :
    ∃ (e : Engine) (d : List Due),
      feedByte lane b s = { sendBytes lane (e.held.take (e.held.length - max 2 e.buffered))
        ((if lane = .ret ∧ (s.engine lane).recv = [] then beginReturn b s else s).setEngine lane
          { e with held := e.held.drop (e.held.length - max 2 e.buffered) }) with due := s.due ++ d } ∧
      e.recv = (s.engine lane).recv ++ [b] ∧ e.held = (s.engine lane).held ++ [(s.engine lane).overlay.headD b] ∧
      (s.due = [] → BringsDue lane b s (feedByte lane b s)) := by
  generalize hbegun : (if lane = .ret ∧ (s.engine lane).recv = [] then beginReturn b s else s) = v
  have hkept : v.due = s.due ∧ v.banks = s.banks := by
    rw [← hbegun]
    unfold beginReturn
    split
    · split
      · exact ⟨rfl, rfl⟩
      · exact ⟨rfl, rfl⟩
    · exact ⟨rfl, rfl⟩
  obtain ⟨hdue, hbanks⟩ := hkept
  generalize he : ({ s.engine lane with
    recv := (s.engine lane).recv ++ [b], held := (s.engine lane).held ++ [(s.engine lane).overlay.headD b]
    overlay := (s.engine lane).overlay.drop 1 } : Engine) = e₀
  have hfeed : feedByte lane b s = forwardHeld lane (walkByte lane b (v.setEngine lane e₀)) := by
    unfold feedByte
    dsimp only
    rw [if_neg (Nat.not_le.2 hroom), hbegun, he]
  obtain ⟨e, d, hwalk, hrecv, hheld⟩ := walked_walkByte (Walked.refl lane (v.setEngine lane e₀)) b
  rw [engine_setEngine] at hrecv hheld
  rw [due_setEngine, hdue] at hwalk
  have hdues : ∀ u : State, (forwardHeld lane u).due = u.due := by
    intro u
    unfold forwardHeld sendBytes
    cases lane with
    | out => rfl
    | ret =>
      dsimp only
      split
      · rfl
      · rfl
  have hentries : ∀ u : State, ((forwardHeld lane u).engine lane).entry = (u.engine lane).entry := by
    intro u
    unfold forwardHeld sendBytes
    cases lane with
    | out => rfl
    | ret =>
      dsimp only
      split
      · rfl
      · rfl
  refine ⟨e, d, ?_, by rw [hrecv, ← he], by rw [hheld, ← he], fun hempty => ?_⟩
  · rw [hfeed, hwalk]
    unfold forwardHeld
    cases lane with
    | out => rfl
    | ret =>
      rw [sendBytes_ret, sendBytes_ret]
      rfl
  · rw [hfeed]
    exact bringsDue_walkByte ((due_setEngine ..).trans (hdue.trans hempty)) ((engine_setEngine ..).trans he.symm)
      (by rw [← hbanks]; cases lane <;> rfl) (hdues _) (hentries _)

end Sys2Proof.Machine
end

section
/-! SUPPORT. A byte at P2, and a byte at P0 that reaches no engine (R1, R4, R7, R21 to R23). -/

set_option Elab.async false

namespace Sys2Proof.Machine

open Sys2Proof.Safety

theorem length_drop_held (l : List Byte) (n : Nat) : (l.drop (l.length - max 2 n)).length = min l.length (max 2 n) := by
  rw [List.length_drop]
  omega

theorem kind_opened {e : Engine} {l : List Byte} {b : Byte} (h : e.recv = l ++ [b]) (hl : l = []) : e.kind = b := by
  rw [Engine.kind, Engine.byteAt, h, hl]
  rfl

/-- A byte of a frame in passage at P2 (R4, R8, R21). -/
theorem feedByte_ret {b : Byte} {s : State} (hroom : s.retLane.recv.length < 1024) (hdue : s.due = []) :
    (feedByte .ret b s).retLane.recv = s.retLane.recv ++ [b] ∧
    ((feedByte .ret b s).retLane.kind ≠ kindIsland → (feedByte .ret b s).p3.bytes ++ (feedByte .ret b s).retLane.held =
      (if s.retLane.recv = [] then [] else s.p3.bytes) ++ s.retLane.held ++ [s.retLane.overlay.headD b]) ∧
    ((feedByte .ret b s).retLane.kind = kindIsland → (feedByte .ret b s).p3 = s.p3) ∧
    (feedByte .ret b s).retLane.held.length = min (s.retLane.held.length + 1) (max 2 (feedByte .ret b s).retLane.buffered) ∧
    BringsDue .ret b s (feedByte .ret b s) ∧
    feedByte .ret b s = { s with
      p3 := (feedByte .ret b s).p3, retLane := (feedByte .ret b s).retLane, due := (feedByte .ret b s).due } := by
  obtain ⟨e, d, hfeed, hrecv, hheld, hbrings⟩ := feedByte_of_room (lane := .ret) (b := b) hroom
  have hbrings := hbrings hdue
  have hlength : e.held.length = s.retLane.held.length + 1 := by
    rw [hheld, List.length_append]
    rfl
  have hbegin : (if Lane.ret = .ret ∧ (s.engine .ret).recv = [] then beginReturn b s else s) = { s with
      p3 := if s.retLane.recv = [] ∧ b ≠ kindIsland then { busy := true, bytes := [], ended := false } else s.p3 } := by
    by_cases hfirst : s.retLane.recv = []
    · rw [if_pos ⟨rfl, hfirst⟩, beginReturn]
      by_cases hisland : b = kindIsland
      · rw [if_pos hisland, if_neg (fun h => h.2 hisland)]
      · rw [if_neg hisland, if_pos ⟨hfirst, hisland⟩]
    · rw [if_neg (fun h => hfirst h.2), if_neg (fun h => hfirst h.1)]
  rw [hbegin] at hfeed
  by_cases hisland : e.kind = kindIsland
  · have hkept : ¬ (s.retLane.recv = [] ∧ b ≠ kindIsland) := fun h => h.2 (by rw [← kind_opened hrecv h.1, hisland])
    have hfed : feedByte .ret b s = { s with
        retLane := { e with held := e.held.drop (e.held.length - max 2 e.buffered) }, due := s.due ++ d } := by
      rw [hfeed, if_neg hkept]
      unfold sendBytes
      exact congrArg (fun u : State => { u with due := s.due ++ d }) (if_pos hisland)
    rw [hfed] at hbrings ⊢
    exact ⟨hrecv, fun h => absurd hisland h, fun _ => rfl, (length_drop_held ..).trans (by rw [hlength]), hbrings, rfl⟩
  · have hsent : feedByte .ret b s = { s with
        p3 := { (if s.retLane.recv = [] ∧ b ≠ kindIsland then { busy := true, bytes := [], ended := false } else s.p3 : TxPort) with
          bytes := (if s.retLane.recv = [] ∧ b ≠ kindIsland then { busy := true, bytes := [], ended := false } else s.p3 :
            TxPort).bytes ++ e.held.take (e.held.length - max 2 e.buffered) }
        retLane := { e with held := e.held.drop (e.held.length - max 2 e.buffered) }
        due := s.due ++ d } := by
      rw [hfeed]
      unfold sendBytes
      exact congrArg (fun u : State => { u with due := s.due ++ d }) (if_neg hisland)
    have hbytes : (if s.retLane.recv = [] ∧ b ≠ kindIsland then { busy := true, bytes := [], ended := false } else s.p3 :
        TxPort).bytes = if s.retLane.recv = [] then [] else s.p3.bytes := by
      by_cases hfirst : s.retLane.recv = []
      · rw [if_pos ⟨hfirst, fun hb => hisland (by rw [kind_opened hrecv hfirst, hb])⟩, if_pos hfirst]
      · rw [if_neg (fun h => hfirst h.1), if_neg hfirst]
    rw [hsent] at hbrings ⊢
    refine ⟨hrecv, fun _ => ?_, fun h => absurd h hisland, (length_drop_held ..).trans (by rw [hlength]), hbrings, rfl⟩
    dsimp only
    rw [hbytes, List.append_assoc, List.take_append_drop, hheld, List.append_assoc]
    rfl

end Sys2Proof.Machine

namespace Sys2Proof.Safety

open Sys2Proof.Machine

/-- Settles O33, by the mode of the port and the bytes received. -/
theorem otherBytesGoToP3OrTheBufferOrNowhere : Obligations.OtherBytesGoToP3OrTheBufferOrNowhere := by
  intro b s hdue
  have hexec : ∀ source, exec (.frameByte source) s = .next (frameByte source s) := fun source =>
    congrArg (fun u => Host.Outcome.next (frameByte source u)) (settle_of_due_nil hdue)
  have hpassing : s.rx2.mode = .passing → exec (.frameByte (.p2 b)) s = .next (feedByte .ret b s) := by
    intro hmode
    rw [hexec]
    exact congrArg Host.Outcome.next (by rw [frameByte, byteAtP2, hmode])
  have hheld : s.rx0.mode = .buffering → exec (.frameByte (.p0 b)) s = .next (storeHeld b s) := by
    intro hmode
    rw [hexec]
    exact congrArg Host.Outcome.next (by rw [frameByte, byteAtP0, hmode])
  refine ⟨fun hmode => ?_, fun hmode hlong => ?_, fun hmode hroom => ?_, fun hmode => ?_, fun hmode => ?_, fun hmode hroom => ?_,
    fun hmode hfull => ?_⟩
  · rw [hexec, frameByte, byteAtP2]
    cases hport : s.rx2.mode with
    | passing => exact absurd hport hmode
    | none => rfl
    | buffering => rfl
    | dropping => rfl
    | discarding => rfl
  · rw [hpassing hmode, feedByte]
    dsimp only
    rw [if_pos (by exact hlong), State.addDue, hdue]
    rfl
  · exact ⟨_, hpassing hmode, feedByte_ret hroom hdue⟩
  · rw [hexec, frameByte, byteAtP0]
    rcases hmode with hmode | hmode
    · rw [hmode]
    · rw [hmode]
  · rw [hexec, frameByte, byteAtP0, hmode]
  · rw [hheld hmode, storeHeld]
    simp only [if_pos hroom]
  · rw [hheld hmode, storeHeld]
    simp only [if_neg (Nat.not_lt.2 hfull)]

end Sys2Proof.Safety
end

section
/-! SUPPORT. What an engine reads of a frame fed byte by byte (R4 to R6, R10, R19, R201). -/

set_option Elab.async false

namespace Sys2Proof.Machine

open Sys2Proof.Safety

/-! ## What the walk reads, apart from the state (R5, R6) -/

/-- What of an engine the walk of the bytes reads and writes: not the bytes held, nor the entry found. -/
structure Reading where
  recv : List Byte
  parse : Parse
  ordinal : Nat
  active : Bool
  capture : Bool
  staging : Staging

def Engine.reading (e : Engine) : Reading :=
  { recv := e.recv, parse := e.parse, ordinal := e.ordinal, active := e.active, capture := e.capture, staging := e.staging }

/-- The declared slot count and total length (R212). -/
def declaredSlots (l : List Byte) : Nat := (l.getD 2 0).toNat
def declaredTotal (l : List Byte) : Nat := (l.getD 3 0).toNat * 256 + (l.getD 4 0).toNat

/-- The request that a slot's payload may be (R201). -/
def Reading.captures (lane : Lane) (r : Reading) (tag : Byte) (len : Nat) : Bool :=
  if tag = 0xFE ∧ r.ordinal = declaredSlots r.recv ∧ lane = .out then
    r.recv.getD 0 0 == kindCycle && 1 ≤ len && len ≤ 60
  else r.capture

/-- One byte read in the header. -/
def Reading.readHeader (r : Reading) : Reading :=
  if r.recv.length = 1 then
    if r.recv.getD 0 0 = kindCycle ∨ r.recv.getD 0 0 = kindIsland then r else { r with parse := .lost }
  else if r.recv.length = 5 then
    { r with parse := if outside 1 40 (declaredSlots r.recv) || outside 5 1022 (declaredTotal r.recv) then .lost else .tag }
  else r

/-- One byte read at a tag's place. -/
def Reading.readTag (r : Reading) (b : Byte) : Reading :=
  if r.recv.length = declaredTotal r.recv + 1 then
    { r with parse := if r.ordinal = declaredSlots r.recv then .check else .lost }
  else if r.ordinal = declaredSlots r.recv then { r with parse := .lost }
  else { r with
    ordinal := r.ordinal + 1
    staging := noteTag r.active (r.ordinal + 1 == declaredSlots r.recv) (r.ordinal + 1) b r.staging
    parse := if r.recv.length = declaredTotal r.recv then .lost else .length b }

/-- The byte received last is read (R4 to R6). -/
def Reading.read (lane : Lane) (b : Byte) (r : Reading) : Reading :=
  match r.parse with
  | .header => r.readHeader
  | .tag => r.readTag b
  | .length tag =>
    if declaredTotal r.recv < r.recv.length + b.toNat then { r with parse := .lost }
    else { r with
      parse := if b.toNat = 0 then .tag else .payload tag b.toNat b.toNat
      capture := r.captures lane tag b.toNat }
  | .payload tag len left =>
    if 1 < left then { r with parse := .payload tag len (left - 1) }
    else { r with
      parse := .tag, capture := false
      staging := { r.staging with
        request := if r.capture then some (r.recv.drop (r.recv.length - len)) else r.staging.request } }
  | .check => r
  | .lost => r

/-- A byte is received and read. -/
def Reading.next (lane : Lane) (r : Reading) (b : Byte) : Reading := { r with recv := r.recv ++ [b] }.read lane b

theorem reading_setEngine (lane : Lane) (e : Engine) (s : State) : ((s.setEngine lane e).engine lane).reading = e.reading := by
  rw [engine_setEngine]

theorem engine_addDue (lane : Lane) (s : State) (d : Due) : (s.addDue d).engine lane = s.engine lane := by
  cases lane <;> rfl

theorem reading_headerByte (lane : Lane) (s : State) :
    ((headerByte lane s).engine lane).reading = (s.engine lane).reading.readHeader := by
  unfold headerByte Reading.readHeader
  dsimp only
  by_cases hone : (s.engine lane).recv.length = 1
  · have hone' : (s.engine lane).reading.recv.length = 1 := hone
    rw [if_pos hone, if_pos hone']
    by_cases hkind : (s.engine lane).kind = kindCycle ∨ (s.engine lane).kind = kindIsland
    · have hkind' : (s.engine lane).reading.recv.getD 0 0 = kindCycle ∨ (s.engine lane).reading.recv.getD 0 0 = kindIsland := hkind
      rw [if_pos hkind, if_pos hkind']
    · have hkind' : ¬ ((s.engine lane).reading.recv.getD 0 0 = kindCycle ∨ (s.engine lane).reading.recv.getD 0 0 = kindIsland) :=
        hkind
      rw [if_neg hkind, if_neg hkind', engine_setParse]
      rfl
  · have hone' : ¬ (s.engine lane).reading.recv.length = 1 := hone
    rw [if_neg hone, if_neg hone']
    by_cases hfive : (s.engine lane).recv.length = 5
    · have hfive' : (s.engine lane).reading.recv.length = 5 := hfive
      rw [if_pos hfive, if_pos hfive', engine_setParse, engine_addDue]
      rfl
    · have hfive' : ¬ (s.engine lane).reading.recv.length = 5 := hfive
      rw [if_neg hfive, if_neg hfive']

theorem reading_tagByte (lane : Lane) (b : Byte) (s : State) :
    ((tagByte lane b s).engine lane).reading = (s.engine lane).reading.readTag b := by
  unfold tagByte Reading.readTag
  dsimp only
  by_cases hend : (s.engine lane).recv.length = (s.engine lane).total + 1
  · have hend' : (s.engine lane).reading.recv.length = declaredTotal (s.engine lane).reading.recv + 1 := hend
    rw [if_pos hend, if_pos hend', engine_setParse]
    rfl
  · have hend' : ¬ (s.engine lane).reading.recv.length = declaredTotal (s.engine lane).reading.recv + 1 := hend
    rw [if_neg hend, if_neg hend']
    by_cases hlast : (s.engine lane).ordinal = (s.engine lane).slotCount
    · have hlast' : (s.engine lane).reading.ordinal = declaredSlots (s.engine lane).reading.recv := hlast
      rw [if_pos hlast, if_pos hlast', engine_setParse]
      rfl
    · have hlast' : ¬ (s.engine lane).reading.ordinal = declaredSlots (s.engine lane).reading.recv := hlast
      rw [if_neg hlast, if_neg hlast', engine_setEngine]
      rfl

theorem reading_openMapped (lane : Lane) (tag : Byte) (len : Nat) (s : State) :
    ((openMapped lane tag len s).engine lane).reading = (s.engine lane).reading := by
  unfold openMapped
  dsimp only
  split
  · split
    · split
      · rw [engine_addDue, engine_setEngine]
        rfl
      · rw [engine_setEngine]
        rfl
    · rfl
  · rfl

theorem reading_openSlot (lane : Lane) (tag : Byte) (len : Nat) (s : State) :
    ((openSlot lane tag len s).engine lane).reading =
      { (s.engine lane).reading with capture := (s.engine lane).reading.captures lane tag len } := by
  have hother : tag ≠ 0xFE → ((s.engine lane).reading.captures lane tag len) = (s.engine lane).capture :=
    fun htag => if_neg fun h => htag h.1
  unfold openSlot
  dsimp only
  by_cases hreport : tag = 0xFD
  · rw [if_pos hreport, hother (by rw [hreport]; decide)]
    cases lane with
    | out => rfl
    | ret =>
      rw [if_pos rfl]
      unfold openReport
      split <;> rfl
  · rw [if_neg hreport]
    by_cases hservice : tag = 0xFE
    · rw [if_pos hservice]
      unfold Reading.captures
      by_cases hlast : (s.engine lane).ordinal = (s.engine lane).slotCount
      · rw [if_pos hlast]
        cases lane with
        | out =>
          rw [if_pos ⟨hservice, hlast, rfl⟩]
          rfl
        | ret =>
          rw [if_neg (fun h => by cases h.2.2), openService]
          split <;> rfl
      · rw [if_neg hlast, if_neg (fun h => hlast h.2.1)]
    · rw [if_neg hservice, hother hservice]
      split
      · rfl
      · exact reading_openMapped ..

theorem reading_lengthByte (lane : Lane) (tag b : Byte) (s : State) :
    ((lengthByte lane tag b s).engine lane).reading =
      if (s.engine lane).total < (s.engine lane).recv.length + b.toNat then { (s.engine lane).reading with parse := .lost }
      else { (s.engine lane).reading with
        parse := if b.toNat = 0 then .tag else .payload tag b.toNat b.toNat
        capture := (s.engine lane).reading.captures lane tag b.toNat } := by
  unfold lengthByte
  dsimp only
  by_cases hlong : (s.engine lane).total < (s.engine lane).recv.length + b.toNat
  · rw [if_pos hlong, if_pos hlong, engine_setParse]
    rfl
  · rw [if_neg hlong, if_neg hlong, reading_openSlot, engine_setParse]
    rfl

theorem reading_payloadByte (lane : Lane) (tag : Byte) (len left : Nat) (s : State) :
    ((payloadByte lane tag len left s).engine lane).reading =
      if 1 < left then { (s.engine lane).reading with parse := .payload tag len (left - 1) }
      else { (s.engine lane).reading with
        parse := .tag, capture := false
        staging := { (s.engine lane).staging with
          request := if (s.engine lane).capture then some ((s.engine lane).recv.drop ((s.engine lane).recv.length - len))
            else (s.engine lane).staging.request } } := by
  unfold payloadByte
  dsimp only
  split
  · rw [engine_setEngine]
    rfl
  · split
    · rw [engine_addDue, engine_setEngine]
      rfl
    · rw [engine_setEngine]
      rfl

/-- A byte fed to an engine is a byte read. -/
theorem reading_feedByte {lane : Lane} {b : Byte} {s : State} (hroom : (s.engine lane).recv.length < 1024) :
    ((feedByte lane b s).engine lane).reading = (s.engine lane).reading.next lane b := by
  generalize hbegun : (if lane = .ret ∧ (s.engine lane).recv = [] then beginReturn b s else s) = v
  generalize he : ({ s.engine lane with
    recv := (s.engine lane).recv ++ [b], held := (s.engine lane).held ++ [(s.engine lane).overlay.headD b]
    overlay := (s.engine lane).overlay.drop 1 } : Engine) = e
  have hfeed : feedByte lane b s = forwardHeld lane (walkByte lane b (v.setEngine lane e)) := by
    unfold feedByte
    dsimp only
    rw [if_neg (Nat.not_le.2 hroom), hbegun, he]
  have hforward : ∀ u : State, ((forwardHeld lane u).engine lane).reading = (u.engine lane).reading := by
    intro u
    unfold forwardHeld
    cases lane with
    | out => rfl
    | ret =>
      rw [sendBytes_ret]
      rfl
  have hreading : e.reading = { (s.engine lane).reading with recv := (s.engine lane).recv ++ [b] } := by
    rw [← he]
    rfl
  have hengine : (v.setEngine lane e).engine lane = e := engine_setEngine ..
  rw [hfeed, hforward]
  have hnext : (s.engine lane).reading.next lane b = e.reading.read lane b := (congrArg (Reading.read lane b) hreading).symm
  rw [hnext]
  unfold walkByte Reading.read
  rw [hengine]
  have hparse : e.reading.parse = e.parse := rfl
  rw [hparse]
  cases hcase : e.parse with
  | header =>
    dsimp only
    rw [reading_headerByte, hengine]
  | tag =>
    dsimp only
    rw [reading_tagByte, hengine]
  | length tag =>
    dsimp only
    rw [reading_lengthByte, hengine]
    rfl
  | payload tag len left =>
    dsimp only
    rw [reading_payloadByte, hengine]
    rfl
  | check => exact congrArg Engine.reading hengine
  | lost => exact congrArg Engine.reading hengine

end Sys2Proof.Machine
end

section
/-! SUPPORT. A frame whose framing is consistent, read byte by byte (R5, R6, R10, R19, R201). -/

set_option Elab.async false

namespace Sys2Proof.Machine

open Sys2Proof.Safety

/-! ## The declared figures once the header is there (R212) -/

theorem getD_append_of_lt {l m : List Byte} {i : Nat} (h : i < l.length) : (l ++ m).getD i 0 = l.getD i 0 := by
  rw [List.getD_eq_getElem?_getD, List.getElem?_append_left h, List.getD_eq_getElem?_getD]

theorem declaredTotal_append {l : List Byte} (h : 5 ≤ l.length) (m : List Byte) : declaredTotal (l ++ m) = declaredTotal l := by
  rw [declaredTotal, declaredTotal, getD_append_of_lt (by omega), getD_append_of_lt (by omega)]

theorem declaredSlots_append {l : List Byte} (h : 5 ≤ l.length) (m : List Byte) : declaredSlots (l ++ m) = declaredSlots l := by
  rw [declaredSlots, declaredSlots, getD_append_of_lt (by omega)]

/-! ## One slot read (R5) -/

/-- A slot's bytes: tag, length, payload. -/
def slotBytes (x : Byte × List Byte) : List Byte := x.1 :: BitVec.ofNat 8 x.2.length :: x.2

theorem length_slotBytes (x : Byte × List Byte) : (slotBytes x).length = 2 + x.2.length := by
  rw [slotBytes, List.length_cons, List.length_cons]
  omega

/-- What a slot, the `k`th of `count`, leaves in the staging set (R10, R19, R201). -/
def noteSlot (lane : Lane) (kind : Byte) (count : Nat) (active : Bool) (k : Nat) (st : Staging) (x : Byte × List Byte) : Staging :=
  { noteTag active (k == count) k x.1 st with
    request := if lane = .out ∧ kind = kindCycle ∧ x.1 = 0xFE ∧ k = count ∧ 1 ≤ x.2.length ∧ x.2.length ≤ 60 then some x.2
      else st.request }

section
variable {lane : Lane} {r : Reading}

theorem next_of_tag (hparse : r.parse = .tag) (hheader : 5 ≤ r.recv.length) (hmore : r.ordinal ≠ declaredSlots r.recv)
    (hfits : r.recv.length + 2 ≤ declaredTotal r.recv) (tag : Byte) : r.next lane tag = { r with
      recv := r.recv ++ [tag], parse := .length tag, ordinal := r.ordinal + 1
      staging := noteTag r.active (r.ordinal + 1 == declaredSlots r.recv) (r.ordinal + 1) tag r.staging } := by
  have hlength : (r.recv ++ [tag]).length = r.recv.length + 1 := by simp
  unfold Reading.next Reading.read
  rw [hparse]
  dsimp only
  unfold Reading.readTag
  dsimp only
  rw [declaredTotal_append hheader, declaredSlots_append hheader, hlength, if_neg (by omega), if_neg hmore, if_neg (by omega)]

theorem next_of_length {tag b : Byte} (hparse : r.parse = .length tag) (hheader : 5 ≤ r.recv.length)
    (hfits : r.recv.length + 1 + b.toNat ≤ declaredTotal r.recv) : r.next lane b = { r with
      recv := r.recv ++ [b], parse := if b.toNat = 0 then .tag else .payload tag b.toNat b.toNat
      capture := if tag = 0xFE ∧ r.ordinal = declaredSlots r.recv ∧ lane = .out then
        r.recv.getD 0 0 == kindCycle && 1 ≤ b.toNat && b.toNat ≤ 60 else r.capture } := by
  have hlength : (r.recv ++ [b]).length = r.recv.length + 1 := by simp
  unfold Reading.next Reading.read Reading.captures
  rw [hparse]
  dsimp only
  rw [declaredTotal_append hheader, declaredSlots_append hheader, getD_append_of_lt (by omega), hlength, if_neg (by omega)]

theorem foldl_of_payload {tag : Byte} {len left : Nat} (hparse : r.parse = .payload tag len left) (q : List Byte)
    (hq : q.length < left) : q.foldl (Reading.next lane) r = { r with
      recv := r.recv ++ q, parse := .payload tag len (left - q.length) } := by
  induction q generalizing r left with
  | nil =>
    obtain ⟨recv, parse, ordinal, active, capture, staging⟩ := r
    cases hparse
    simp
  | cons b q ih =>
    rw [List.length_cons] at hq
    have hnext : r.next lane b = { r with recv := r.recv ++ [b], parse := .payload tag len (left - 1) } := by
      unfold Reading.next Reading.read
      rw [hparse]
      dsimp only
      rw [if_pos (by omega)]
    rw [List.foldl_cons, hnext, ih (left := left - 1) rfl (by omega)]
    simp only [List.append_assoc, List.singleton_append, List.length_cons]
    congr 2
    omega

theorem next_of_last {tag b : Byte} {len left : Nat} (hparse : r.parse = .payload tag len left) (hlast : left ≤ 1) :
    r.next lane b = { r with
      recv := r.recv ++ [b], parse := .tag, capture := false
      staging := { r.staging with
        request := if r.capture then some ((r.recv ++ [b]).drop ((r.recv ++ [b]).length - len)) else r.staging.request } } := by
  unfold Reading.next Reading.read
  rw [hparse]
  dsimp only
  rw [if_neg (by omega)]

/-- The slot's tag and length read (R5). -/
theorem foldl_slotHead (hparse : r.parse = .tag) (hheader : 5 ≤ r.recv.length) (hmore : r.ordinal ≠ declaredSlots r.recv)
    {tag : Byte} {len : Nat} (hlen : len < 256) (hfits : r.recv.length + 2 + len ≤ declaredTotal r.recv) :
    [tag, BitVec.ofNat 8 len].foldl (Reading.next lane) r = { r with
      recv := r.recv ++ [tag, BitVec.ofNat 8 len], ordinal := r.ordinal + 1
      parse := if len = 0 then .tag else .payload tag len len
      staging := noteTag r.active (r.ordinal + 1 == declaredSlots r.recv) (r.ordinal + 1) tag r.staging
      capture := if tag = 0xFE ∧ r.ordinal + 1 = declaredSlots r.recv ∧ lane = .out then
        r.recv.getD 0 0 == kindCycle && 1 ≤ len && len ≤ 60 else r.capture } := by
  have hnat : (BitVec.ofNat 8 len).toNat = len := by
    rw [BitVec.toNat_ofNat]
    omega
  have hlength : (r.recv ++ [tag]).length = r.recv.length + 1 := by simp
  rw [List.foldl_cons, List.foldl_cons, List.foldl_nil, next_of_tag hparse hheader hmore (by omega),
    next_of_length (tag := tag) rfl (by dsimp only; omega) (by
      dsimp only
      rw [declaredTotal_append hheader, hlength, hnat]
      omega)]
  dsimp only
  rw [hnat, declaredSlots_append hheader, getD_append_of_lt (by omega), List.append_assoc]
  rfl

/-- A whole slot read (R5, R10, R201). -/
theorem foldl_slot (hparse : r.parse = .tag) (hcapture : r.capture = false) (hheader : 5 ≤ r.recv.length)
    (hmore : r.ordinal ≠ declaredSlots r.recv) {x : Byte × List Byte} (hlen : x.2.length < 256)
    (hfits : r.recv.length + 2 + x.2.length ≤ declaredTotal r.recv) :
    (slotBytes x).foldl (Reading.next lane) r = { r with
      recv := r.recv ++ slotBytes x, ordinal := r.ordinal + 1
      staging := noteSlot lane (r.recv.getD 0 0) (declaredSlots r.recv) r.active (r.ordinal + 1) r.staging x } := by
  obtain ⟨tag, payload⟩ := x
  have hsplit : slotBytes (tag, payload) = [tag, BitVec.ofNat 8 payload.length] ++ payload := rfl
  rw [hsplit, List.foldl_append, foldl_slotHead hparse hheader hmore hlen hfits]
  have hcaptured : (if tag = 0xFE ∧ r.ordinal + 1 = declaredSlots r.recv ∧ lane = .out then
      r.recv.getD 0 0 == kindCycle && 1 ≤ payload.length && payload.length ≤ 60 else r.capture) =
      decide (lane = .out ∧ r.recv.getD 0 0 = kindCycle ∧ tag = 0xFE ∧ r.ordinal + 1 = declaredSlots r.recv ∧
        1 ≤ payload.length ∧ payload.length ≤ 60) := by
    rw [hcapture, Bool.eq_iff_iff, decide_eq_true_eq]
    split
    · next h =>
      obtain ⟨htag, hlast, hlane⟩ := h
      simp [htag, hlast, hlane, and_assoc]
    · next h =>
      refine ⟨fun hno => Bool.noConfusion hno, fun hall => absurd ⟨hall.2.2.1, hall.2.2.2.1, hall.1⟩ h⟩
  dsimp only at hlen hfits ⊢
  rw [hcaptured]
  rcases List.eq_nil_or_concat' payload with rfl | ⟨q, b, rfl⟩
  · simp only [List.foldl_nil, List.length_nil, if_true, noteSlot, List.append_nil]
    obtain ⟨recv, parse, ordinal, active, capture, staging⟩ := r
    cases hparse
    cases hcapture
    simp [noteTag]
  · have hpayload : ¬ (q ++ [b]).length = 0 := by simp
    have hlength : (q ++ [b]).length = q.length + 1 := by simp
    rw [if_neg hpayload, List.foldl_append, foldl_of_payload (left := (q ++ [b]).length) rfl q (by omega), List.foldl_cons,
      List.foldl_nil, next_of_last rfl (by omega)]
    have hback : ((r.recv ++ [tag, BitVec.ofNat 8 (q ++ [b]).length] ++ q ++ [b]).drop
        ((r.recv ++ [tag, BitVec.ofNat 8 (q ++ [b]).length] ++ q ++ [b]).length - (q ++ [b]).length)) = q ++ [b] := by
      rw [List.append_assoc _ q [b], List.length_append, Nat.add_sub_cancel]
      exact List.drop_left' rfl
    dsimp only
    rw [hback]
    obtain ⟨recv, parse, ordinal, active, capture, staging⟩ := r
    cases hparse
    cases hcapture
    simp only [noteSlot, decide_eq_true_eq, List.append_assoc]
    rfl

/-! ## The slots of a frame read in order -/

/-- What slots leave in the staging set, the first being the one after the `k`th. -/
def noteSlots (lane : Lane) (kind : Byte) (count : Nat) (active : Bool) : Nat → Staging → List (Byte × List Byte) → Staging
  | _, st, [] => st
  | k, st, x :: rest => noteSlots lane kind count active (k + 1) (noteSlot lane kind count active (k + 1) st x) rest

theorem length_flatMap_slotBytes (l : List (Byte × List Byte)) :
    (l.flatMap slotBytes).length = (l.map (fun x => 2 + x.2.length)).sum := by
  induction l with
  | nil => rfl
  | cons x l ih => rw [List.flatMap_cons, List.length_append, ih, length_slotBytes, List.map_cons, List.sum_cons]

theorem foldl_slots (l : List (Byte × List Byte)) (hparse : r.parse = .tag) (hcapture : r.capture = false)
    (hheader : 5 ≤ r.recv.length) (hmore : r.ordinal + l.length ≤ declaredSlots r.recv) (hlens : ∀ x ∈ l, x.2.length < 256)
    (hfits : r.recv.length + (l.map (fun x => 2 + x.2.length)).sum ≤ declaredTotal r.recv) :
    (l.flatMap slotBytes).foldl (Reading.next lane) r = { r with
      recv := r.recv ++ l.flatMap slotBytes, ordinal := r.ordinal + l.length
      staging := noteSlots lane (r.recv.getD 0 0) (declaredSlots r.recv) r.active r.ordinal r.staging l } := by
  induction l generalizing r with
  | nil => simp [noteSlots]
  | cons x l ih =>
    rw [List.length_cons] at hmore
    rw [List.map_cons, List.sum_cons] at hfits
    have hslot := foldl_slot (lane := lane) hparse hcapture hheader (by omega) (hlens x (List.mem_cons_self ..)) (by omega)
    have hlength : (r.recv ++ slotBytes x).length = r.recv.length + (2 + x.2.length) := by
      rw [List.length_append, length_slotBytes]
    rw [List.flatMap_cons, List.foldl_append, hslot, ih]
    · dsimp only
      rw [declaredSlots_append hheader, getD_append_of_lt (by omega), List.append_assoc, List.length_cons, noteSlots]
      congr 1
      omega
    · exact hparse
    · exact hcapture
    · dsimp only
      omega
    · dsimp only
      rw [declaredSlots_append hheader]
      omega
    · exact fun y hy => hlens y (List.mem_cons_of_mem _ hy)
    · dsimp only
      rw [declaredTotal_append hheader, hlength]
      omega

end

/-! ## The header read (R4, R6, R212) -/

/-- An engine's reading as its frame opens. -/
def openReading (active : Bool) : Reading :=
  { recv := [], parse := .header, ordinal := 0, active := active, capture := false, staging := .empty }

theorem foldl_header (lane : Lane) (active : Bool) {kind : Byte} (hkind : kind = kindCycle ∨ kind = kindIsland)
    (cycle n high low : Byte) : [kind, cycle, n, high, low].foldl (Reading.next lane) (openReading active) =
      { openReading active with
        recv := [kind, cycle, n, high, low]
        parse := if outside 1 40 n.toNat || outside 5 1022 (high.toNat * 256 + low.toNat) then .lost else .tag } := by
  simp [Reading.next, Reading.read, Reading.readHeader, openReading, hkind, declaredSlots, declaredTotal]

/-- The header of a frame of `slots`. -/
def frameHeader (kind cycle : Byte) (slots : List (Byte × List Byte)) : List Byte :=
  [kind, cycle, BitVec.ofNat 8 slots.length] ++ beBytes 2 (5 + (slots.map (fun x => 2 + x.2.length)).sum)

theorem frameBody_eq (kind cycle : Byte) (slots : List (Byte × List Byte)) :
    frameBody kind cycle slots = frameHeader kind cycle slots ++ slots.flatMap slotBytes := rfl

theorem length_frameHeader (kind cycle : Byte) (slots : List (Byte × List Byte)) : (frameHeader kind cycle slots).length = 5 := by
  rw [frameHeader, List.length_append, length_beBytes]
  rfl

section
variable {kind cycle : Byte} {slots : List (Byte × List Byte)}

theorem declaredTotal_frameHeader (hfits : FrameFits kind slots) :
    declaredTotal (frameHeader kind cycle slots) = 5 + (slots.map (fun x => 2 + x.2.length)).sum := by
  obtain ⟨-, -, -, -, htotal⟩ := hfits
  generalize hsum : (slots.map (fun x => 2 + x.2.length)).sum = t at htotal
  simp only [frameHeader, hsum, declaredTotal, beBytes]
  simp
  omega

theorem declaredSlots_frameHeader (hfits : FrameFits kind slots) : declaredSlots (frameHeader kind cycle slots) = slots.length := by
  obtain ⟨-, -, hcount, -, -⟩ := hfits
  simp only [frameHeader, declaredSlots]
  simp
  omega

theorem foldl_frameHeader (lane : Lane) (active : Bool) (hfits : FrameFits kind slots) :
    (frameHeader kind cycle slots).foldl (Reading.next lane) (openReading active) =
      { openReading active with recv := frameHeader kind cycle slots, parse := .tag } := by
  have htotal := declaredTotal_frameHeader (cycle := cycle) hfits
  have hcount := declaredSlots_frameHeader (cycle := cycle) hfits
  obtain ⟨hkind, hone, hforty, -, hlong⟩ := hfits
  obtain ⟨high, low, hbytes⟩ : ∃ high low, frameHeader kind cycle slots = [kind, cycle, BitVec.ofNat 8 slots.length, high, low] :=
    ⟨_, _, rfl⟩
  rw [hbytes] at htotal hcount ⊢
  rw [foldl_header lane active hkind]
  have hnat : (BitVec.ofNat 8 slots.length).toNat = slots.length := hcount
  have hsum : high.toNat * 256 + low.toNat = 5 + (slots.map (fun x => 2 + x.2.length)).sum := htotal
  rw [hnat, hsum]
  have hgood : (outside 1 40 slots.length || outside 5 1022 (5 + (slots.map (fun x => 2 + x.2.length)).sum)) = false := by
    simp only [outside, Bool.or_eq_false_iff, decide_eq_false_iff_not]
    omega
  rw [hgood]
  rfl

/-- The reading at the boundary behind the first slots of a frame. -/
theorem foldl_frame_before (lane : Lane) (active : Bool) (hfits : FrameFits kind slots) {before after : List (Byte × List Byte)}
    (hslots : slots = before ++ after) :
    (frameHeader kind cycle slots ++ before.flatMap slotBytes).foldl (Reading.next lane) (openReading active) =
      { recv := frameHeader kind cycle slots ++ before.flatMap slotBytes, parse := .tag, ordinal := before.length
        active := active, capture := false
        staging := noteSlots lane kind slots.length active 0 .empty before } := by
  have htotal := declaredTotal_frameHeader (cycle := cycle) hfits
  have hcount := declaredSlots_frameHeader (cycle := cycle) hfits
  have hlength := length_frameHeader kind cycle slots
  rw [List.foldl_append, foldl_frameHeader lane active hfits, foldl_slots before]
  · have hzero : (openReading active).ordinal + before.length = before.length := Nat.zero_add _
    dsimp only
    rw [hcount, hzero]
    rfl
  · rfl
  · rfl
  · dsimp only
    omega
  · dsimp only
    rw [hcount, hslots, List.length_append]
    exact (Nat.zero_add before.length).le.trans (Nat.le_add_right ..)
  · obtain ⟨-, -, -, hlens, -⟩ := hfits
    exact fun x hx => hlens x (hslots ▸ List.mem_append_left _ hx)
  · dsimp only
    rw [htotal, hlength, hslots, List.map_append, List.sum_append]
    omega

end

/-! ## What is noted of a frame (R10, R19, R201) -/

section
variable {lane : Lane} {kind : Byte} {count : Nat} {active : Bool}

theorem noteSlots_append (k : Nat) (st : Staging) (l m : List (Byte × List Byte)) :
    noteSlots lane kind count active k st (l ++ m) =
      noteSlots lane kind count active (k + l.length) (noteSlots lane kind count active k st l) m := by
  induction l generalizing k st with
  | nil => rfl
  | cons x l ih =>
    rw [List.cons_append, noteSlots, noteSlots, ih, List.length_cons]
    congr 1
    omega

theorem misplaced_noteSlots (k : Nat) (st : Staging) (l : List (Byte × List Byte)) :
    (noteSlots lane kind count active k st l).misplaced = st.misplaced ++
      ((List.range l.length).filter (fun i => decide (k + i + 1 ≠ count) && (l.map Prod.fst)[i]? == some 0xFE)).map (k + · + 1) := by
  induction l generalizing k st with
  | nil => simp [noteSlots]
  | cons x l ih =>
    have hhead : (noteSlot lane kind count active (k + 1) st x).misplaced =
        st.misplaced ++ if k + 1 ≠ count ∧ x.1 = 0xFE then [k + 1] else [] := by
      have hcond : (x.1 = 0xFE ∧ (k + 1 == count) = false) ↔ (k + 1 ≠ count ∧ x.1 = 0xFE) := by
        rw [beq_eq_false_iff_ne, and_comm]
      simp only [noteSlot, noteTag, hcond]
      split
      · rfl
      · exact (List.append_nil _).symm
    rw [noteSlots, ih, hhead, List.append_assoc, List.length_cons, List.range_succ_eq_map, List.filter_cons, List.filter_map]
    congr 1
    have hrest : ((List.range l.length).filter ((fun i => decide (k + i + 1 ≠ count) &&
        ((x :: l).map Prod.fst)[i]? == some 0xFE) ∘ Nat.succ)) =
        (List.range l.length).filter (fun i => decide (k + 1 + i + 1 ≠ count) && (l.map Prod.fst)[i]? == some 0xFE) := by
      refine List.filter_congr fun i _ => ?_
      have hsum : k + i.succ + 1 = k + 1 + i + 1 := by omega
      simp only [Function.comp_apply, hsum]
      rfl
    have hshift : ∀ m : List Nat, (m.map Nat.succ).map (k + · + 1) = m.map (k + 1 + · + 1) := by
      intro m
      rw [List.map_map]
      refine List.map_congr_left fun i _ => ?_
      simp only [Function.comp_apply]
      omega
    rw [hrest]
    by_cases hnote : k + 1 ≠ count ∧ x.1 = 0xFE
    · rw [if_pos hnote, if_pos (by simp [hnote.1, hnote.2]), List.map_cons, hshift]
      rfl
    · rw [if_neg hnote, if_neg (by simpa [not_and] using hnote), hshift]
      rfl

theorem mem_tags_noteSlots (k : Nat) (st : Staging) (l : List (Byte × List Byte)) (tag : Byte) :
    tag ∈ (noteSlots lane kind count active k st l).tags ↔ tag ∈ st.tags ∨ (active = true ∧ tag ∈ l.map Prod.fst) := by
  induction l generalizing k st with
  | nil => simp [noteSlots]
  | cons x l ih =>
    have hhead : tag ∈ (noteSlot lane kind count active (k + 1) st x).tags ↔ tag ∈ st.tags ∨ (active = true ∧ tag = x.1) := by
      simp only [noteSlot, noteTag]
      cases active with
      | false => simp
      | true =>
        by_cases hin : x.1 ∈ st.tags
        · simp [hin]
          exact fun h => h ▸ hin
        · simp [hin]
    rw [noteSlots, ih, hhead, List.map_cons, List.mem_cons]
    tauto

theorem request_noteSlots_of_before (k : Nat) (st : Staging) (l : List (Byte × List Byte)) (hbefore : k + l.length < count) :
    (noteSlots lane kind count active k st l).request = st.request := by
  induction l generalizing k st with
  | nil => rfl
  | cons x l ih =>
    rw [List.length_cons] at hbefore
    rw [noteSlots, ih _ _ (by omega)]
    exact if_neg fun h => by omega

end

end Sys2Proof.Machine
end

section
/-! SUPPORT. A frame found sound is one (R6), and the bytes of a frame in passage on the out lane settled (R4 to R10). -/

set_option Elab.async false

namespace Sys2Proof.Machine

open Sys2Proof.Safety

/-! ## What has been read, by where the walk stands (R5, R6) -/

/-- Five bytes that begin a frame: a known kind, 1 to 40 slots, a total length of 5 to 1022. -/
def Headed (h : List Byte) : Prop :=
  h.length = 5 ∧ (h.getD 0 0 = kindCycle ∨ h.getD 0 0 = kindIsland) ∧ (1 ≤ declaredSlots h ∧ declaredSlots h ≤ 40) ∧
    (5 ≤ declaredTotal h ∧ declaredTotal h ≤ 1022)

def ShortPayloads (slots : List (Byte × List Byte)) : Prop := ∀ x ∈ slots, x.2.length < 256

theorem ShortPayloads.snoc {slots : List (Byte × List Byte)} (h : ShortPayloads slots) {x : Byte × List Byte} (hx : x.2.length < 256) :
    ShortPayloads (slots ++ [x]) := by
  intro y hy
  rcases List.mem_append.1 hy with hy | hy
  · exact h y hy
  · exact List.mem_singleton.1 hy ▸ hx

/-- The bytes read are a header, whole slots and the beginning of what comes next. -/
def Shaped (r : Reading) : Prop :=
  match r.parse with
  | .header => r.recv.length ≤ 4 ∧ r.ordinal = 0 ∧ (r.recv ≠ [] → r.recv.getD 0 0 = kindCycle ∨ r.recv.getD 0 0 = kindIsland)
  | .tag => ∃ h slots, Headed h ∧ ShortPayloads slots ∧ r.recv = h ++ slots.flatMap slotBytes ∧ r.ordinal = slots.length ∧
      r.recv.length ≤ declaredTotal h
  | .length tag => ∃ h slots, Headed h ∧ ShortPayloads slots ∧ r.recv = h ++ slots.flatMap slotBytes ++ [tag] ∧
      r.ordinal = slots.length + 1 ∧ r.recv.length < declaredTotal h
  | .payload tag len left => ∃ h slots q, Headed h ∧ ShortPayloads slots ∧
      r.recv = h ++ slots.flatMap slotBytes ++ [tag, BitVec.ofNat 8 len] ++ q ∧ r.ordinal = slots.length + 1 ∧ len < 256 ∧
      q.length + left = len ∧ 1 ≤ left ∧ r.recv.length + left ≤ declaredTotal h
  | .check => ∃ h slots m, Headed h ∧ ShortPayloads slots ∧ r.recv = h ++ slots.flatMap slotBytes ++ m ∧
      slots.length = declaredSlots h ∧ (h ++ slots.flatMap slotBytes).length = declaredTotal h
  | .lost => True

section
variable {h : List Byte} (hheaded : Headed h)
include hheaded

theorem Headed.declaredTotal (m : List Byte) : declaredTotal (h ++ m) = declaredTotal h :=
  declaredTotal_append hheaded.1.ge m

theorem Headed.declaredSlots (m : List Byte) : declaredSlots (h ++ m) = declaredSlots h :=
  declaredSlots_append hheaded.1.ge m

end

theorem flatMap_snoc (slots : List (Byte × List Byte)) (x : Byte × List Byte) :
    (slots ++ [x]).flatMap slotBytes = slots.flatMap slotBytes ++ slotBytes x := by
  rw [List.flatMap_append, List.flatMap_singleton]

theorem shaped_readHeader {r : Reading} (hlength : r.recv.length ≤ 5) (hfirst : r.recv ≠ []) (hordinal : r.ordinal = 0)
    (hparse : r.parse = .header)
    (hkind : 2 ≤ r.recv.length → r.recv.getD 0 0 = kindCycle ∨ r.recv.getD 0 0 = kindIsland) : Shaped r.readHeader := by
  unfold Reading.readHeader
  by_cases hone : r.recv.length = 1
  · rw [if_pos hone]
    split
    · next hknown =>
      rw [Shaped, hparse]
      exact ⟨by omega, hordinal, fun _ => hknown⟩
    · trivial
  · rw [if_neg hone]
    have hpos := List.length_pos_iff.2 hfirst
    have hknown := hkind (by omega)
    by_cases hfive : r.recv.length = 5
    · rw [if_pos hfive]
      by_cases hbad : (outside 1 40 (declaredSlots r.recv) || outside 5 1022 (declaredTotal r.recv)) = true
      · rw [if_pos hbad]
        trivial
      · rw [if_neg hbad]
        simp only [outside, Bool.or_eq_true, decide_eq_true_eq] at hbad
        exact ⟨r.recv, [], ⟨hfive, hknown, by omega, by omega⟩, fun x hx => absurd hx (List.not_mem_nil),
          (List.append_nil _).symm, hordinal, by dsimp only; omega⟩
    · rw [if_neg hfive, Shaped, hparse]
      exact ⟨by omega, hordinal, fun _ => hknown⟩

theorem shaped_readTag {r : Reading} {h : List Byte} {slots : List (Byte × List Byte)} (hheaded : Headed h)
    (hshort : ShortPayloads slots) {b : Byte} (hrecv : r.recv = h ++ slots.flatMap slotBytes ++ [b]) (hordinal : r.ordinal = slots.length)
    (hfits : (h ++ slots.flatMap slotBytes).length ≤ declaredTotal h) : Shaped (r.readTag b) := by
  have htotal : declaredTotal r.recv = declaredTotal h := by rw [hrecv, List.append_assoc, hheaded.declaredTotal]
  have hcount : declaredSlots r.recv = declaredSlots h := by rw [hrecv, List.append_assoc, hheaded.declaredSlots]
  have hlength : r.recv.length = (h ++ slots.flatMap slotBytes).length + 1 := by
    rw [hrecv, List.length_append]
    rfl
  unfold Reading.readTag
  rw [htotal, hcount]
  by_cases hend : r.recv.length = declaredTotal h + 1
  · rw [if_pos hend]
    by_cases hall : r.ordinal = declaredSlots h
    · rw [if_pos hall]
      exact ⟨h, slots, [b], hheaded, hshort, hrecv, by omega, by omega⟩
    · rw [if_neg hall]
      trivial
  · rw [if_neg hend]
    by_cases hall : r.ordinal = declaredSlots h
    · rw [if_pos hall]
      trivial
    · rw [if_neg hall]
      by_cases hfull : r.recv.length = declaredTotal h
      · rw [if_pos hfull]
        trivial
      · rw [if_neg hfull]
        exact ⟨h, slots, hheaded, hshort, hrecv, by dsimp only; omega, by dsimp only; omega⟩

/-- A byte read keeps the shape. -/
theorem Shaped.next {r : Reading} (hr : Shaped r) (lane : Lane) (b : Byte) : Shaped (r.next lane b) := by
  have hlast : (r.recv ++ [b]).length = r.recv.length + 1 := by simp
  unfold Shaped at hr
  unfold Reading.next Reading.read
  cases hparse : r.parse with
  | header =>
    rw [hparse] at hr
    obtain ⟨hshort, hordinal, hkind⟩ := hr
    refine shaped_readHeader (by dsimp only; omega) (by simp) hordinal rfl fun htwo => ?_
    dsimp only at htwo ⊢
    rw [hlast] at htwo
    rw [getD_append_of_lt (by omega)]
    exact hkind (List.length_pos_iff.1 (by omega))
  | tag =>
    rw [hparse] at hr
    obtain ⟨h, slots, hheaded, hshort, hrecv, hordinal, hfits⟩ := hr
    exact shaped_readTag hheaded hshort (by dsimp only; rw [hrecv]) hordinal (hrecv ▸ hfits)
  | length tag =>
    rw [hparse] at hr
    obtain ⟨h, slots, hheaded, hshort, hrecv, hordinal, hfits⟩ := hr
    have htotal : declaredTotal (r.recv ++ [b]) = declaredTotal h := by
      rw [hrecv, List.append_assoc, List.append_assoc, hheaded.declaredTotal]
    have hbyte : BitVec.ofNat 8 b.toNat = b := BitVec.ofNat_toNat .. |>.trans (by simp)
    dsimp only
    rw [htotal]
    by_cases hlong : declaredTotal h < (r.recv ++ [b]).length + b.toNat
    · rw [if_pos hlong]
      trivial
    · rw [if_neg hlong]
      by_cases hempty : b.toNat = 0
      · rw [if_pos hempty]
        refine ⟨h, slots ++ [(tag, [])], hheaded, hshort.snoc (Nat.zero_lt_succ 255), ?_, ?_, ?_⟩
        · have hzero : b = 0 := BitVec.eq_of_toNat_eq hempty
          dsimp only
          rw [flatMap_snoc, hrecv, hzero]
          simp [slotBytes]
        · dsimp only
          rw [hordinal, List.length_append]
          rfl
        · dsimp only
          omega
      · rw [if_neg hempty]
        refine ⟨h, slots, [], hheaded, hshort, ?_, hordinal, b.isLt, ?_, ?_, ?_⟩
        · dsimp only
          rw [hbyte, hrecv]
          simp
        · simp
        · omega
        · dsimp only
          omega
  | payload tag len left =>
    rw [hparse] at hr
    obtain ⟨h, slots, q, hheaded, hshort, hrecv, hordinal, hlen, hleft, hpos, hfits⟩ := hr
    dsimp only
    by_cases hmore : 1 < left
    · rw [if_pos hmore]
      refine ⟨h, slots, q ++ [b], hheaded, hshort, ?_, hordinal, hlen, ?_, by omega, ?_⟩
      · dsimp only
        rw [hrecv, List.append_assoc _ q]
      · rw [List.length_append, List.length_singleton]
        omega
      · dsimp only
        omega
    · rw [if_neg hmore]
      have hwhole : (q ++ [b]).length = len := by
        rw [List.length_append, List.length_singleton]
        omega
      refine ⟨h, slots ++ [(tag, q ++ [b])], hheaded, hshort.snoc (by rw [hwhole]; exact hlen), ?_, ?_, ?_⟩
      · dsimp only
        rw [flatMap_snoc, hrecv, slotBytes, hwhole]
        simp
      · dsimp only
        rw [hordinal, List.length_append]
        rfl
      · dsimp only
        omega
  | check =>
    rw [hparse] at hr
    obtain ⟨h, slots, m, hheaded, hshort, hrecv, hcount, htotal⟩ := hr
    exact ⟨h, slots, m ++ [b], hheaded, hshort, by dsimp only; rw [hrecv, List.append_assoc], hcount, htotal⟩
  | lost => trivial

theorem shaped_foldl (lane : Lane) (active : Bool) (bytes : List Byte) :
    Shaped (bytes.foldl (Reading.next lane) (openReading active)) := by
  have hkept : ∀ (l : List Byte) (r : Reading), Shaped r → Shaped (l.foldl (Reading.next lane) r) := by
    intro l
    induction l with
    | nil => exact fun _ hr => hr
    | cons b l ih => exact fun r hr => ih _ (hr.next lane b)
  exact hkept bytes _ ⟨Nat.zero_le 4, rfl, fun hno => absurd rfl hno⟩

theorem recv_foldl (lane : Lane) (bytes : List Byte) (r : Reading) : (bytes.foldl (Reading.next lane) r).recv = r.recv ++ bytes := by
  induction bytes generalizing r with
  | nil => exact (List.append_nil _).symm
  | cons b bytes ih =>
    have hone : (r.next lane b).recv = r.recv ++ [b] := by
      unfold Reading.next Reading.read Reading.readHeader Reading.readTag
      dsimp only
      split <;> (repeat' split) <;> rfl
    rw [List.foldl_cons, ih, hone, List.append_assoc]
    rfl

/-! ## The check (R6, R211) -/

/-- Whether what has been read is a frame with a matching check. -/
def Reading.sound (r : Reading) : Bool :=
  r.parse == .check && r.recv.length == declaredTotal r.recv + 2 &&
    beNat (r.recv.drop (declaredTotal r.recv)) == (crc16 (r.recv.take (declaredTotal r.recv))).toNat

theorem sound_reading (e : Engine) : e.sound = e.reading.sound := rfl

theorem two_bytes_of_beNat {m : List Byte} (hm : m.length = 2) {n : Nat} (h : beNat m = n) : m = beBytes 2 n := by
  have hback := beBytes_beNat m 0
  rw [hm, Nat.zero_mul, Nat.zero_add, h] at hback
  exact hback.symm

theorem five_bytes {h : List Byte} (hlength : h.length = 5) : ∃ kind cycle n high low, h = [kind, cycle, n, high, low] := by
  obtain ⟨kind, t, rfl⟩ := List.exists_cons_of_length_eq_add_one hlength
  obtain ⟨cycle, t, rfl⟩ := List.exists_cons_of_length_eq_add_one (Nat.succ.inj hlength)
  obtain ⟨n, t, rfl⟩ := List.exists_cons_of_length_eq_add_one (Nat.succ.inj (Nat.succ.inj hlength))
  obtain ⟨high, low, rfl⟩ := List.length_eq_two.1 (Nat.succ.inj (Nat.succ.inj (Nat.succ.inj hlength)))
  exact ⟨kind, cycle, n, high, low, rfl⟩

theorem frameHeader_of_headed {h : List Byte} {slots : List (Byte × List Byte)} (hheaded : Headed h)
    (hcount : slots.length = declaredSlots h) (htotal : (h ++ slots.flatMap slotBytes).length = declaredTotal h) :
    ∃ kind cycle, (kind = 0x5A ∨ kind = 0xA5) ∧ h = frameHeader kind cycle slots := by
  obtain ⟨hlength, hkind, -, -⟩ := hheaded
  rw [List.length_append, hlength, length_flatMap_slotBytes] at htotal
  obtain ⟨kind, cycle, n, high, low, rfl⟩ := five_bytes hlength
  have hn : n = BitVec.ofNat 8 slots.length := by
    rw [hcount]
    exact (BitVec.ofNat_toNat 8 n |>.trans (by simp)).symm
  have hsum : beNat [high, low] = 5 + (slots.map (fun x => 2 + x.2.length)).sum := by
    rw [htotal]
    simp [beNat, declaredTotal]
  have hbytes := two_bytes_of_beNat rfl hsum
  refine ⟨kind, cycle, hkind, ?_⟩
  rw [frameHeader, ← hbytes, ← hn]
  rfl

theorem frameSound_of_shaped {r : Reading} (hshape : Shaped r) (hsound : r.sound = true) : FrameSound r.recv := by
  rw [Reading.sound, Bool.and_eq_true, Bool.and_eq_true, beq_iff_eq, beq_iff_eq, beq_iff_eq] at hsound
  obtain ⟨⟨hparse, hlength⟩, hcheck⟩ := hsound
  rw [Shaped, hparse] at hshape
  obtain ⟨h, slots, m, hheaded, hshort, hrecv, hcount, htotal⟩ := hshape
  have hdeclared : declaredTotal r.recv = (h ++ slots.flatMap slotBytes).length := by
    rw [hrecv, List.append_assoc, hheaded.declaredTotal, htotal]
  have htwo : m.length = 2 := by
    rw [hdeclared, hrecv, List.length_append] at hlength
    omega
  rw [hdeclared, hrecv, List.take_left' rfl, List.drop_left' rfl] at hcheck
  obtain ⟨kind, cycle, hkind, hh⟩ := frameHeader_of_headed hheaded hcount htotal
  obtain ⟨hfive, -, ⟨hone, hforty⟩, -, hlong⟩ := hheaded
  rw [List.length_append, hfive, length_flatMap_slotBytes] at htotal
  refine ⟨kind, cycle, slots, ⟨hkind, by omega, by omega, hshort, by omega⟩, ?_⟩
  rw [frameBody_eq, ← hh, hrecv, two_bytes_of_beNat htwo hcheck]

theorem sound_of_frameSound {bytes : List Byte} (h : FrameSound bytes) (lane : Lane) (active : Bool) :
    (bytes.foldl (Reading.next lane) (openReading active)).sound = true := by
  obtain ⟨kind, cycle, slots, hfits, rfl⟩ := h
  have hbody := foldl_frame_before (cycle := cycle) lane active hfits (before := slots) (after := []) (List.append_nil _).symm
  have htotal := declaredTotal_frameHeader (cycle := cycle) hfits
  have hcount := declaredSlots_frameHeader (cycle := cycle) hfits
  have hlength := length_frameHeader kind cycle slots
  rw [← frameBody_eq] at hbody
  have hdeclared : ∀ m, declaredTotal (frameBody kind cycle slots ++ m) = (frameBody kind cycle slots).length := by
    intro m
    rw [frameBody_eq, List.append_assoc, declaredTotal_append hlength.ge, htotal, List.length_append, hlength,
      length_flatMap_slotBytes]
  have hslots : ∀ m, declaredSlots (frameBody kind cycle slots ++ m) = slots.length := by
    intro m
    rw [frameBody_eq, List.append_assoc, declaredSlots_append hlength.ge, hcount]
  generalize hcrc : crc16 (frameBody kind cycle slots) = crc
  obtain ⟨high, low, hcheck⟩ : ∃ high low, beBytes 2 crc.toNat = [high, low] := ⟨_, _, rfl⟩
  have hread : (frameBody kind cycle slots ++ beBytes 2 crc.toNat).foldl (Reading.next lane) (openReading active) =
      { recv := frameBody kind cycle slots ++ [high] ++ [low], parse := .check, ordinal := slots.length, active := active
        capture := false, staging := noteSlots lane kind slots.length active 0 .empty slots } := by
    rw [List.foldl_append, hbody, hcheck, List.foldl_cons, List.foldl_cons, List.foldl_nil]
    have hfirst : Reading.next lane { recv := frameBody kind cycle slots, parse := .tag, ordinal := slots.length, active := active
                                      capture := false, staging := noteSlots lane kind slots.length active 0 .empty slots } high =
        { recv := frameBody kind cycle slots ++ [high], parse := .check, ordinal := slots.length, active := active
          capture := false, staging := noteSlots lane kind slots.length active 0 .empty slots } := by
      unfold Reading.next Reading.read
      dsimp only
      unfold Reading.readTag
      dsimp only
      rw [hdeclared, hslots, if_pos (by rw [List.length_append]; rfl), if_pos rfl]
    rw [hfirst]
    rfl
  have hnat : beNat (beBytes 2 crc.toNat) = crc.toNat := by
    rw [beNat_beBytes]
    exact Nat.mod_eq_of_lt crc.isLt
  rw [hread, Reading.sound]
  dsimp only
  rw [List.append_assoc, hdeclared, List.take_left' rfl, List.drop_left' rfl, hcrc]
  have hpair : ([high] ++ [low] : List Byte) = beBytes 2 crc.toNat := hcheck.symm
  rw [hpair, hnat, List.length_append, length_beBytes]
  simp

end Sys2Proof.Machine
end

section
/-! SUPPORT. FRAME_BYTE on the out lane settled (R4 to R10, R31). -/

set_option Elab.async false

namespace Sys2Proof.Machine

open Sys2Proof.Safety

theorem reading_fed {lane : Lane} (bytes : List Byte) {u : State} (hroom : (u.engine lane).recv.length + bytes.length ≤ 1024) :
    ((bytes.foldl (fun v b => feedByte lane b v) u).engine lane).reading =
      bytes.foldl (Reading.next lane) (u.engine lane).reading := by
  induction bytes generalizing u with
  | nil => rfl
  | cons b bytes ih =>
    rw [List.length_cons] at hroom
    have hread := reading_feedByte (lane := lane) (b := b) (s := u) (by omega)
    have hrecv : ((feedByte lane b u).engine lane).recv = (u.engine lane).recv ++ [b] :=
      (congrArg Reading.recv hread).trans (recv_foldl lane [b] (u.engine lane).reading)
    rw [List.foldl_cons, List.foldl_cons, ih, hread]
    rw [hrecv, List.length_append, List.length_singleton]
    omega

/-- A byte of a frame in passage on the out lane (R4, R8). -/
theorem feedByte_out {b : Byte} {s : State} (hroom : s.outLane.recv.length < 1024) (hdue : s.due = []) :
    (feedByte .out b s).outLane.recv = s.outLane.recv ++ [b] ∧
    (feedByte .out b s).p1.bytes ++ (feedByte .out b s).outLane.held =
      s.p1.bytes ++ s.outLane.held ++ [s.outLane.overlay.headD b] ∧
    (feedByte .out b s).outLane.held.length = min (s.outLane.held.length + 1) (max 2 (feedByte .out b s).outLane.buffered) ∧
    BringsDue .out b s (feedByte .out b s) ∧
    feedByte .out b s = { s with
      p1 := { s.p1 with bytes := (feedByte .out b s).p1.bytes }, outLane := (feedByte .out b s).outLane
      due := (feedByte .out b s).due } := by
  obtain ⟨e, d, hfeed, hrecv, hheld, hbrings⟩ := feedByte_of_room (lane := .out) (b := b) hroom
  have hbrings := hbrings hdue
  have hlength : e.held.length = s.outLane.held.length + 1 := by
    rw [hheld, List.length_append]
    rfl
  have hfed : feedByte .out b s = { s with
      p1 := { s.p1 with bytes := s.p1.bytes ++ e.held.take (e.held.length - max 2 e.buffered) }
      outLane := { e with held := e.held.drop (e.held.length - max 2 e.buffered) }, due := s.due ++ d } := by
    rw [hfeed, if_neg (fun h => by cases h.1)]
    rfl
  rw [hfed] at hbrings ⊢
  refine ⟨hrecv, ?_, (length_drop_held ..).trans (by rw [hlength]), hbrings, rfl⟩
  dsimp only
  rw [List.append_assoc, List.take_append_drop, hheld, List.append_assoc]
  rfl

/-- Where a byte of the out lane's frame comes from, and the state that its source has been taken from (R22, R181). -/
def TakenFrom (source : ByteSource) (b : Byte) (s u : State) : Prop :=
  (source = .p0 b ∧ s.rx0.mode = .passing ∧ u = s) ∨
  (source = .holdBuffer ∧ s.outLane.isOpen = true ∧ s.outLane.source = .holdBuffer ∧
    ∃ rest, s.hold.bytes = b :: rest ∧ u = { s with hold := { s.hold with bytes := rest } }) ∨
  (source = .island ∧ s.outLane.isOpen = true ∧ s.outLane.source = .island ∧
    ∃ rest, s.islandBytes = b :: rest ∧ u = { s with islandBytes := rest })

theorem frameByte_of_takenFrom {source : ByteSource} {b : Byte} {s u : State} (h : TakenFrom source b s u) :
    frameByte source s = feedByte .out b u ∧ ∃ (hold : HoldBuffer) (island : List Byte),
      u = { s with hold := hold, islandBytes := island } := by
  rcases h with ⟨rfl, hmode, rfl⟩ | ⟨rfl, hopen, hsource, rest, hbytes, rfl⟩ | ⟨rfl, hopen, hsource, rest, hbytes, rfl⟩
  · exact ⟨by rw [frameByte, byteAtP0, hmode], u.hold, u.islandBytes, rfl⟩
  · refine ⟨?_, _, _, rfl⟩
    rw [frameByte, byteFromHold, if_pos (sending_eq_true_iff.2 ⟨hopen, hsource⟩)]
    simp only [hbytes]
  · refine ⟨?_, _, _, rfl⟩
    rw [frameByte, byteFromIsland, if_pos (sending_eq_true_iff.2 ⟨hopen, hsource⟩)]
    simp only [hbytes]

end Sys2Proof.Machine

namespace Sys2Proof.Safety

open Sys2Proof.Machine

theorem outLaneByte_taken {source : ByteSource} {b : Byte} {s u : State} (hdue : s.due = []) (h : TakenFrom source b s u) :
    exec (.frameByte source) s = .next (feedByte .out b u) ∧
    (1024 ≤ s.outLane.recv.length → exec (.frameByte source) s = .next { u with due := [.overlengthCut .out] }) ∧
    (s.outLane.recv.length < 1024 → ∃ t, exec (.frameByte source) s = .next t ∧
      t.outLane.recv = s.outLane.recv ++ [b] ∧
      t.p1.bytes ++ t.outLane.held = s.p1.bytes ++ s.outLane.held ++ [s.outLane.overlay.headD b] ∧
      t.outLane.held.length = min (s.outLane.held.length + 1) (max 2 t.outLane.buffered) ∧
      (s.outLane.recv.length = 4 → s.outLane.parse = .header → t.due = [.frameStart .out]) ∧
      BringsDue .out b s t ∧
      t = { u with p1 := { s.p1 with bytes := t.p1.bytes }, outLane := t.outLane, due := t.due }) := by
  obtain ⟨htaken, hold, island, hu⟩ := frameByte_of_takenFrom h
  have hexec : exec (.frameByte source) s = .next (feedByte .out b u) :=
    (congrArg (fun v => Host.Outcome.next (frameByte source v)) (settle_of_due_nil hdue)).trans (congrArg Host.Outcome.next htaken)
  refine ⟨hexec, fun hlong => ?_, fun hroom => ?_⟩
  · have hlong' : 1024 ≤ (u.engine .out).recv.length := by
      rw [hu]
      exact hlong
    rw [hexec, feedByte]
    dsimp only
    rw [if_pos hlong', State.addDue, hu, hdue]
    rfl
  · subst hu
    obtain ⟨hrecv, hbytes, hheld, hbrings, hrest⟩ := feedByte_out (b := b) (s := { s with hold := hold, islandBytes := island })
      hroom hdue
    refine ⟨_, hexec, hrecv, hbytes, hheld, fun hfour hparse => ?_, hbrings, hrest⟩
    obtain ⟨hheader, -, -, -⟩ := hbrings
    have hfive : (s.outLane.recv ++ [b]).length = 5 := by
      rw [List.length_append, hfour]
      rfl
    exact (hheader hparse).trans (if_pos hfive)

/-- What an engine has noted of a whole frame, and where it stands on the way (R5, R10, R19, R201). -/
theorem reading_of_frame {lane : Lane} {active : Bool} {kind cycle : Byte} {slots : List (Byte × List Byte)}
    (hfits : FrameFits kind slots) {f : List Byte → Engine}
    (hread : ∀ bytes : List Byte, bytes.length ≤ 1024 → (f bytes).reading = bytes.foldl (Reading.next lane) (openReading active)) :
    (f (frameBody kind cycle slots)).staging = noteSlots lane kind slots.length active 0 .empty slots ∧
    ∀ before tag payload after n, slots = before ++ (tag, payload) :: after →
      n = 5 + (before.map (fun x => 2 + x.2.length)).sum →
      (f ((frameBody kind cycle slots).take (n + 1))).parse = .length tag ∧
      (f ((frameBody kind cycle slots).take (n + 1))).ordinal = before.length + 1 ∧
      (payload ≠ [] → (f ((frameBody kind cycle slots).take (n + 1 + payload.length))).parse = .payload tag payload.length 1) := by
  have hheader := length_frameHeader kind cycle slots
  have htotal := declaredTotal_frameHeader (cycle := cycle) hfits
  have hcount := declaredSlots_frameHeader (cycle := cycle) hfits
  have hbodylength : (frameBody kind cycle slots).length ≤ 1022 := by
    obtain ⟨-, -, -, -, hlong⟩ := hfits
    rw [frameBody_eq, List.length_append, hheader, length_flatMap_slotBytes]
    exact hlong
  refine ⟨?_, fun before tag payload after n hslots hn => ?_⟩
  · have hwhole := foldl_frame_before (cycle := cycle) lane active hfits (before := slots) (after := []) (List.append_nil _).symm
    rw [← frameBody_eq, ← hread _ (by omega)] at hwhole
    exact congrArg Reading.staging hwhole
  · have hbefore := foldl_frame_before (cycle := cycle) lane active hfits hslots
    have hn' : (frameHeader kind cycle slots ++ before.flatMap slotBytes).length = n := by
      rw [List.length_append, hheader, length_flatMap_slotBytes, hn]
    have hsplit : frameBody kind cycle slots = (frameHeader kind cycle slots ++ before.flatMap slotBytes) ++
        ([tag, BitVec.ofNat 8 payload.length] ++ payload ++ after.flatMap slotBytes) := by
      rw [frameBody_eq, congrArg (List.flatMap slotBytes) hslots, List.flatMap_append, List.flatMap_cons, List.append_assoc]
      rfl
    have hslotslength : before.length + 1 ≤ slots.length := by
      rw [hslots, List.length_append, List.length_cons]
      omega
    have hpayload : payload.length < 256 := by
      obtain ⟨-, -, -, hlens, -⟩ := hfits
      exact hlens (tag, payload) (hslots ▸ List.mem_append_right _ (List.mem_cons_self ..))
    have hdeclared : n + 2 + payload.length ≤ declaredTotal (frameHeader kind cycle slots ++ before.flatMap slotBytes) := by
      rw [declaredTotal_append hheader.ge, htotal, congrArg (List.map _) hslots, List.map_append, List.sum_append, List.map_cons,
        List.sum_cons, hn]
      dsimp only
      omega
    have hdeclaredslots : declaredSlots (frameHeader kind cycle slots ++ before.flatMap slotBytes) = slots.length := by
      rw [declaredSlots_append hheader.ge, hcount]
    have htake : ∀ q m, [tag, BitVec.ofNat 8 payload.length] ++ payload ++ after.flatMap slotBytes = q ++ m →
        (f ((frameBody kind cycle slots).take (n + q.length))).reading = q.foldl (Reading.next lane)
          { recv := frameHeader kind cycle slots ++ before.flatMap slotBytes, parse := .tag, ordinal := before.length
            active := active, capture := false
            staging := noteSlots lane kind slots.length active 0 .empty before } := by
      intro q m hq
      have hprefix : (frameBody kind cycle slots).take (n + q.length) =
          (frameHeader kind cycle slots ++ before.flatMap slotBytes) ++ q := by
        rw [hsplit, hq, ← List.append_assoc]
        exact List.take_left' (by rw [List.length_append, hn'])
      rw [hread _ (by rw [List.length_take]; omega), hprefix, List.foldl_append, hbefore]
    have htag := htake [tag] (BitVec.ofNat 8 payload.length :: (payload ++ after.flatMap slotBytes)) rfl
    rw [List.foldl_cons, List.foldl_nil, next_of_tag rfl (by dsimp only; rw [hn']; omega)
      (by dsimp only; rw [hdeclaredslots]; omega) (by dsimp only; rw [hn']; omega)] at htag
    refine ⟨congrArg Reading.parse htag, congrArg Reading.ordinal htag, fun hne => ?_⟩
    obtain ⟨q, b, rfl⟩ := (List.eq_nil_or_concat' payload).resolve_left hne
    have hlast := htake ([tag, BitVec.ofNat 8 (q ++ [b]).length] ++ q) ([b] ++ after.flatMap slotBytes)
      (by simp only [List.append_assoc])
    rw [List.foldl_append, foldl_slotHead rfl (by dsimp only; rw [hn']; omega)
      (by dsimp only; rw [hdeclaredslots]; omega) hpayload (by dsimp only; rw [hn']; exact hdeclared),
      if_neg (by simp), foldl_of_payload (left := (q ++ [b]).length) rfl q (by simp)] at hlast
    have hlength : n + ([tag, BitVec.ofNat 8 (q ++ [b]).length] ++ q).length = n + 1 + (q ++ [b]).length := by
      simp only [List.length_append, List.length_cons, List.length_nil]
      omega
    rw [hlength] at hlast
    refine (congrArg Reading.parse hlast).trans ?_
    dsimp only
    congr 1
    simp

/-- Settles O32: the byte by its source, and what an engine reads of a whole frame. -/
theorem outLaneByteIsHeldBackAndForwarded : Obligations.OutLaneByteIsHeldBackAndForwarded := by
  refine ⟨fun source b s u hdue htaken => outLaneByte_taken hdue htaken, fun lane source active s u f hu hf => ?_⟩
  have hopen : (u.engine lane).reading = openReading active := by
    rw [hu, engine_setEngine]
    rfl
  have hread : ∀ bytes : List Byte, bytes.length ≤ 1024 →
      (f bytes).reading = bytes.foldl (Reading.next lane) (openReading active) := by
    intro bytes hlength
    have hempty : (u.engine lane).recv = [] := congrArg Reading.recv hopen
    rw [hf, reading_fed bytes (by rw [hempty, List.length_nil]; omega), hopen]
  refine ⟨fun bytes hlength => ?_, fun kind cycle slots e hfits he => ?_⟩
  · rw [sound_reading, hread bytes hlength]
    refine ⟨fun hsound => ?_, fun hframe => sound_of_frameSound hframe lane active⟩
    have hframe := frameSound_of_shaped (shaped_foldl lane active bytes) hsound
    rw [recv_foldl] at hframe
    exact hframe
  · obtain ⟨hstaging, hplaces⟩ := reading_of_frame (cycle := cycle) hfits hread
    rw [← he] at hstaging
    refine ⟨?_, fun tag => ?_, hplaces, fun before tag payload hslots => ?_⟩
    · rw [hstaging, misplaced_noteSlots]
      have hfilter : (List.range slots.length).filter (fun i => decide (0 + i + 1 ≠ slots.length) &&
          (slots.map Prod.fst)[i]? == some 0xFE) =
          (List.range slots.length).filter (fun i => decide (i + 1 < slots.length) && (slots.map Prod.fst)[i]? == some 0xFE) := by
        refine List.filter_congr fun i hi => ?_
        have hi' := List.mem_range.1 hi
        congr 1
        exact decide_eq_decide.2 (by omega)
      rw [hfilter]
      refine (List.nil_append _).trans (List.map_congr_left fun i _ => ?_)
      omega
    · rw [hstaging, mem_tags_noteSlots]
      exact ⟨fun h => h.elim (fun hno => absurd hno List.not_mem_nil) id, Or.inr⟩
    · have hcount : slots.length = before.length + 1 := by
        rw [hslots, List.length_append]
        rfl
      rw [hstaging, congrArg (noteSlots lane kind slots.length active 0 .empty) hslots, noteSlots_append]
      have hearlier := request_noteSlots_of_before (lane := lane) (kind := kind) (count := slots.length) (active := active) 0 .empty
        before (by omega)
      have hlast : 0 + before.length + 1 = slots.length := by omega
      simp only [noteSlots, noteSlot, hearlier, hlast, true_and]
      rfl

end Sys2Proof.Safety
end

section
/-! SUPPORT. The ride-through update and the envelope update settled (R52 to R70, R84). -/

set_option Elab.async false

namespace Sys2Proof.Machine

open Sys2Proof.Safety

/-! ## Entries and returns (R64 to R70) -/

section
variable {s : State} (hlength : s.faults.length = 64)
include hlength

theorem enterSag_frame (v : Int) : (enterSag v s).condition fcGridSag = true ∧
    ByFaultsOnly { s with envelope := { s.envelope with rideThrough := .sag } } (enterSag v s) :=
  ⟨condition_judge rfl (fun _ => hlength ▸ by decide) v, byFaultsOnly_judge ..⟩

theorem enterSwell_frame (v : Int) : (enterSwell v s).condition fcGridSwell = true ∧
    ByFaultsOnly { s with envelope := { s.envelope with rideThrough := .swell, swellCount := 0 } } (enterSwell v s) :=
  ⟨condition_judge rfl (fun _ => hlength ▸ by decide) v, byFaultsOnly_judge ..⟩

theorem enterTripped_frame {ended : Nat} (hended : levelCode ended = true) (hne : ended ≠ fcRideThroughTrip) (v : Int) :
    (enterTripped ended v s).condition ended = false ∧ (enterTripped ended v s).condition fcRideThroughTrip = true ∧
    ByFaultsOnly { s with envelope := { s.envelope with rideThrough := .tripped } } (enterTripped ended v s) := by
  refine ⟨?_, ?_, ?_⟩
  · exact (condition_judge_ne hne hended _ _ _).trans (condition_judge hended (fun h => Bool.noConfusion h) v)
  · exact condition_judge rfl (fun _ => by rw [faults_length_judge]; exact hlength ▸ by decide) v
  · exact byFaultsOnly_of ((outsideMoves_judge ..).trans (outsideMoves_judge ..)) ((KeepsPoints.judge ..).trans (.judge ..))

end

/-- With a return to NORMAL taken on both sides the frame stands. -/
theorem byFaultsOnly_enterNormal {s t : State} (h : outsideMoves t = outsideMoves s) (hp : KeepsPoints s t) :
    ByFaultsOnly (enterNormal s) (enterNormal t) :=
  byFaultsOnly_of (congrArg enterNormal h) hp

theorem rideThroughUpdate_eq {s : State} {h : List Int} {v : Int} {e : Envelope}
    (hh : h = (if s.envelope.history = [] then List.replicate 8 (s.point 0).value
      else ((s.point 0).value :: s.envelope.history).take 8))
    (hv : v = (h.take (2 ^ figure s.drtG 6)).sum / ((2 ^ figure s.drtG 6 : Nat) : Int))
    (he : e = { s.envelope with history := h, vAvg := some v }) :
    (s.envelope.rideThrough = .normal → rideThroughUpdate s = normalRule v { s with envelope := e }) ∧
    (s.envelope.rideThrough = .sag → rideThroughUpdate s = sagRule v { s with envelope := e }) ∧
    (s.envelope.rideThrough = .swell → rideThroughUpdate s = swellRule v { s with envelope := e }) ∧
    (s.envelope.rideThrough = .recovery → rideThroughUpdate s = recoveryRule v { s with envelope := e }) ∧
    (s.envelope.rideThrough = .tripped → rideThroughUpdate s = trippedRule v { s with envelope := e }) := by
  have hhistory : enterVoltage (s.pointValue 0) s.envelope.history = h := by
    rw [hh, enterVoltage]
    cases s.envelope.history <;> rfl
  have haverage : averageOf (figure s.drtG 6) h = v := hv.symm
  unfold rideThroughUpdate
  dsimp only
  rw [hhistory, haverage, ← he]
  refine ⟨fun hstate => ?_, fun hstate => ?_, fun hstate => ?_, fun hstate => ?_, fun hstate => ?_⟩
  · rw [hstate]
  · rw [hstate]
  · rw [hstate]
  · rw [hstate]
  · rw [hstate]

end Sys2Proof.Machine

namespace Sys2Proof.Safety

open Sys2Proof.Machine

theorem trippedRule_frame {s : State} (hlength : s.faults.length = 64) (v : Int) :
    ((trippedRule v s).condition fcRideThroughTrip = true ↔ v < s.sagExit ∨ s.swellExit < v) ∧
    (((trippedRule v s).fault fcRideThroughTrip).latch = true → ByFaultsOnly s (trippedRule v s)) ∧
    (((trippedRule v s).fault fcRideThroughTrip).latch = false →
      ByFaultsOnly { s with envelope := { s.envelope with rideThrough := .normal, exposure := 0 } } (trippedRule v s)) := by
  generalize hu : judge fcRideThroughTrip (decide (v < s.sagExit ∨ s.swellExit < v)) v s = u
  have hrule : trippedRule v s = if (u.fault fcRideThroughTrip).latch then u else enterNormal u := by
    rw [trippedRule, hu]
  have hcondition : u.condition fcRideThroughTrip = decide (v < s.sagExit ∨ s.swellExit < v) := by
    rw [← hu]
    exact condition_judge rfl (fun _ => hlength ▸ by decide) v
  have hview : outsideMoves u = outsideMoves s := hu ▸ outsideMoves_judge ..
  have hpoints : KeepsPoints s u := hu ▸ .judge ..
  rw [hrule]
  cases hlatch : (u.fault fcRideThroughTrip).latch with
  | true =>
    rw [if_pos rfl, hcondition, decide_eq_true_eq]
    refine ⟨Iff.rfl, fun _ => byFaultsOnly_of hview hpoints, fun hno => ?_⟩
    rw [hlatch] at hno
    exact Bool.noConfusion hno
  | false =>
    rw [if_neg (by decide)]
    have hsame : (enterNormal u).condition fcRideThroughTrip = u.condition fcRideThroughTrip := rfl
    rw [hsame, hcondition, decide_eq_true_eq]
    refine ⟨Iff.rfl, fun hno => ?_, fun _ => byFaultsOnly_enterNormal hview hpoints⟩
    have hlatch' : ((enterNormal u).fault fcRideThroughTrip).latch = false := hlatch
    rw [hlatch'] at hno
    exact Bool.noConfusion hno

/-- Settles O42, rule by rule. -/
theorem rideThroughFollowsTheVoltage : Obligations.RideThroughFollowsTheVoltage := by
  intro s h v n e hlength hh hv he
  refine ⟨_, rfl, ?_⟩
  obtain ⟨hnormal, hsag, hswell, hrecovery, htripped⟩ := rideThroughUpdate_eq hh hv he
  have hlength' : ∀ x : Envelope, ({ s with envelope := x } : State).faults.length = 64 := fun _ => hlength
  have hcount : e.exposure = s.envelope.exposure ∧ e.swellCount = s.envelope.swellCount ∧
      e.recoveryCount = s.envelope.recoveryCount ∧ e.lastSagFactor = s.envelope.lastSagFactor := by
    rw [he]
    exact ⟨rfl, rfl, rfl, rfl⟩
  obtain ⟨hexposure, hswells, hrecovered, hfactor⟩ := hcount
  refine ⟨fun hstate => ?_, fun hstate hn => ?_, fun hstate hn => ?_, fun hstate hn => ?_, fun hstate => ?_⟩
  · rw [hnormal hstate]
    refine ⟨fun hlow => ?_, fun hlow hhigh => ?_, fun hlow hhigh => ?_⟩
    · rw [normalRule, if_pos (by exact hlow)]
      exact enterSag_frame (hlength' e) v
    · rw [normalRule, if_neg (by exact not_lt.2 hlow), if_pos (by exact hhigh)]
      exact enterSwell_frame (hlength' e) v
    · rw [normalRule, if_neg (by exact not_lt.2 hlow), if_neg (by exact not_lt.2 hhigh)]
  · rw [hsag hstate]
    have hn' : min 65535 (e.exposure + exposureStep (curve s.allowedCurve v)) = n := by
      rw [hexposure]
      exact hn.symm
    have hrule : sagRule v { s with envelope := e } =
        if 32768 ≤ n then enterTripped fcGridSag v { s with envelope := { e with exposure := n } }
        else if s.sagExit ≤ v then judge fcGridSag false v { s with envelope := { e with
          rideThrough := .recovery, exposure := n, recoveryCount := 0, exitFactor := s.envelope.lastSagFactor } }
        else { s with envelope := { e with exposure := n } } := by
      rw [← hn', ← hfactor]
      rfl
    rw [hrule]
    refine ⟨fun hlong => ?_, fun hshort hexit => ?_, fun hshort hstay => ?_⟩
    · rw [if_pos hlong]
      exact enterTripped_frame (hlength' _) rfl (by decide) v
    · rw [if_neg (not_le.2 hshort), if_pos hexit]
      exact ⟨condition_judge rfl (fun hno => Bool.noConfusion hno) v, byFaultsOnly_judge ..⟩
    · rw [if_neg (not_le.2 hshort), if_neg (not_le.2 hstay)]
  · rw [hswell hstate]
    have hn' : bump 65535 e.swellCount = n := by
      rw [hswells]
      exact hn.symm
    have hrule : swellRule v { s with envelope := e } =
        if s.swellLimit ≤ n then enterTripped fcGridSwell v { s with envelope := { e with swellCount := n } }
        else if v ≤ s.swellExit then judge fcGridSwell false v { s with envelope := { e with
          rideThrough := .normal, exposure := 0, swellCount := n } }
        else { s with envelope := { e with swellCount := n } } := by
      rw [← hn']
      rfl
    rw [hrule]
    refine ⟨fun hlong => ?_, fun hshort hexit => ?_, fun hshort hstay => ?_⟩
    · rw [if_pos hlong]
      exact enterTripped_frame (hlength' _) rfl (by decide) v
    · rw [if_neg (not_le.2 hshort), if_pos hexit]
      exact ⟨condition_judge rfl (fun hno => Bool.noConfusion hno) v, byFaultsOnly_judge ..⟩
    · rw [if_neg (not_le.2 hshort), if_neg (not_le.2 hstay)]
  · rw [hrecovery hstate]
    have hn' : bump 65535 e.recoveryCount = n := by
      rw [hrecovered]
      exact hn.symm
    have hrule : recoveryRule v { s with envelope := e } =
        if v < s.sagEnter then enterSag v { s with envelope := { e with recoveryCount := n } }
        else if s.swellEnter < v then enterSwell v { s with envelope := { e with recoveryCount := n } }
        else if s.recoveryUpdates ≤ n then { s with envelope := { e with rideThrough := .normal, exposure := 0, recoveryCount := n } }
        else { s with envelope := { e with recoveryCount := n } } := by
      rw [← hn']
      rfl
    rw [hrule]
    refine ⟨fun hlow => ?_, fun hlow hhigh => ?_, fun hlow hhigh => ?_⟩
    · rw [if_pos hlow]
      exact enterSag_frame (hlength' _) v
    · rw [if_neg (not_lt.2 hlow), if_pos hhigh]
      exact enterSwell_frame (hlength' _) v
    · rw [if_neg (not_lt.2 hlow), if_neg (not_lt.2 hhigh)]
      split
      · rfl
      · rfl
  · rw [htripped hstate]
    exact trippedRule_frame (hlength' e) v

end Sys2Proof.Safety
end

section
/-! SUPPORT. The envelope update settled (R52 to R58, R84). -/

set_option Elab.async false

namespace Sys2Proof.Machine

open Sys2Proof.Safety

theorem length_outputWrite (n : Nat) (v : Int) (s : State) : (outputWrite n v s).points.length = s.points.length := by simp

/-- The six outputs of the envelope update (R58). -/
theorem writeEnvelope_points {s : State} (hpoints : s.points.length = 256) (f : Int) :
    (writeEnvelope f s).point 32 = { value := s.envelope.limit, quality := .fresh, age := 0 } ∧
    (writeEnvelope f s).point 33 = { value := -(s.envelope.limit : Int), quality := .fresh, age := 0 } ∧
    (writeEnvelope f s).point 34 = { value := (flagCode s.envelope.tripSeen : Int), quality := .fresh, age := 0 } ∧
    (writeEnvelope f s).point 35 = { value := s.envelope.rideThrough.code, quality := .fresh, age := 0 } ∧
    (writeEnvelope f s).point 58 = { value := s.envelope.exposure, quality := .fresh, age := 0 } ∧
    (writeEnvelope f s).point 62 = { value := f, quality := .fresh, age := 0 } ∧
    ∀ n, n ∉ [32, 33, 34, 35, 58, 62] → (writeEnvelope f s).point n = s.point n := by
  have hsame : ∀ (n : Nat) (v : Int) (u : State), n < 256 → u.points.length = 256 →
      (outputWrite n v u).point n = { value := v, quality := .fresh, age := 0 } :=
    fun n v u hn hu => point_outputWrite_same (by omega) v
  have hlength : ∀ (n : Nat) (v : Int) (u : State), u.points.length = 256 → (outputWrite n v u).points.length = 256 :=
    fun n v u hu => (length_outputWrite n v u).trans hu
  unfold writeEnvelope
  dsimp only
  have h32 := hlength 32 s.envelope.limit s hpoints
  have h33 := hlength 33 (-(s.envelope.limit : Int)) _ h32
  have h34 := hlength 34 (flagCode s.envelope.tripSeen : Int) _ h33
  have h35 := hlength 35 s.envelope.rideThrough.code _ h34
  have h62 := hlength 62 f _ h35
  refine ⟨?_, ?_, ?_, ?_, ?_, ?_, fun n hn => ?_⟩
  · rw [point_outputWrite_ne (by decide), point_outputWrite_ne (by decide), point_outputWrite_ne (by decide),
      point_outputWrite_ne (by decide), point_outputWrite_ne (by decide), hsame 32 _ s (by decide) hpoints]
  · rw [point_outputWrite_ne (by decide), point_outputWrite_ne (by decide), point_outputWrite_ne (by decide),
      point_outputWrite_ne (by decide), hsame 33 _ _ (by decide) h32]
  · rw [point_outputWrite_ne (by decide), point_outputWrite_ne (by decide), point_outputWrite_ne (by decide),
      hsame 34 _ _ (by decide) h33]
  · rw [point_outputWrite_ne (by decide), point_outputWrite_ne (by decide), hsame 35 _ _ (by decide) h34]
  · exact hsame 58 _ _ (by decide) h62
  · rw [point_outputWrite_ne (by decide), hsame 62 _ _ (by decide) h35]
  · simp only [List.mem_cons, List.not_mem_nil, or_false, not_or] at hn
    obtain ⟨n32, n33, n34, n35, n58, n62⟩ := hn
    rw [point_outputWrite_ne (Ne.symm n58), point_outputWrite_ne (Ne.symm n62), point_outputWrite_ne (Ne.symm n35),
      point_outputWrite_ne (Ne.symm n34), point_outputWrite_ne (Ne.symm n33), point_outputWrite_ne (Ne.symm n32)]

theorem eq_of_output {s t : State} (h : t = { s with points := t.points }) (n : Nat) (v : Int) :
    outputWrite n v t = { s with points := (outputWrite n v t).points } := by
  rw [h]
  rfl

theorem writeEnvelope_eq (f : Int) (s : State) : writeEnvelope f s = { s with points := (writeEnvelope f s).points } :=
  eq_of_output (eq_of_output (eq_of_output (eq_of_output (eq_of_output (eq_of_output rfl 32 _) 33 _) 34 _) 35 _) 62 _) 58 _

/-- The envelope with its new limit (R56, R57). -/
def limitedEnvelope (limit : Nat) (fg : Int) (e : Envelope) : Envelope :=
  { e with limit := limit, lastSagFactor := if e.rideThrough = .sag then fg.toNat else e.lastSagFactor }

/-- The state with another envelope. -/
def withEnvelope (e : Envelope) (s : State) : State := { s with envelope := e }

theorem envelopeUpdate_eq (written : List Nat) (s : State) {r : State}
    (hr : r = (if 0 ∈ written ∨ (s.point 0).quality = .forced then rideThroughUpdate s else s)) :
    envelopeUpdate written s = judge fcThermalDerate (decide (r.thermalFactor < 32768)) r.thermalFactor
      (writeEnvelope r.envelopeFactor (withEnvelope (limitedEnvelope
        (newLimit (r.iRated * r.envelopeFactor.toNat / 32768) r.envelope.limit r.rampStep r.envelope.tripSeen) r.gridFactor
        r.envelope) r)) := by
  have hcond : (written.contains 0 || (s.point 0).quality == .forced) = true ↔ (0 ∈ written ∨ (s.point 0).quality = .forced) := by
    rw [Bool.or_eq_true, List.contains_iff_mem, beq_iff_eq]
  have hstate : (if (written.contains 0 || (s.point 0).quality == .forced) = true then rideThroughUpdate s else s) = r := by
    rw [hr]
    by_cases h : 0 ∈ written ∨ (s.point 0).quality = .forced
    · rw [if_pos h, if_pos (hcond.2 h)]
    · rw [if_neg h, if_neg (fun hno => h (hcond.1 hno))]
  unfold envelopeUpdate
  dsimp only
  rw [hstate]
  rfl

end Sys2Proof.Machine

namespace Sys2Proof.Safety

open Sys2Proof.Machine

/-- Settles O44: the state with its outputs written, then the judgement of THERMAL_DERATE. -/
theorem envelopeUpdateFollowsTheTarget : Obligations.EnvelopeUpdateFollowsTheTarget := by
  intro written s r ft fg f target limit hr hpoints hft hfg hf htarget hlimit
  have hthermal : r.thermalFactor = ft := hft.symm
  have hgrid : r.gridFactor = fg := by
    rw [hfg]
    unfold State.gridFactor
    cases hstate : r.envelope.rideThrough <;> rfl
  have hfactor : r.envelopeFactor = f := by
    rw [hf, State.envelopeFactor, hthermal, hgrid]
    rfl
  have hnew : newLimit (r.iRated * f.toNat / 32768) r.envelope.limit r.rampStep r.envelope.tripSeen = limit := by
    rw [hlimit, htarget]
    rfl
  have hupdate := envelopeUpdate_eq written s hr
  rw [hthermal, hfactor, hgrid, hnew] at hupdate
  generalize he : limitedEnvelope limit fg r.envelope = e at hupdate
  have hpoints' : (withEnvelope e r).points.length = 256 := hpoints
  obtain ⟨h32, h33, h34, h35, h58, h62, hothers⟩ := writeEnvelope_points hpoints' f
  have htrip : (flagCode r.envelope.tripSeen : Int) = if r.envelope.tripSeen then 1 else 0 := by
    cases r.envelope.tripSeen <;> rfl
  have hlength : s.faults.length = 64 → r.faults.length = 64 := by
    intro h
    rw [hr]
    split
    · exact keeps_rideThroughUpdate (OwnersOnly.plain_faults_length 64).keeps h
    · exact h
  generalize hv : writeEnvelope f (withEnvelope e r) = v at *
  have hrest : v = { r with points := v.points, envelope := e } := by
    rw [← hv]
    exact writeEnvelope_eq f (withEnvelope e r)
  have hkept : v.faults = r.faults := by rw [hrest]
  have hcondition : v.condition fcThermalDerate = r.condition fcThermalDerate := by rw [State.condition, State.fault, hkept]; rfl
  rw [hupdate]
  refine ⟨v, _, rfl, ?_, ?_, ?_, ?_, ?_, h62, hothers, ?_, fun hsame => judge_of_same (hcondition.trans hsame) _,
    fun hfaults => ⟨?_, fun habsent hlow => ?_⟩, byFaultsOnly_judge ..⟩
  · rw [h32, ← he]
    rfl
  · rw [h33, ← he]
    rfl
  · rw [h34, ← htrip, ← he]
    rfl
  · rw [h35, ← he]
    rfl
  · rw [h58, ← he]
    rfl
  · rw [← he] at hrest
    exact hrest
  · have hjudged := condition_judge (k := fcThermalDerate) (present := decide (ft < 32768)) (s := v) rfl
      (fun _ => by rw [hkept, hlength hfaults]; decide) ft
    rw [hjudged, decide_eq_true_eq]
  · have hrising := fault_judge_rising (k := fcThermalDerate) (s := v) (by rw [hkept, hlength hfaults]; decide) rfl
      (hcondition.trans habsent) ft
    rw [decide_eq_true hlow, hrising]
    rfl

end Sys2Proof.Safety
end

section
/-! SUPPORT. The thermal update settled (R76 to R92). -/

set_option Elab.async false

namespace Sys2Proof.Machine

open Sys2Proof.Safety

/-! ## The estimate of one module (R78 to R82) -/

theorem outputWrite_eq (n : Nat) (v : Int) (s : State) :
    outputWrite n v s = { s with points := s.points.set n { value := v, quality := .fresh, age := 0 } } := rfl

/-- The rise that an update gives a module (R81). -/
def newRise (m : Nat) (s : State) : Int :=
  moveRise (figure s.thm 2) (s.correctedRise (s.moduleCurrent m)) (s.thermal.rises.getD m 0)

/-- The state with a module's rise and its junction temperature. -/
def withRise (m : Nat) (rise : Int) (s : State) : State :=
  { s with
    points := s.points.set (46 + m) { value := junctionTemperature s.inletTemperature rise, quality := .fresh, age := 0 }
    thermal := { s.thermal with rises := s.thermal.rises.set m rise } }

theorem moduleUpdate_of_enabled {m : Nat} {s : State} (h : bitOf (wordAt s.plt 1) m = true) :
    moduleUpdate s m = withRise m (newRise m s) s := if_pos h

theorem moduleUpdate_of_masked {m : Nat} {s : State} (h : bitOf (wordAt s.plt 1) m = false) : moduleUpdate s m = s :=
  if_neg (fun hno => by rw [State.moduleEnabled, h] at hno; exact Bool.noConfusion hno)

/-- The rise moves by its share of the distance, by one where that is 0, and stands at the target (R81). -/
theorem moveRise_cases (alpha : Nat) (target rise : Int) :
    (target - rise = 0 → moveRise alpha target rise = rise) ∧
    (target - rise ≠ 0 → Int.tdiv ((target - rise) * alpha) 65536 = 0 → moveRise alpha target rise = rise + (target - rise).sign) ∧
    (Int.tdiv ((target - rise) * alpha) 65536 ≠ 0 → moveRise alpha target rise = rise + Int.tdiv ((target - rise) * alpha) 65536) := by
  unfold moveRise
  dsimp only
  refine ⟨fun h => ?_, fun _ h => ?_, fun h => ?_⟩
  · rw [h, Int.zero_mul, Int.zero_tdiv, if_pos rfl, Int.sign_zero, Int.add_zero]
  · rw [if_pos h]
  · rw [if_neg h]

/-! ## The hottest module (R82) -/

/-- What the modules taken so far have left: banks and inlet stand, and the junction temperature of each enabled one is its
point's value. -/
structure Estimated (s t : State) (k : Nat) : Prop where
  plt : t.plt = s.plt
  inlet : t.inletTemperature = s.inletTemperature
  points : t.points.length = 256
  rises : t.thermal.rises.length = 12
  value : ∀ m, m < k → m < 12 → bitOf (wordAt s.plt 1) m = true →
    (t.point (46 + m)).value = junctionTemperature s.inletTemperature (t.thermal.rises.getD m 0)

theorem estimated_moduleUpdate {s t : State} {k : Nat} (h : Estimated s t k) (hk : k < 12) : Estimated s (moduleUpdate t k) (k + 1) := by
  obtain ⟨hplt, hinlet, hpoints, hrises, hvalue⟩ := h
  cases henabled : bitOf (wordAt t.plt 1) k with
  | false =>
    rw [moduleUpdate_of_masked henabled]
    refine ⟨hplt, hinlet, hpoints, hrises, fun m hm hlt hmask => ?_⟩
    by_cases hsame : m = k
    · rw [hsame, ← hplt, henabled] at hmask
      exact Bool.noConfusion hmask
    · exact hvalue m (by omega) hlt hmask
  | true =>
    rw [moduleUpdate_of_enabled henabled]
    generalize newRise k t = rise
    unfold withRise
    have hinlet' : ∀ (p : Point) (r : List Int), State.inletTemperature { t with
        points := t.points.set (46 + k) p, thermal := { t.thermal with rises := r } } = t.inletTemperature := by
      intro p r
      have hpoint : (t.points.set (46 + k) p).getD 2 .reset = t.points.getD 2 .reset := by
        rw [List.getD_eq_getElem?_getD, List.getD_eq_getElem?_getD, List.getElem?_set_ne (by omega)]
      simp only [State.inletTemperature, State.point, hpoint]
      rfl
    refine ⟨hplt, (hinlet' _ _).trans hinlet, (List.length_set ..).trans hpoints, (List.length_set ..).trans hrises,
      fun m hm hlt hmask => ?_⟩
    by_cases hsame : m = k
    · subst hsame
      have hpoint := point_outputWrite_same (s := t) (n := 46 + m) (by omega) (junctionTemperature t.inletTemperature rise)
      have hvalue' := congrArg Point.value hpoint
      refine hvalue'.trans ?_
      rw [← hinlet, List.getD_eq_getElem?_getD, List.getElem?_set_self (by omega)]
      rfl
    · have hpoint := point_outputWrite_ne (n := 46 + k) (m := 46 + m) (by omega) (junctionTemperature t.inletTemperature rise) t
      refine (congrArg Point.value hpoint).trans ((hvalue m (by omega) hlt hmask).trans ?_)
      rw [List.getD_eq_getElem?_getD, List.getD_eq_getElem?_getD, List.getElem?_set_ne (fun h => hsame h.symm)]

theorem foldl_range_of_steps {f : State → Nat → State} {after : Nat → State} {n : Nat}
    (h : ∀ m, m < n → after (m + 1) = f (after m) m) : (List.range n).foldl f (after 0) = after n := by
  induction n with
  | zero => rfl
  | succ n ih => rw [List.range_succ, List.foldl_append, ih (fun m hm => h m (by omega)), List.foldl_cons, List.foldl_nil, ← h n (by omega)]

theorem hottest_eq_some {s : State} (h : ∃ m, m < 12 ∧ bitOf (wordAt s.plt 1) m = true) : ∃ t, s.hottest = some t ∧
    (∃ m, m < 12 ∧ bitOf (wordAt s.plt 1) m = true ∧ t = junctionTemperature s.inletTemperature (s.thermal.rises.getD m 0)) ∧
    ∀ m, m < 12 → bitOf (wordAt s.plt 1) m = true → junctionTemperature s.inletTemperature (s.thermal.rises.getD m 0) ≤ t := by
  obtain ⟨m₀, hlt₀, hmask₀⟩ := h
  have hmem : ∀ m, m ∈ (List.range 12).filter (fun m => s.moduleEnabled m) ↔ m < 12 ∧ bitOf (wordAt s.plt 1) m = true := by
    intro m
    rw [List.mem_filter, List.mem_range]
    rfl
  unfold State.hottest
  cases hmax : (((List.range 12).filter (fun m => s.moduleEnabled m)).map
      (fun m => junctionTemperature s.inletTemperature (s.thermal.rises.getD m 0))).max? with
  | none =>
    rw [List.max?_eq_none_iff, List.map_eq_nil_iff] at hmax
    have := (hmem m₀).2 ⟨hlt₀, hmask₀⟩
    rw [hmax] at this
    exact absurd this List.not_mem_nil
  | some t =>
    obtain ⟨hin, hall⟩ := List.max?_eq_some_iff.1 hmax
    obtain ⟨m, hm, ht⟩ := List.mem_map.1 hin
    obtain ⟨hlt, hmask⟩ := (hmem m).1 hm
    exact ⟨t, rfl, ⟨m, hlt, hmask, ht.symm⟩, fun j hj hjmask => hall _ (List.mem_map_of_mem ((hmem j).2 ⟨hj, hjmask⟩))⟩

/-! ## Pump and fans (R86 to R92) -/

theorem ceilDiv_le_iff (a c : Nat) : ceilDiv a 1000 ≤ c ↔ a ≤ c * 1000 := by
  unfold ceilDiv
  omega

theorem pumpWrite_eq (interval speed : Nat) (s : State) : pumpWrite interval (speed : Int) s = { s with
    points := s.points.set 40 { value := speed, quality := .fresh, age := 0 }
    thermal := { s.thermal with
      idleCountdown := if 0 < speed then none
        else if s.thermal.idleCountdown = none ∧ interval ≠ 0 then some interval else s.thermal.idleCountdown } } := by
  have hcountdown : (if (0 : Int) < (speed : Int) then none
      else match s.thermal.idleCountdown with
        | some c => some c
        | none => if interval = 0 then none else some interval) =
      if 0 < speed then none
        else if s.thermal.idleCountdown = none ∧ interval ≠ 0 then some interval else s.thermal.idleCountdown := by
    by_cases hspeed : 0 < speed
    · rw [if_pos hspeed, if_pos (by exact_mod_cast hspeed)]
    · rw [if_neg hspeed, if_neg (by exact_mod_cast hspeed)]
      cases s.thermal.idleCountdown with
      | some c =>
        have hkept : ¬ (some c = none ∧ interval ≠ 0) := fun h => Option.some_ne_none c h.1
        rw [if_neg hkept]
      | none =>
        dsimp only
        by_cases hinterval : interval = 0
        · have hkept : ¬ ((none : Option Nat) = none ∧ interval ≠ 0) := fun h => h.2 hinterval
          rw [if_pos hinterval, if_neg hkept]
        · have hloaded : (none : Option Nat) = none ∧ interval ≠ 0 := ⟨rfl, hinterval⟩
          rw [if_neg hinterval, if_pos hloaded]
  rw [← hcountdown]
  rfl

end Sys2Proof.Machine

namespace Sys2Proof.Safety

open Sys2Proof.Machine

theorem pumpUpdate_frame {s : State} {demand : Int} {target command speed : Nat} (hdemand : demand = curve s.pumpCurve (s.point 44).value)
    (htarget : target = (if s.summary.pumpBoost = true ∨ (s.point 2).live = false then 1000
      else if 0 < demand then demand.toNat else if s.thermal.exercise.isSome = true then figure s.thm 24 else 0))
    (hcommand : command = (if s.thermal.pumpCommand ≤ target then min target (s.thermal.pumpCommand + figure s.thm 21)
      else max target (s.thermal.pumpCommand - figure s.thm 21)))
    (hspeed : speed = min command (s.arbiter.pumpGrant * 1000 / figure s.plt 13)) :
    pumpUpdate s = { s with
      points := s.points.set 40 { value := speed, quality := .fresh, age := 0 }
      thermal := { s.thermal with
        pumpCommand := command
        exercise := if 0 < demand then none else s.thermal.exercise
        idleCountdown := if 0 < speed then none
          else if s.thermal.idleCountdown = none ∧ figure s.thm 22 ≠ 0 then some (figure s.thm 22)
          else s.thermal.idleCountdown }
      arbiter := { s.arbiter with pumpClaim := ceilDiv (figure s.plt 13 * command) 1000 } } := by
  have hd : s.curveDemand = demand := hdemand.symm
  have ht : s.pumpTarget = target := by
    rw [htarget, State.pumpTarget, hd]
  have hc : slewTo (figure s.thm 21) target s.thermal.pumpCommand = command := hcommand.symm
  unfold pumpUpdate
  dsimp only
  rw [ht, hc, hd]
  refine (pumpWrite_eq ..).trans ?_
  dsimp only
  rw [hspeed]
  rfl

theorem fanUpdate_frame {s : State} {k : Nat} (hk : k = s.thermal.fanRequest) (hthree : k ≤ 3) : ∃ t stage, fanUpdate s = t ∧
    ((s.point 2).live = true → k < 3 → signedFigure s.thm (25 + k) ≤ (s.point 2).value → stage = k + 1) ∧
    ((s.point 2).live = true → (k = 3 ∨ (s.point 2).value < signedFigure s.thm (25 + k)) → 0 < k →
      (s.point 2).value < signedFigure s.thm (27 + k) → stage = k - 1) ∧
    ((s.point 2).live = true → (k = 3 ∨ (s.point 2).value < signedFigure s.thm (25 + k)) →
      (k = 0 ∨ signedFigure s.thm (27 + k) ≤ (s.point 2).value) → stage = k) ∧
    ((s.point 2).live = false → stage = min 3 (k + 1)) ∧
    t = { s with
      points := s.points.set 41 { value := ((min stage s.arbiter.fanGrant : Nat) : Int), quality := .fresh, age := 0 }
      thermal := { s.thermal with fanRequest := stage }
      arbiter := { s.arbiter with fanClaim := stage } } := by
  refine ⟨_, s.nextFanStage, rfl, fun hlive hlow hrise => ?_, fun hlive hhigh hpos hfall => ?_, fun hlive hhigh hstay => ?_,
    fun hdead => ?_, rfl⟩
  · unfold State.nextFanStage
    dsimp only
    rw [if_pos hlive, ← hk, if_pos ⟨hlow, hrise⟩]
  · have hnot : ¬ (k < 3 ∧ signedFigure s.thm (25 + k) ≤ (s.point 2).value) := by omega
    unfold State.nextFanStage
    dsimp only
    rw [if_pos hlive, ← hk, if_neg hnot, if_pos ⟨hpos, hfall⟩]
  · have hnot : ¬ (k < 3 ∧ signedFigure s.thm (25 + k) ≤ (s.point 2).value) := by omega
    have hnot' : ¬ (0 < k ∧ (s.point 2).value < signedFigure s.thm (27 + k)) := by omega
    unfold State.nextFanStage
    dsimp only
    rw [if_pos hlive, ← hk, if_neg hnot, if_neg hnot']
  · unfold State.nextFanStage
    dsimp only
    rw [if_neg (by rw [hdead]; decide), ← hk]

theorem junctionUpdate_frame {s : State} {after : Nat → State} (hrises : s.thermal.rises.length = 12)
    (hzero : after 0 = { s with thermal := { s.thermal with
      rises := if s.thermal.seeded then s.thermal.rises else List.replicate 12 ((figure s.thm 4 : Nat) : Int)
      seeded := true } })
    (hsteps : ∀ m, m < 12 → after (m + 1) = moduleUpdate (after m) m) (hpoints : s.points.length = 256)
    (hmask : ∃ m, m < 12 ∧ bitOf (wordAt s.plt 1) m = true) :
    ∃ hottest : Int, junctionUpdate s =
        { after 12 with points := (after 12).points.set 44 { value := hottest, quality := .fresh, age := 0 } } ∧
      (∃ m, m < 12 ∧ bitOf (wordAt s.plt 1) m = true ∧ hottest = ((after 12).point (46 + m)).value) ∧
      (∀ m, m < 12 → bitOf (wordAt s.plt 1) m = true → ((after 12).point (46 + m)).value ≤ hottest) := by
  have hseeded : (if s.thermal.seeded then s else { s with thermal :=
      { s.thermal with rises := List.replicate 12 ((figure s.thm 4 : Nat) : Int), seeded := true } }) = after 0 := by
    rw [hzero]
    cases hcase : s.thermal.seeded with
    | false => rfl
    | true =>
      rw [if_pos rfl, if_pos rfl, ← hcase]
  have hestimated : ∀ k, k ≤ 12 → Estimated s (after k) k := by
    intro k
    induction k with
    | zero =>
      refine fun _ => ⟨by rw [hzero]; rfl, by rw [hzero]; rfl, by rw [hzero]; exact hpoints, ?_, fun m hm => absurd hm (Nat.not_lt_zero m)⟩
      rw [hzero]
      dsimp only
      split
      · exact hrises
      · exact List.length_replicate
    | succ k ih =>
      intro hk
      rw [hsteps k (by omega)]
      exact estimated_moduleUpdate (ih (by omega)) (by omega)
  obtain ⟨hplt, hinlet, -, -, hvalue⟩ := hestimated 12 (Nat.le_refl 12)
  obtain ⟨t, hhottest, ⟨m, hlt, hm, ht⟩, hall⟩ := hottest_eq_some (s := after 12) (by rw [hplt]; exact hmask)
  rw [hplt] at hm hall
  rw [hinlet] at ht hall
  refine ⟨t, ?_, ⟨m, hlt, hm, ht.trans (hvalue m hlt hlt hm).symm⟩, fun j hj hjmask => ?_⟩
  · unfold junctionUpdate
    dsimp only
    rw [hseeded, foldl_range_of_steps hsteps, hhottest]
    rfl
  · rw [hvalue j hj hj hjmask]
    exact hall j hj hjmask

/-- A condition judged only while its point is live (R85). -/
theorem judgeLive_frame {k point : Nat} (hlevel : levelCode k = true) {present : Int → Bool} {s : State} (hlength : s.faults.length = 64)
    (hk : k < 64) :
    ((s.point point).live = true →
      ((judgeLive k point present s).condition k = true ↔ present (s.point point).value = true) ∧
      (s.condition k = false → (judgeLive k point present s).condition k = true →
        ((judgeLive k point present s).fault k).context = (s.point point).value)) ∧
    ((s.point point).live = false → judgeLive k point present s = s) := by
  unfold judgeLive
  dsimp only
  refine ⟨fun hlive => ?_, fun hdead => if_neg (by rw [hdead]; decide)⟩
  rw [if_pos hlive, condition_judge hlevel (fun _ => hlength ▸ hk)]
  refine ⟨Iff.rfl, fun habsent hpresent => ?_⟩
  rw [hpresent, fault_judge_rising (hlength ▸ hk) hlevel habsent]
  rfl

end Sys2Proof.Safety
end

section
/-! SUPPORT. The thermal conditions and the whole update settled (R76, R83, R85). -/

set_option Elab.async false

namespace Sys2Proof.Safety

open Sys2Proof.Machine

theorem fault_judgeLive_ne {j k : Nat} (h : j ≠ k) (hj : j ≠ fcSeekFailed) (ho : j ≠ fcLogOverwrite) (point : Nat)
    (present : Int → Bool) (s : State) : (judgeLive k point present s).fault j = s.fault j := by
  unfold judgeLive
  dsimp only
  split
  · exact fault_judge_ne h hj ho _ _ s
  · rfl

/-- From `s` to `t` a judgement may have passed: the frame of a fault, inputs and size of the records as they were. -/
structure Judged (s t : State) : Prop where
  view : outsideMoves t = outsideMoves s
  points : KeepsPoints s t
  faults : t.faults.length = s.faults.length

theorem Judged.judge (k : Nat) (present : Bool) (c : Int) (s : State) : Judged s (judge k present c s) :=
  ⟨outsideMoves_judge .., .judge .., faults_length_judge ..⟩

theorem Judged.live (k point : Nat) (present : Int → Bool) (s : State) : Judged s (judgeLive k point present s) := by
  unfold judgeLive
  dsimp only
  split
  · exact .judge ..
  · exact ⟨rfl, .refl s, rfl⟩

theorem Judged.trans {s t u : State} (h : Judged s t) (k : Judged t u) : Judged s u :=
  ⟨k.view.trans h.view, h.points.trans k.points, k.faults.trans h.faults⟩

theorem Judged.point {s t : State} (h : Judged s t) {n : Nat} (hn : n < 32) : t.point n = s.point n := by
  refine h.points.2 n fun hmem => ?_
  obtain ⟨hlo, -⟩ := mem_raiseOutputs_bounds hmem
  omega

theorem Judged.thm {s t : State} (h : Judged s t) : t.thm = s.thm := eq_of_view (outsideOwners_of_moves h.view) State.thm

theorem thermalConditions_frame {s : State} (hlength : s.faults.length = 64) :
    ((thermalConditions s).condition fcJunctionLimit = true ↔ signedFigure s.thm 6 ≤ (s.point 44).value) ∧
    (s.condition fcJunctionLimit = false → (thermalConditions s).condition fcJunctionLimit = true →
      ((thermalConditions s).fault fcJunctionLimit).context = (s.point 44).value) ∧
    ((s.point 3).live = true →
      ((thermalConditions s).condition fcFlowLow = true ↔ (s.point 3).value < (figure s.thm 7 : Int)) ∧
      (s.condition fcFlowLow = false → (thermalConditions s).condition fcFlowLow = true →
        ((thermalConditions s).fault fcFlowLow).context = (s.point 3).value)) ∧
    ((s.point 3).live = false → (thermalConditions s).fault fcFlowLow = s.fault fcFlowLow) ∧
    ((s.point 2).live = true →
      ((thermalConditions s).condition fcInletHigh = true ↔ signedFigure s.thm 8 < (s.point 2).value) ∧
      (s.condition fcInletHigh = false → (thermalConditions s).condition fcInletHigh = true →
        ((thermalConditions s).fault fcInletHigh).context = (s.point 2).value)) ∧
    ((s.point 2).live = false → (thermalConditions s).fault fcInletHigh = s.fault fcInletHigh) ∧
    ByFaultsOnly s (thermalConditions s) := by
  have hthermal : thermalConditions s =
      let t := judge fcJunctionLimit (decide (signedFigure s.thm 6 ≤ (s.point 44).value)) (s.point 44).value s
      let u := judgeLive fcFlowLow 3 (fun v => decide (v < (figure t.thm 7 : Int))) t
      judgeLive fcInletHigh 2 (fun v => decide (signedFigure u.thm 8 < v)) u := rfl
  rw [hthermal]
  dsimp only
  generalize ht : judge fcJunctionLimit (decide (signedFigure s.thm 6 ≤ (s.point 44).value)) (s.point 44).value s = t
  have hst : Judged s t := ht ▸ .judge ..
  have htlength : t.faults.length = 64 := hst.faults.trans hlength
  have hpoint3 : t.point 3 = s.point 3 := hst.point (by decide)
  have hflow := judgeLive_frame (k := fcFlowLow) (point := 3) rfl (present := fun v => decide (v < (figure t.thm 7 : Int))) htlength (by decide)
  have hflowother : ∀ j, j ≠ fcFlowLow → j ≠ fcSeekFailed → j ≠ fcLogOverwrite →
      (judgeLive fcFlowLow 3 (fun v => decide (v < (figure t.thm 7 : Int))) t).fault j = t.fault j :=
    fun j h hj ho => fault_judgeLive_ne h hj ho 3 _ t
  have htu := Judged.live fcFlowLow 3 (fun v => decide (v < (figure t.thm 7 : Int))) t
  generalize judgeLive fcFlowLow 3 (fun v => decide (v < (figure t.thm 7 : Int))) t = u at hflow hflowother htu ⊢
  have hsu := hst.trans htu
  have hulength : u.faults.length = 64 := hsu.faults.trans hlength
  have hpoint2 : u.point 2 = s.point 2 := hsu.point (by decide)
  have hinlet := judgeLive_frame (k := fcInletHigh) (point := 2) rfl (present := fun v => decide (signedFigure u.thm 8 < v)) hulength
    (by decide)
  have hother : ∀ j, j ≠ fcInletHigh → j ≠ fcSeekFailed → j ≠ fcLogOverwrite →
      (judgeLive fcInletHigh 2 (fun v => decide (signedFigure u.thm 8 < v)) u).fault j = u.fault j :=
    fun j h hj ho => fault_judgeLive_ne h hj ho 2 _ u
  have huw := Judged.live fcInletHigh 2 (fun v => decide (signedFigure u.thm 8 < v)) u
  generalize judgeLive fcInletHigh 2 (fun v => decide (signedFigure u.thm 8 < v)) u = w at hinlet hother huw ⊢
  have hsw := hsu.trans huw
  have hjunction : w.fault fcJunctionLimit = t.fault fcJunctionLimit :=
    (hother _ (by decide) (by decide) (by decide)).trans (hflowother _ (by decide) (by decide) (by decide))
  have hflowlow : w.fault fcFlowLow = u.fault fcFlowLow := hother _ (by decide) (by decide) (by decide)
  have htflow : t.fault fcFlowLow = s.fault fcFlowLow := ht ▸ fault_judge_ne (by decide) (by decide) (by decide) _ _ s
  have huinlet : u.fault fcInletHigh = s.fault fcInletHigh :=
    (hflowother _ (by decide) (by decide) (by decide)).trans (ht ▸ fault_judge_ne (by decide) (by decide) (by decide) _ _ s)
  have hcond : ∀ {a b : State} {k : Nat}, a.fault k = b.fault k → a.condition k = b.condition k :=
    fun h => congrArg FaultRecord.condition h
  rw [hpoint3, hst.thm] at hflow
  rw [hpoint2, hsu.thm] at hinlet
  obtain ⟨hflowlive, hflowdead⟩ := hflow
  obtain ⟨hinletlive, hinletdead⟩ := hinlet
  have htcond : t.condition fcJunctionLimit = decide (signedFigure s.thm 6 ≤ (s.point 44).value) :=
    ht ▸ condition_judge rfl (fun _ => hlength ▸ by decide) _
  refine ⟨?_, fun habsent hpresent => ?_, fun hlive => ?_, fun hdead => ?_, fun hlive => ?_, fun hdead => ?_,
    byFaultsOnly_of hsw.view hsw.points⟩
  · rw [hcond hjunction, htcond, decide_eq_true_eq]
  · rw [hcond hjunction, htcond] at hpresent
    rw [hjunction, ← ht, hpresent, fault_judge_rising (hlength ▸ by decide) rfl habsent]
    rfl
  · obtain ⟨hiff, hcontext⟩ := hflowlive hlive
    rw [hcond hflowlow, hflowlow]
    exact ⟨hiff.trans decide_eq_true_iff, fun habsent => hcontext ((hcond htflow).trans habsent)⟩
  · rw [hflowlow, hflowdead hdead, htflow]
  · obtain ⟨hiff, hcontext⟩ := hinletlive hlive
    exact ⟨hiff.trans decide_eq_true_iff, fun habsent => hcontext ((hcond huinlet).trans habsent)⟩
  · rw [hinletdead hdead, huinlet]

theorem moduleUpdate_frame {m : Nat} {s : State} {i : Nat} {q ss tc d : Int} (hmask : bitOf (wordAt s.plt 1) m = true)
    (hi : i = (if (s.point (7 + m)).live then min 65535 (s.point (7 + m)).value.natAbs else figure s.plt 0))
    (hq : q = (if (s.point 3).live then
        max (((figure s.thm 3 + 3) / 4 : Nat) : Int) (min (s.point 3).value ((2 * figure s.thm 3 : Nat) : Int))
      else max (((figure s.thm 3 + 3) / 4 : Nat) : Int) (min (((figure s.thm 3 + 3) / 4 : Nat) : Int) ((2 * figure s.thm 3 : Nat) : Int))))
    (hss : ss = (((figure s.thm 0 * i + figure s.thm 1 * i * i / 4096) / 65536 * (4096 * figure s.thm 3 / q.toNat) / 4096 : Nat) : Int))
    (htc : tc = (if (s.point 2).live then (s.point 2).value else signedFigure s.thm 5))
    (hd : d = ss - s.thermal.rises.getD m 0) :
    ∃ t rise, moduleUpdate s m = t ∧
      (d = 0 → rise = s.thermal.rises.getD m 0) ∧
      (d ≠ 0 → Int.tdiv (d * figure s.thm 2) 65536 = 0 → rise = s.thermal.rises.getD m 0 + d.sign) ∧
      (Int.tdiv (d * figure s.thm 2) 65536 ≠ 0 →
        rise = s.thermal.rises.getD m 0 + Int.tdiv (d * figure s.thm 2) 65536) ∧
      t = { s with
        points := s.points.set (46 + m) { value := max (-400) (min (tc + rise) 2000), quality := .fresh, age := 0 }
        thermal := { s.thermal with rises := s.thermal.rises.set m rise } } := by
  have hcurrent : s.moduleCurrent m = i := hi.symm
  have hflow : s.flowValue = q := by
    rw [hq]
    unfold State.flowValue
    dsimp only
    split
    · rfl
    · rfl
  have hrise : (s.correctedRise (s.moduleCurrent m) : Int) = ss := by
    rw [hss, hcurrent, State.correctedRise, hflow]
    rfl
  have hinlet : s.inletTemperature = tc := htc.symm
  obtain ⟨hthere, hstep, hshare⟩ := moveRise_cases (figure s.thm 2) ss (s.thermal.rises.getD m 0)
  rw [← hd] at hthere hstep hshare
  refine ⟨_, newRise m s, moduleUpdate_of_enabled hmask, ?_, ?_, ?_, ?_⟩
  · rw [newRise, hrise]
    exact hthere
  · rw [newRise, hrise]
    exact hstep
  · rw [newRise, hrise]
    exact hshare
  · rw [withRise, hinlet]
    rfl

/-- Settles O43: the estimate of a module, pump, fans, the seeding and the hottest module, the conditions, and their order. -/
theorem coolingFollowsTheTemperatures : Obligations.CoolingFollowsTheTemperatures := by
  refine ⟨fun m s i q ss tc d _ hmask _ _ hi hq hss htc hd => moduleUpdate_frame hmask hi hq hss htc hd,
    fun s demand target command speed _ hdemand htarget hcommand hspeed =>
      ⟨_, _, pumpUpdate_frame hdemand htarget hcommand hspeed, fun c => ceilDiv_le_iff _ c, rfl⟩,
    fun s k hk hthree => fanUpdate_frame hk hthree, fun m s hmask => moduleUpdate_of_masked hmask,
    fun s after hrises hzero hsteps hpoints hmask => junctionUpdate_frame hrises hzero hsteps hpoints hmask, fun s t ht hlength => ?_,
    fun s => rfl⟩
  rw [ht]
  exact thermalConditions_frame hlength

end Sys2Proof.Safety
end

section
/-! SUPPORT. What entering a step, the end of a move and a gain or withdrawal of the grant write (R126 to R136). -/

set_option Elab.async false

namespace Sys2Proof.Machine

open Sys2Proof.Safety

/-! ## The output pattern and step 0 (R128) -/

theorem moveDirection_eq (s : State) : s.moveDirection = (s.sequencer.record.map (·.direction)).getD 0 := by
  unfold State.moveDirection
  cases s.sequencer.record <;> rfl

theorem moveDrives_eq (s : State) : s.moveDrives = (s.sequencer.record.map (·.driveMask)).getD 0 := by
  unfold State.moveDrives
  cases s.sequencer.record <;> rfl

theorem points_outputWrite (n : Nat) (v : Int) (s : State) :
    (outputWrite n v s).points = s.points.set n { value := v, quality := .fresh, age := 0 } := rfl

theorem writePattern_eq (k : Nat) (s : State) : writePattern k s = { s with points := stepPoints k s } := by
  have hrest : writePattern k s = { s with points := (writePattern k s).points } :=
    eq_of_output (eq_of_output (eq_of_output (eq_of_output (eq_of_output rfl 36 _) 37 _) 38 _) 39 _) 60 _
  have hpoints : (writePattern k s).points = stepPoints k s := by
    simp only [writePattern, points_outputWrite, stepPoints, List.foldl_cons, List.foldl_nil, stepDirection, ← moveDirection_eq,
      ← moveDrives_eq]
    rfl
  rw [← hpoints]
  exact hrest

theorem stepPoints_zero (s : State) : stepPoints 0 s = parkedPoints s.points := by
  have hstep : yawStep s.yst 0 = .parked := rfl
  simp [stepPoints, parkedPoints, hstep, YawStep.parked]

theorem enterParked_eq (s : State) : enterParked s = inStepZero s := by
  unfold enterParked trackerStepEntry
  dsimp only
  rw [if_pos rfl, writePattern_eq, stepPoints_zero]
  rfl

/-- The expected-edge timer after an entry into a step (R115). -/
def entryTimer (motion : Bool) (direction : Int) (s : State) : Option EdgeTimer :=
  if motion = true ∧ (direction = 1 ∨ direction = -1) then
    some { start := s.timebase, limit := s.tracker.baseTime * s.edgeTimeout / 128 } else none

/-- The state with step `k` entered (R128). -/
def inStep (k : Nat) (direction : Int) (s : State) : State :=
  { s with
    points := stepPoints k s
    sequencer := { s.sequencer with step := k, commits := 0, counts := 0 }
    tracker := { s.tracker with timer := entryTimer (yawStep s.yst k).motion direction s } }

theorem trackerStepEntry_eq {k : Nat} (hk : k ≠ 0) (motion : Bool) (direction : Int) (s : State) :
    trackerStepEntry k motion direction s = { s with tracker := { s.tracker with timer := entryTimer motion direction s } } := by
  unfold trackerStepEntry entryTimer
  rw [if_neg hk]
  by_cases htimer : motion = true ∧ (direction = 1 ∨ direction = -1)
  · rw [if_pos htimer, if_pos (by rw [htimer.1, decide_eq_true htimer.2]; rfl)]
    rfl
  · rw [if_neg htimer, if_neg (fun h => htimer (by rwa [Bool.and_eq_true, decide_eq_true_eq] at h))]

theorem enterStepOnce_eq {k : Nat} (hk : k ≠ 0) {direction : Int} {s : State}
    (hdirection : direction = stepDirection (yawStep s.yst k) s.moveDirection) : enterStepOnce k none s = inStep k direction s := by
  unfold enterStepOnce
  rw [writePattern_eq]
  dsimp only
  rw [trackerStepEntry_eq hk, hdirection]
  rfl

theorem onTarget_eq_true_iff {s : State} : s.onTarget = true ↔ WithinStopBand s := by
  unfold State.onTarget WithinStopBand
  cases s.sequencer.record with
  | none => exact ⟨fun h => Bool.noConfusion h, fun ⟨r, hr, _⟩ => by cases hr⟩
  | some r =>
    dsimp only
    rw [decide_eq_true_eq]
    exact ⟨fun h => ⟨r, rfl, h⟩, fun ⟨r', hr', h⟩ => by cases hr'; exact h⟩

/-! ## Steps that chain and steps that do not (R128, R131) -/

theorem enterStepChain_succ {fuel k : Nat} (hk : k ≠ 0) (start : Option Bool) (s : State) :
    enterStepChain (fuel + 1) k start s =
      if (yawStep (enterStepOnce k start s).yst k).trigger = trigImmediate ∨
          ((yawStep (enterStepOnce k start s).yst k).trigger = trigOnTarget ∧ (enterStepOnce k start s).onTarget = true) then
        enterStepChain fuel (yawStep (enterStepOnce k start s).yst k).next none (enterStepOnce k start s)
      else enterStepOnce k start s := by
  rw [enterStepChain, if_neg hk]

/-- A step at which a chain of entries ends under every state: step 0, or one whose trigger is neither IMMEDIATE nor
ON_TARGET. -/
def EndsChain (yst : List Word) (k : Nat) : Prop :=
  k = 0 ∨ ¬ ((yawStep yst k).trigger = 5 ∨ (yawStep yst k).trigger = 2)

theorem yst_enterStepOnce (k : Nat) (start : Option Bool) (s : State) : (enterStepOnce k start s).yst = s.yst := by
  have hentry : ∀ (m : Bool) (d : Int) (u : State), (trackerStepEntry k m d u).yst = u.yst := by
    intro m d u
    unfold trackerStepEntry startEdgeTimer
    split
    · rfl
    · split <;> rfl
  unfold enterStepOnce
  rw [writePattern_eq]
  dsimp only
  cases start with
  | none => exact hentry ..
  | some resume => exact hentry ..

/-- Fuel beyond the length of the chain changes nothing. -/
theorem enterStepChain_fuel {m : Nat} {k : Nat} {start : Option Bool} {s : State} {fuel : Nat}
    (hends : EndsChain s.yst ((fun j => (yawStep s.yst j).next)^[m] k)) (hfuel : m < fuel) :
    enterStepChain fuel k start s = enterStepChain (fuel + 1) k start s := by
  induction m generalizing k start s fuel with
  | zero =>
    obtain ⟨f, rfl⟩ : ∃ f, fuel = f + 1 := ⟨fuel - 1, by omega⟩
    by_cases hk : k = 0
    · rw [enterStepChain, enterStepChain, if_pos hk, if_pos hk]
    · have hstays : ¬ ((yawStep s.yst k).trigger = 5 ∨ (yawStep s.yst k).trigger = 2) := hends.resolve_left hk
      have hno : ¬ ((yawStep (enterStepOnce k start s).yst k).trigger = trigImmediate ∨
          ((yawStep (enterStepOnce k start s).yst k).trigger = trigOnTarget ∧ (enterStepOnce k start s).onTarget = true)) := by
        rw [yst_enterStepOnce]
        exact fun h => hstays (h.imp_right And.left)
      rw [enterStepChain_succ hk, enterStepChain_succ hk, if_neg hno, if_neg hno]
  | succ m ih =>
    obtain ⟨f, rfl⟩ : ∃ f, fuel = f + 1 := ⟨fuel - 1, by omega⟩
    by_cases hk : k = 0
    · rw [enterStepChain, enterStepChain, if_pos hk, if_pos hk]
    · rw [enterStepChain_succ hk, enterStepChain_succ hk]
      split
      · refine ih ?_ (by omega)
        rw [yst_enterStepOnce]
        exact hends
      · rfl

/-! ## A valid step table has no endless chain (R150) -/

theorem not_stepFails_of_valid {yst : List Word} (hvalid : ∀ w, ¬ WordFails 6 yst w) {k : Nat} (hk : 1 ≤ k) (hk7 : k ≤ 7) :
    ¬ StepFails yst k :=
  fun h => hvalid (2 + 5 * (k - 1)) (.inr ⟨k, hk, hk7, rfl, h⟩)

theorem next_le_of_valid {yst : List Word} (hvalid : ∀ w, ¬ WordFails 6 yst w) {k : Nat} (hk7 : k ≤ 7) :
    (yawStep yst k).next ≤ 7 := by
  rcases Nat.eq_zero_or_pos k with rfl | hk
  · exact Nat.zero_le 7
  · have hstep := not_stepFails_of_valid hvalid hk hk7
    simp only [StepFails, not_or] at hstep
    obtain ⟨-, -, -, -, hnext, -⟩ := hstep
    omega

/-- Eight steps in a row cannot all chain: two of them are the same, and the table fails its validation. -/
theorem exists_endsChain_of_valid {yst : List Word} (hvalid : ∀ w, ¬ WordFails 6 yst w) {k : Nat} (hk7 : k ≤ 7) :
    ∃ m, m < 8 ∧ EndsChain yst ((fun j => (yawStep yst j).next)^[m] k) := by
  by_contra hnone
  set chain : Nat → Nat := fun m => (fun j => (yawStep yst j).next)^[m] k with hchain
  have hsucc : ∀ m, chain (m + 1) = (yawStep yst (chain m)).next := fun m => Function.iterate_succ_apply' _ m k
  have hle : ∀ m, chain m ≤ 7 := by
    intro m
    induction m with
    | zero => exact hk7
    | succ m ih => rw [hsucc]; exact next_le_of_valid hvalid ih
  have hchains : ∀ m, m < 8 → 1 ≤ chain m ∧ ((yawStep yst (chain m)).trigger = 5 ∨ (yawStep yst (chain m)).trigger = 2) := by
    intro m hm
    have hstays : ¬ EndsChain yst (chain m) := fun h => hnone ⟨m, hm, h⟩
    exact ⟨Nat.pos_of_ne_zero fun h => hstays (.inl h), not_not.1 fun h => hstays (.inr h)⟩
  obtain ⟨i, hi, j, hj, hne, hsame⟩ : ∃ i ∈ Finset.range 8, ∃ j ∈ Finset.range 8, i ≠ j ∧ chain i = chain j :=
    Finset.exists_ne_map_eq_of_card_lt_of_maps_to (t := Finset.Icc 1 7) (by simp)
      (fun m hm => Finset.mem_Icc.2 ⟨(hchains m (Finset.mem_range.1 hm)).1, hle m⟩)
  rw [Finset.mem_range] at hi hj
  have hrepeats : ∃ i j, i < j ∧ j < 8 ∧ chain i = chain j := by
    rcases Nat.lt_or_gt_of_ne hne with h | h
    · exact ⟨i, j, h, hj, hsame⟩
    · exact ⟨j, i, h, hi, hsame.symm⟩
  obtain ⟨i, j, hij, hj, hsame⟩ := hrepeats
  refine not_stepFails_of_valid hvalid (hchains 0 (by omega)).1 (hle 0) ?_
  exact .inr (.inr (.inr (.inr (.inr (.inr (.inr ⟨chain, rfl, hsucc, i, j, hij, hsame,
    fun m hm => ⟨(hchains m (by omega)).1, hle m, (hchains m (by omega)).2⟩⟩))))))

/-- An entry into a step that chains enters the next step in the same event (R131). -/
theorem enterStep_of_chains {k : Nat} {s : State} (hk : k ≠ 0) (hk7 : k ≤ 7) (hvalid : ∀ w, ¬ WordFails 6 s.yst w)
    (hchains : (yawStep s.yst k).trigger = 5 ∨ ((yawStep s.yst k).trigger = 2 ∧ WithinStopBand (enterStepOnce k none s))) :
    enterStep k s = enterStep (yawStep s.yst k).next (enterStepOnce k none s) := by
  have hyst := yst_enterStepOnce k none s
  unfold enterStep
  rw [enterStepChain_succ hk, if_pos (by rw [hyst, onTarget_eq_true_iff]; exact hchains), hyst]
  obtain ⟨m, hm, hends⟩ := exists_endsChain_of_valid hvalid (next_le_of_valid hvalid hk7)
  exact enterStepChain_fuel (by rw [hyst]; exact hends) hm

/-- An entry into a step that does not chain ends there (R128). -/
theorem enterStepChain_of_stays {fuel k : Nat} {start : Option Bool} {s : State} (hk : k ≠ 0)
    (himmediate : (yawStep s.yst k).trigger ≠ 5)
    (htarget : (yawStep s.yst k).trigger = 2 → ¬ WithinStopBand (enterStepOnce k start s)) :
    enterStepChain (fuel + 1) k start s = enterStepOnce k start s := by
  rw [enterStepChain_succ hk, if_neg]
  rw [yst_enterStepOnce, onTarget_eq_true_iff]
  exact fun h => h.elim himmediate (fun h => htarget h.1 h.2)

end Sys2Proof.Machine
end

section
/-! SUPPORT. The sequencer at a commit, at a step timeout and at an entry into a step (O50). -/

set_option Elab.async false

namespace Sys2Proof.Machine

open Sys2Proof.Safety

/-! ## The points of an output pattern (R128) -/

theorem length_writePattern (k : Nat) (s : State) : (writePattern k s).points.length = s.points.length := by
  unfold writePattern outputWrite
  simp only [List.length_set]

theorem point_writePattern_ne {n : Nat} (hn : n ∉ [36, 37, 38, 39, 60]) (k : Nat) (s : State) :
    (writePattern k s).point n = s.point n := by
  simp only [List.mem_cons, List.not_mem_nil, or_false, not_or] at hn
  obtain ⟨h36, h37, h38, h39, h60⟩ := hn
  unfold writePattern
  rw [point_outputWrite_ne (Ne.symm h60), point_outputWrite_ne (Ne.symm h39), point_outputWrite_ne (Ne.symm h38),
    point_outputWrite_ne (Ne.symm h37), point_outputWrite_ne (Ne.symm h36)]

/-- The five outputs of a pattern, each written in its order (R128). -/
theorem points_writePattern {k : Nat} {s : State} (hlength : s.points.length = 256) :
    (writePattern k s).point 36 = { value := (yawStep s.yst k).brake, quality := .fresh, age := 0 } ∧
    (writePattern k s).point 37 =
      { value := (((yawStep s.yst k).drives &&& s.moveDrives &&& s.installedDrives : Nat) : Int), quality := .fresh, age := 0 } ∧
    (writePattern k s).point 38 = { value := stepDirection (yawStep s.yst k) s.moveDirection, quality := .fresh, age := 0 } ∧
    (writePattern k s).point 39 = { value := (yawStep s.yst k).speed, quality := .fresh, age := 0 } ∧
    (writePattern k s).point 60 = { value := k, quality := .fresh, age := 0 } := by
  have hlen : ∀ (n : Nat) (v : Int) (u : State), (outputWrite n v u).points.length = u.points.length :=
    fun n v u => List.length_set
  unfold writePattern
  refine ⟨?_, ?_, ?_, ?_, ?_⟩
  · rw [point_outputWrite_ne (by decide), point_outputWrite_ne (by decide), point_outputWrite_ne (by decide),
      point_outputWrite_ne (by decide), point_outputWrite_same (by omega)]
  · rw [point_outputWrite_ne (by decide), point_outputWrite_ne (by decide), point_outputWrite_ne (by decide),
      point_outputWrite_same (by simp only [hlen]; omega)]
  · rw [point_outputWrite_ne (by decide), point_outputWrite_ne (by decide), point_outputWrite_same (by simp only [hlen]; omega)]
  · rw [point_outputWrite_ne (by decide), point_outputWrite_same (by simp only [hlen]; omega)]
  · rw [point_outputWrite_same (by simp only [hlen]; omega)]

/-! ## The end of a move (R132, R146) -/

theorem decisionMoveEnd_of_not_seek {mode : YawMode} {cause : EndCause} (hmode : mode ≠ .seek) (hcause : cause ≠ .refused)
    (s : State) : decisionMoveEnd mode cause s = { s with decision := { s.decision with startDwell := 0 } } := by
  unfold decisionMoveEnd
  dsimp only
  rw [if_neg hcause]
  exact if_neg (fun h => hmode h.1)

theorem endMove_eq {cause : EndCause} {s : State} {r : MoveRecord} (hrecord : s.sequencer.record = some r)
    (hmode : r.mode ≠ .seek) (hcause : cause ≠ .refused) :
    endMove cause s = moveGone (if s.sequencer.step = 0 then s else inStepZero s) := by
  unfold endMove
  rw [hrecord]
  dsimp only
  rw [decisionMoveEnd_of_not_seek hmode hcause, enterParked_eq]
  rfl

/-! ## The sequencer at a commit (R129, R130) -/

theorem commitTrigger_iff {s : State} {y : YawStep} :
    s.commitTrigger y = true ↔ (y.trigger = 0 ∧ y.argument ≤ s.sequencer.commits) ∨
      (y.trigger = 3 ∧ ((s.point 6).quality = .fresh ∨ (s.point 6).quality = .forced) ∧
        (s.point 6).value ≤ (y.argument : Int)) ∨
      (y.trigger = 4 ∧ ((s.point 6).quality = .fresh ∨ (s.point 6).quality = .forced) ∧
        (y.argument : Int) ≤ (s.point 6).value) ∨
      (y.trigger = 2 ∧ WithinStopBand s) := by
  have hlive : (s.point 6).live = true ↔ (s.point 6).quality = .fresh ∨ (s.point 6).quality = .forced := by
    unfold Point.live
    cases (s.point 6).quality <;> simp
  unfold State.commitTrigger
  simp only [Bool.or_eq_true, Bool.and_eq_true, beq_iff_eq, decide_eq_true_eq, hlive, onTarget_eq_true_iff, and_assoc, or_assoc]
  rfl

theorem sequencerCommit_parked {defer : Bool} {s : State} (hstep : s.sequencer.step = 0) :
    sequencerCommit defer s = { s with points := stepPoints 0 s } := by
  unfold sequencerCommit
  rw [writePattern_eq, if_pos hstep, hstep]

/-- The state with the sequencer's outputs refreshed and the commit counted. -/
def commitCounted (s : State) : State :=
  { s with
    points := stepPoints s.sequencer.step s
    sequencer := { s.sequencer with commits := min 65535 (s.sequencer.commits + 1) } }

theorem sequencerCommit_moving {defer : Bool} {s : State} (hstep : s.sequencer.step ≠ 0) :
    sequencerCommit defer s =
      if (commitCounted s).commitTrigger (yawStep s.yst s.sequencer.step) = true then
        enterStep (yawStep s.yst s.sequencer.step).next (commitCounted s)
      else if (yawStep s.yst s.sequencer.step).timeout ≠ 0 ∧
          (yawStep s.yst s.sequencer.step).timeout ≤ (commitCounted s).sequencer.commits then
        (if defer = true then (commitCounted s).addDue .stepTimeout else stepTimeout (commitCounted s))
      else commitCounted s := by
  unfold sequencerCommit
  rw [writePattern_eq, if_neg hstep]
  rfl

/-! ## The step timeout (R130) -/

theorem stepTimeout_moving {s : State} (hstep : s.sequencer.step ≠ 0) :
    stepTimeout s =
      if (raise fcStepTimeout s.sequencer.step s).sequencer.phase = .running then
        enterStep (yawStep s.yst s.sequencer.step).timeoutStep (raise fcStepTimeout s.sequencer.step s)
      else raise fcStepTimeout s.sequencer.step s := by
  have hyst : (raise fcStepTimeout s.sequencer.step s).yst = s.yst := (FaultsOnly.raise ..).kept State.yst
  unfold stepTimeout
  rw [if_neg hstep]
  dsimp only
  rw [hyst]

end Sys2Proof.Machine

namespace Sys2Proof.Safety

open Sys2Proof.Machine

/-- Settles O50: the step timeout's consequence, the sequencer's commit in its branches, and the entries into a chaining
step, a step that stays and step 0. -/
theorem stepTimeoutEntersItsStep : Obligations.StepTimeoutEntersItsStep := by
  unfold Obligations.StepTimeoutEntersItsStep
  intro s k y hy
  subst hy
  refine ⟨?_, ?_, ?_, ?_, ?_⟩
  · intro hdue hstep
    have hexec : exec .yawStepTimeout s = .next (stepTimeout { s with due := [] }) :=
      congrArg Host.Outcome.next (takeDue_of_single hdue rfl)
    rw [hexec]
    subst hstep
    refine ⟨fun hzero => ?_, fun hmoves => ⟨_, rfl, fun hphase => ?_, fun hphase => ?_⟩⟩
    · unfold stepTimeout
      rw [if_pos hzero]
    · rw [stepTimeout_moving (s := { s with due := [] }) hmoves, if_pos hphase]
      rfl
    · rw [stepTimeout_moving (s := { s with due := [] }) hmoves, if_neg hphase]
  · intro hstep u p met hp hu hmet defer
    subst hstep
    refine ⟨fun hzero => ?_, ?_⟩
    · rw [sequencerCommit_parked hzero, hu, if_pos hzero, hzero]
    · suffices hmoves : s.sequencer.step ≠ 0 → u = commitCounted s ∧
          (met ↔ (commitCounted s).commitTrigger (yawStep s.yst s.sequencer.step) = true) by
        refine ⟨fun h0 hm => ?_, fun h0 hm htimeout hcommits => ?_, fun h0 hm htimeout => ?_⟩ <;>
          obtain ⟨rfl, htrigger⟩ := hmoves h0
        · rw [sequencerCommit_moving h0, if_pos (htrigger.1 hm)]
        · have hcommit (d : Bool) : sequencerCommit d s =
              if d = true then (commitCounted s).addDue .stepTimeout else stepTimeout (commitCounted s) := by
            rw [sequencerCommit_moving h0, if_neg (fun h => hm (htrigger.2 h)), if_pos ⟨htimeout, hcommits⟩]
          exact ⟨hcommit true, hcommit false⟩
        · rw [sequencerCommit_moving h0, if_neg (fun h => hm (htrigger.2 h)), if_neg]
          rintro ⟨h1, h2⟩
          exact htimeout.elim h1 (fun h => absurd h2 (Nat.not_le.2 h))
      intro hmoves
      have hu : u = commitCounted s := by rw [hu, if_neg hmoves]; rfl
      have hpoint : (commitCounted s).point 6 = p := by
        have hpattern := point_writePattern_ne (n := 6) (by decide) s.sequencer.step s
        rw [writePattern_eq] at hpattern
        rw [hp]
        exact hpattern
      refine ⟨hu, ?_⟩
      rw [hmet, commitTrigger_iff, hpoint, hu]
  · intro hk hvalid hchains hk8 direction hdirection
    have honce : enterStepOnce k none s = inStep k direction s :=
      enterStepOnce_eq hk (by rw [hdirection, moveDirection_eq]; rfl)
    have hentry := enterStep_of_chains hk (by omega) hvalid
      (hchains.imp_right (fun h => ⟨h.1, by rw [honce]; exact h.2⟩))
    rw [hentry, honce]
    rfl
  · intro hk himmediate htarget hlength r dir hrecord hdir
    have hmove : s.moveDirection = r.direction := by rw [moveDirection_eq, hrecord]; rfl
    have hdrives : s.moveDrives = r.driveMask := by rw [moveDrives_eq, hrecord]; rfl
    have hstep : dir = stepDirection (yawStep s.yst k) s.moveDirection := by rw [hdir, hmove]; rfl
    have honce : enterStepOnce k none s = inStep k dir s := enterStepOnce_eq hk hstep
    have hentry : enterStep k s = inStep k dir s := by
      unfold enterStep
      rw [enterStepChain_of_stays hk himmediate (by rw [honce]; exact htarget), honce]
    have hpoints : ∀ n, (inStep k dir s).point n = (writePattern k s).point n := by
      intro n
      rw [writePattern_eq]
      rfl
    obtain ⟨h36, h37, h38, h39, h60⟩ := points_writePattern (k := k) hlength
    refine ⟨_, hentry, ?_, ?_, ?_, ?_, ?_, ?_, rfl⟩
    · rw [hpoints, h36]
    · rw [hpoints, h37, hdrives]
      rfl
    · rw [hpoints, h38, hstep]
    · rw [hpoints, h39]
    · rw [hpoints, h60]
    · intro n hn
      rw [hpoints, point_writePattern_ne hn]
  · intro hsome hmode hlength
    obtain ⟨r, hrecord⟩ := Option.isSome_iff_exists.1 hsome
    have hend : enterStep 0 s = moveGone (inStepZero s) := by
      have hentry : enterStep 0 s = endMove .completed (enterParked s) := rfl
      rw [hentry, enterParked_eq, endMove_eq (s := inStepZero s) hrecord (hmode r hrecord) (by decide)]
      exact congrArg moveGone (if_pos rfl)
    have hpoints : ∀ n, (moveGone (inStepZero s)).point n = (writePattern 0 s).point n := by
      intro n
      rw [writePattern_eq, stepPoints_zero]
      rfl
    obtain ⟨h36, h37, h38, h39, h60⟩ := points_writePattern (k := 0) hlength
    have hparked : yawStep s.yst 0 = .parked := rfl
    rw [hparked] at h36 h37 h38 h39
    refine ⟨_, hend, fun n hn => ?_, fun n hn => ?_, rfl⟩
    · simp only [List.mem_cons, List.not_mem_nil, or_false] at hn
      rw [hpoints]
      rcases hn with rfl | rfl | rfl | rfl | rfl
      · exact h36
      · rw [h37]; simp [YawStep.parked]
      · exact h38
      · exact h39
      · exact h60
    · rw [hpoints, point_writePattern_ne hn]

end Sys2Proof.Safety
end

section
/-! SUPPORT. The grants, their hand-overs and AUX_SHORT (O45). -/

set_option Elab.async false

namespace Sys2Proof.Machine

open Sys2Proof.Safety

/-! ## The fan stage a remainder buys (R101) -/

theorem largestStage_le (kw remainder claim : Nat) : largestStage kw remainder claim ≤ claim := by
  induction claim with
  | zero => exact Nat.le_refl 0
  | succ k ih =>
    rw [largestStage]
    split
    · exact Nat.le_refl _
    · omega

theorem largestStage_affordable (kw remainder claim : Nat) : largestStage kw remainder claim * kw ≤ remainder := by
  induction claim with
  | zero => rw [largestStage, Nat.zero_mul]; exact Nat.zero_le _
  | succ k ih =>
    rw [largestStage]
    split
    · next h => exact h
    · exact ih

theorem le_largestStage {kw remainder claim k : Nat} (hk : k ≤ claim) (hkw : k * kw ≤ remainder) :
    k ≤ largestStage kw remainder claim := by
  induction claim with
  | zero => exact hk
  | succ n ih =>
    rw [largestStage]
    split
    · exact hk
    · next h =>
      rcases Nat.lt_or_eq_of_le hk with hlt | rfl
      · exact ih (Nat.le_of_lt_succ hlt)
      · exact absurd hkw h

theorem yawGrantOf_le (kwPerDrive remainder : Nat) (claim : Option Nat) :
    (yawGrantOf kwPerDrive remainder claim).getD 0 ≤ remainder := by
  unfold yawGrantOf
  cases claim with
  | none => exact Nat.zero_le _
  | some drives =>
    dsimp only
    split
    · next h => exact h
    · exact Nat.zero_le _

/-! ## AUX_SHORT is no code of the sequencer's (R132, R136, R145) -/

theorem fault_raiseQuiet_ne {j k : Nat} (h : j ≠ k) (ho : j ≠ fcLogOverwrite) (c : Int) (s : State) :
    (raiseQuiet k c s).fault j = s.fault j :=
  (fault_recomputeSince s _ j).trans (fault_raiseRecord_ne h ho c s)

theorem fault_endQuiet_ne {j k : Nat} (h : j ≠ k) (ho : j ≠ fcLogOverwrite) (s : State) :
    (endQuiet k s).fault j = s.fault j :=
  (fault_recomputeSince s _ j).trans (fault_endRecord_ne h ho s)

theorem fault_judgeQuiet_ne {j k : Nat} (h : j ≠ k) (ho : j ≠ fcLogOverwrite) (present : Bool) (c : Int) (s : State) :
    (judgeQuiet k present c s).fault j = s.fault j := by
  unfold judgeQuiet
  split
  · exact fault_raiseQuiet_ne h ho c s
  · split
    · exact fault_endQuiet_ne h ho s
    · rfl

/-- A judgement reads the same whether or not it is handed on to the sequencer. -/
theorem condition_judgeQuiet {k : Nat} {present : Bool} {s : State} (hl : levelCode k = true)
    (hk : present = true → k < s.faults.length) (c : Int) : (judgeQuiet k present c s).condition k = present := by
  obtain ⟨hj, ho⟩ := levelCode_ne hl
  have hsame : (judgeQuiet k present c s).fault k = (judge k present c s).fault k := by
    unfold judgeQuiet judge
    split
    · exact (fault_recomputeSince ..).trans (fault_raise hj ho k c s).symm
    · split
      · exact (fault_recomputeSince ..).trans (fault_endCondition hj ho k s).symm
      · rfl
  exact (congrArg FaultRecord.condition hsame).trans (condition_judge hl hk c)

theorem auxShort_blockRefused (s : State) : (blockRefused s).fault fcAuxShort = s.fault fcAuxShort := by
  unfold blockRefused
  dsimp only
  refine (fault_judgeQuiet_ne (by decide) (by decide) _ _ _).trans ?_
  split
  · exact fault_judgeQuiet_ne (by decide) (by decide) _ _ _
  · rfl

theorem auxShort_enterParked (s : State) : (enterParked s).fault fcAuxShort = s.fault fcAuxShort :=
  congrArg (·.getD fcAuxShort .reset) (enterParked_faults s)

/-- The decision's answer to a SEEK move that ends in mode SEEK (R145). -/
theorem auxShort_seekFailed (s : State) :
    (setYawMode .hold (raiseQuiet fcSeekFailed s.tracker.heading s)).fault fcAuxShort = s.fault fcAuxShort :=
  fault_raiseQuiet_ne (by decide) (by decide) _ s

theorem auxShort_decisionMoveEnd (mode : YawMode) (cause : EndCause) (s : State) :
    (decisionMoveEnd mode cause s).fault fcAuxShort = s.fault fcAuxShort := by
  have hdwell : ∀ u : State, u.fault fcAuxShort = s.fault fcAuxShort →
      (if mode = .seek ∧ u.decision.mode = .seek then
        setYawMode .hold (raiseQuiet fcSeekFailed u.tracker.heading u) else u).fault fcAuxShort = s.fault fcAuxShort := by
    intro u hu
    split
    · exact (auxShort_seekFailed u).trans hu
    · exact hu
  unfold decisionMoveEnd
  apply hdwell
  split
  · exact auxShort_blockRefused _
  · rfl

theorem auxShort_endMove (cause : EndCause) (s : State) : (endMove cause s).fault fcAuxShort = s.fault fcAuxShort := by
  unfold endMove
  split
  · rfl
  · refine (auxShort_decisionMoveEnd ..).trans ?_
    split
    · rfl
    · exact auxShort_enterParked s

theorem fault_enterStepOnce (j k : Nat) (start : Option Bool) (s : State) :
    (enterStepOnce k start s).fault j = s.fault j := by
  have hpattern : (writePattern k s).fault j = s.fault j := congrArg (·.getD j .reset) (writePattern_faults k s)
  have hentry : ∀ (m : Bool) (d : Int) (u : State), (trackerStepEntry k m d u).fault j = u.fault j :=
    fun m d u => congrArg (·.getD j .reset) (trackerStepEntry_faults k m d u)
  unfold enterStepOnce
  cases start with
  | none => exact (hentry ..).trans hpattern
  | some resume => exact (hentry ..).trans hpattern

/-- Of the entries of a chain only the end of a move raises a code, YAW_SEEK_FAILED (R146). -/
theorem fault_enterStepChain {j : Nat} (hj : j ≠ fcSeekFailed) (ho : j ≠ fcLogOverwrite) (fuel k : Nat) (start : Option Bool)
    (s : State) : (enterStepChain fuel k start s).fault j = s.fault j := by
  induction fuel generalizing k start s with
  | zero => rfl
  | succ fuel ih =>
    unfold enterStepChain
    dsimp only
    split
    · exact (fault_endMove (by decide) hj ho _).trans (congrArg (·.getD j .reset) (enterParked_faults s))
    · split
      · exact (ih ..).trans (fault_enterStepOnce ..)
      · exact fault_enterStepOnce ..

theorem auxShort_gainGrant (s : State) : (gainGrant s).fault fcAuxShort = s.fault fcAuxShort := by
  unfold gainGrant
  split
  · rfl
  · split
    · split
      · exact fault_enterStepChain (by decide) (by decide) ..
      · exact auxShort_endMove ..
    · rfl

theorem auxShort_withdrawMove (s : State) : (withdrawMove s).fault fcAuxShort = s.fault fcAuxShort := by
  unfold withdrawMove
  split
  · split
    · exact auxShort_endMove ..
    · exact auxShort_enterParked s
  · rfl

theorem auxShort_withdrawGrant (s : State) : (withdrawGrant s).fault fcAuxShort = s.fault fcAuxShort := by
  unfold withdrawGrant
  split
  · exact (auxShort_withdrawMove _).trans (fault_raise_ne (by decide) (by decide) (by decide) _ s)
  · rfl

/-! ## What a hand-over of the yaw grant leaves alone (R104, R134, R136) -/

theorem outsideEdges_gainGrant (s : State) : outsideEdges (gainGrant s) = outsideEdges s := by
  unfold gainGrant
  split
  · rfl
  · split
    · split
      · exact outsideEdges_enterStepChain ..
      · exact outsideEdges_of_moves (outsideMoves_endMove ..)
    · rfl

theorem outsideMoves_withdrawMove (s : State) : outsideMoves (withdrawMove s) = outsideMoves s := by
  unfold withdrawMove
  split
  · split
    · exact outsideMoves_endMove ..
    · exact outsideMoves_enterParked s
  · rfl

theorem outsideEdges_withdrawGrant (s : State) : outsideEdges (withdrawGrant s) = outsideEdges s := by
  unfold withdrawGrant
  split
  · exact outsideEdges_of_moves ((outsideMoves_withdrawMove _).trans (outsideMoves_raise ..))
  · rfl

/-- What AUX_SHORT is judged by, and its record, stand from `s` to `t` (R105). -/
structure ShortKept (s t : State) : Prop where
  pumpGrant : t.arbiter.pumpGrant = s.arbiter.pumpGrant
  pumpClaim : t.arbiter.pumpClaim = s.arbiter.pumpClaim
  fanGrant : t.arbiter.fanGrant = s.arbiter.fanGrant
  fanClaim : t.arbiter.fanClaim = s.arbiter.fanClaim
  banks : t.banks = s.banks
  record : t.fault fcAuxShort = s.fault fcAuxShort
  records : t.faults.length = s.faults.length

theorem arbiter_outsideEdges (s : State) :
    (outsideEdges s).arbiter = { s.arbiter with yawClaim := none, yawGrant := none } := rfl

theorem banks_outsideEdges (s : State) : (outsideEdges s).banks = s.banks := rfl

theorem ShortKept.of_edges {s t : State} (h : outsideEdges t = outsideEdges s)
    (hrecord : t.fault fcAuxShort = s.fault fcAuxShort) (hrecords : t.faults.length = s.faults.length) : ShortKept s t := by
  have harbiter := arbiter_outside ((arbiter_outsideEdges t).symm.trans ((congrArg State.arbiter h).trans (arbiter_outsideEdges s)))
  have hbanks : t.banks = s.banks := (banks_outsideEdges t).symm.trans ((congrArg State.banks h).trans (banks_outsideEdges s))
  exact ⟨by rw [harbiter], by rw [harbiter], by rw [harbiter], by rw [harbiter], hbanks, hrecord, hrecords⟩

theorem freeOfMoves_faults_length (n : Nat) : FreeOfMoves (fun t => t.faults.length = n) where
  quiet hu hv _ := (congrArg List.length (eq_of_view hv State.faults)).trans hu
  points _ _ _ hu := hu
  limit _ _ hu := hu
  managed hm _ hu := (congrArg List.length (faults_recomputeSince _ _)).trans (hm.faults_length.trans hu)

theorem ShortKept.gainGrant (s : State) : ShortKept s (gainGrant s) :=
  .of_edges (outsideEdges_gainGrant s) (auxShort_gainGrant s) (free_gainGrant (freeOfMoves_faults_length _) rfl)

theorem ShortKept.withdrawGrant (s : State) : ShortKept s (withdrawGrant s) :=
  .of_edges (outsideEdges_withdrawGrant s) (auxShort_withdrawGrant s) (free_withdrawGrant (freeOfMoves_faults_length _) rfl)

theorem ShortKept.refl (s : State) : ShortKept s s := ⟨rfl, rfl, rfl, rfl, rfl, rfl, rfl⟩

/-- The hand-over of the yaw grant by the grant held at the start, the grant now and the claim (R104). -/
theorem handGrant_eq (held : Bool) (s : State) :
    handGrant held s =
      if held = true ∧ s.arbiter.yawGrant = none ∧ s.arbiter.yawClaim.isSome = true then withdrawGrant s
      else if held = false ∧ s.arbiter.yawGrant.isSome = true then gainGrant s
      else s := by
  unfold handGrant
  cases held <;> cases s.arbiter.yawGrant <;> cases s.arbiter.yawClaim <;> simp

theorem ShortKept.handGrant (held : Bool) (s : State) : ShortKept s (handGrant held s) := by
  rw [handGrant_eq]
  split
  · exact .withdrawGrant s
  · split
    · exact .gainGrant s
    · exact .refl s

/-- AUX_SHORT judged on the grants that stand (R105). -/
theorem auxShort_judgeShort {s t : State} (h : ShortKept s t) (hlength : s.faults.length = 64) :
    ((judgeShort t).condition fcAuxShort = true ↔
      s.arbiter.pumpGrant < s.arbiter.pumpClaim ∨ s.arbiter.fanGrant < s.arbiter.fanClaim) ∧
    (s.condition fcAuxShort = false → (judgeShort t).condition fcAuxShort = true →
      ((judgeShort t).fault fcAuxShort).context = s.shortfall) := by
  obtain ⟨hpumpGrant, hpumpClaim, hfanGrant, hfanClaim, hbanks, hrecord, hrecords⟩ := h
  have hshortfall : t.shortfall = s.shortfall := by
    unfold State.shortfall State.fanKw State.plt State.active
    dsimp only
    rw [hpumpGrant, hpumpClaim, hfanGrant, hfanClaim, hbanks]
  have hk : fcAuxShort < t.faults.length := by rw [hrecords, hlength]; decide
  have hcondition := condition_judge (present := decide (t.arbiter.pumpGrant < t.arbiter.pumpClaim ∨
    t.arbiter.fanGrant < t.arbiter.fanClaim)) (k := fcAuxShort) (by decide) (fun _ => hk) t.shortfall
  unfold judgeShort
  dsimp only
  refine ⟨by rw [hcondition, decide_eq_true_eq, hpumpGrant, hpumpClaim, hfanGrant, hfanClaim], fun habsent hpresent => ?_⟩
  rw [hcondition] at hpresent
  have habsent : t.condition fcAuxShort = false := (congrArg FaultRecord.condition hrecord).trans habsent
  rw [hpresent, fault_judge_rising hk (by decide) habsent, ← hshortfall]
  rfl

/-! ## A gain of the yaw grant (R134) -/

theorem enterStepOnce_start {k : Nat} (hk : k ≠ 0) (resume : Bool) (s : State) :
    enterStepOnce k (some resume) s = { s with
      points := stepPoints k s
      sequencer := { s.sequencer with step := k, commits := 0, counts := 0 }
      tracker := { s.tracker with
        history := List.replicate 8 s.seedInterval
        baseTime := s.seedInterval
        lastEdge := none
        bounces := if resume = true then s.tracker.bounces else 0
        timer := if (yawStep s.yst k).motion = true ∧ (stepDirection (yawStep s.yst k) s.moveDirection = 1 ∨
            stepDirection (yawStep s.yst k) s.moveDirection = -1) then
          some { start := s.timebase, limit := s.seedInterval * s.edgeTimeout / 128 } else none } } := by
  unfold enterStepOnce
  rw [writePattern_eq]
  dsimp only
  rw [trackerStepEntry_eq hk]
  rfl

theorem startCheck_iff {s : State} {r : MoveRecord} :
    s.startCheck r = true ↔ ((s.tracker.twist + r.remaining).natAbs : Int) < s.twistHard ∨
      (r.target = .twist ∧ ((s.tracker.twist + r.remaining).natAbs : Int) < (s.tracker.twist.natAbs : Int)) := by
  unfold State.startCheck
  simp only [Bool.or_eq_true, Bool.and_eq_true, decide_eq_true_eq, beq_iff_eq]

/-! ## A move refused (R134, R145) -/

/-- The state with the record cleared and the planning block set, but for the seek that may have failed (R145). -/
theorem endMove_refused {s : State} {r : MoveRecord} (hrecord : s.sequencer.record = some r) :
    endMove .refused s =
      if r.mode = .seek ∧ (blockRefused (moveGone (if s.sequencer.step = 0 then s else inStepZero s))).decision.mode = .seek then
        setYawMode .hold (raiseQuiet fcSeekFailed
          (blockRefused (moveGone (if s.sequencer.step = 0 then s else inStepZero s))).tracker.heading
          (blockRefused (moveGone (if s.sequencer.step = 0 then s else inStepZero s))))
      else blockRefused (moveGone (if s.sequencer.step = 0 then s else inStepZero s)) := by
  unfold endMove
  rw [hrecord]
  dsimp only
  rw [enterParked_eq]
  rfl

/-- No move, no claim and the planning block set (R132, R97, R145). -/
structure Refused (s : State) : Prop where
  record : s.sequencer.record = none
  phase : s.sequencer.phase = .none
  blocked : s.decision.blocked = true
  claim : s.arbiter.yawClaim = none
  grant : s.arbiter.yawGrant = none

theorem Refused.of_actions {s t : State} (h : Refused s) (ht : outsideActions t = outsideActions s) : Refused t := by
  have hsequencer : t.sequencer = s.sequencer := (congrArg State.sequencer ht : _)
  have hdecision : t.decision = s.decision := (congrArg State.decision ht : _)
  have harbiter : t.arbiter = s.arbiter := (congrArg State.arbiter ht : _)
  exact ⟨hsequencer ▸ h.record, hsequencer ▸ h.phase, hdecision ▸ h.blocked, harbiter ▸ h.claim, harbiter ▸ h.grant⟩

theorem Refused.blockRefused (s : State) : Refused (blockRefused (moveGone s)) := by
  have hset : Refused { moveGone s with decision := { (moveGone s).decision with blocked := true } } :=
    ⟨rfl, rfl, rfl, rfl, rfl⟩
  unfold Machine.blockRefused
  dsimp only
  refine Refused.of_actions ?_ (outsideActions_judgeQuiet ..)
  split
  · exact hset.of_actions (outsideActions_judgeQuiet ..)
  · exact hset

theorem Refused.seekFailed {s : State} (h : Refused s) (c : Int) : Refused (setYawMode .hold (raiseQuiet fcSeekFailed c s)) := by
  have hraised : Refused (raiseQuiet fcSeekFailed c s) := h.of_actions (outsideActions_raiseQuiet ..)
  exact ⟨hraised.record, hraised.phase, hraised.blocked, hraised.claim, hraised.grant⟩

theorem twistLimit_of_blocked {s : State} (hblocked : s.decision.blocked = true) (hlength : s.faults.length = 64) (c : Int) :
    (judgeQuiet fcTwistLimit s.twistLimit c s).condition fcTwistLimit = true := by
  have hlimit : s.twistLimit = true := by unfold State.twistLimit; rw [hblocked, Bool.or_true]
  rw [hlimit]
  exact condition_judgeQuiet (by decide) (fun _ => by rw [hlength]; decide) c

theorem length_judgeQuiet_twistWarn {s : State} {n : Nat} (h : s.faults.length = n) (present : Bool) (c : Int) :
    (judgeQuiet fcTwistWarn present c s).faults.length = n :=
  free_judgeQuiet (freeOfMoves_faults_length n) h (by decide) present c

/-- YAW_TWIST_LIMIT is present under the planning block (R147). -/
theorem twistLimit_blockRefused {s : State} (hlength : s.faults.length = 64) :
    (blockRefused s).condition fcTwistLimit = true := by
  have hblocked : ({ s with decision := { s.decision with blocked := true } } : State).decision.blocked = true := rfl
  have hrecords : ({ s with decision := { s.decision with blocked := true } } : State).faults.length = 64 := hlength
  unfold blockRefused
  dsimp only
  generalize ({ s with decision := { s.decision with blocked := true } } : State) = u at hblocked hrecords ⊢
  split
  · refine twistLimit_of_blocked ?_ (length_judgeQuiet_twistWarn hrecords _ _) _
    have hkept : (outsideActions (judgeQuiet fcTwistWarn u.twistWarn s.tracker.twist u)).decision = (outsideActions u).decision :=
      congrArg State.decision (outsideActions_judgeQuiet ..)
    exact (congrArg Decision.blocked hkept).trans hblocked
  · exact twistLimit_of_blocked hblocked hrecords _

/-- A move that fails the start check ends as REFUSED (R134, R145). -/
theorem endMove_refused_effect {s : State} {r : MoveRecord} (hrecord : s.sequencer.record = some r) :
    Refused (endMove .refused s) ∧
    (s.faults.length = 64 → (endMove .refused s).condition fcTwistLimit = true) ∧
    ByFaultsOnly (moveGone (if s.sequencer.step = 0 then s else inStepZero s)) (endMove .refused s) := by
  have hlength : s.faults.length = 64 → (moveGone (if s.sequencer.step = 0 then s else inStepZero s)).faults.length = 64 := by
    split
    · exact id
    · exact id
  have hrefused := Refused.blockRefused (if s.sequencer.step = 0 then s else inStepZero s)
  rw [endMove_refused hrecord]
  generalize moveGone (if s.sequencer.step = 0 then s else inStepZero s) = u at hlength hrefused ⊢
  have hmoves : outsideMoves (blockRefused u) = outsideMoves u := outsideMoves_blockRefused u
  have hpoints : KeepsPoints u (blockRefused u) := .blockRefused u
  have hlimit : s.faults.length = 64 → (blockRefused u).condition fcTwistLimit = true := fun h => twistLimit_blockRefused (hlength h)
  generalize blockRefused u = v at hrefused hmoves hpoints hlimit ⊢
  split
  · refine ⟨hrefused.seekFailed _, fun h => ?_, byFaultsOnly_of ?_ ?_⟩
    · exact (congrArg FaultRecord.condition (fault_raiseQuiet_ne (by decide) (by decide) _ v)).trans (hlimit h)
    · rw [outsideMoves_setYawMode, outsideMoves_raiseQuiet, hmoves]
    · exact (hpoints.trans (.raiseQuiet ..)).trans (.setYawMode ..)
  · exact ⟨hrefused, hlimit, byFaultsOnly_of hmoves hpoints⟩

/-! ## The evaluation in its order (R103) -/

theorem lowerPump_eq {s : State} {speed : Nat} (hspeed : speed = s.arbiter.pumpGrant * 1000 / s.arbiter.grantPumpMax) :
    lowerPump s = if (speed : Int) < (s.point 40).value then withPumpSpeed speed s else s := by
  unfold lowerPump State.paidPumpSpeed
  rw [← hspeed, pumpWrite_eq]
  rfl

theorem lowerFan_eq (s : State) : lowerFan s = if (s.arbiter.fanGrant : Int) < (s.point 41).value then
    { s with points := s.points.set 41 { value := s.arbiter.fanGrant, quality := .fresh, age := 0 } } else s := rfl

/-- What the lowered outputs leave as the grants had it (R103). -/
theorem lowered_frame (u : State) : ∃ (points : List Point) (thermal : Thermal),
    lowerFan (lowerPump u) = { u with points := points, thermal := thermal } := by
  have hpump : ∃ (points : List Point) (thermal : Thermal), lowerPump u = { u with points := points, thermal := thermal } := by
    rw [lowerPump_eq rfl]
    split
    · exact ⟨_, _, rfl⟩
    · exact ⟨_, _, rfl⟩
  obtain ⟨points, thermal, hpump⟩ := hpump
  rw [hpump, lowerFan_eq]
  split
  · exact ⟨_, _, rfl⟩
  · exact ⟨_, _, rfl⟩

end Sys2Proof.Machine

namespace Sys2Proof.Safety

open Sys2Proof.Machine

/-- The grants of an evaluation (R100 to R102). -/
theorem writeGrants_grants (s : State) : ∃ a, writeGrants s = { s with arbiter := a } ∧
    a.pumpClaim = s.arbiter.pumpClaim ∧ a.fanClaim = s.arbiter.fanClaim ∧ a.yawClaim = s.arbiter.yawClaim ∧
    a.pumpGrant = min s.arbiter.pumpClaim s.budget ∧ a.grantPumpMax = figure s.plt 13 ∧
    a.fanGrant ≤ s.arbiter.fanClaim ∧ a.fanGrant * figure s.plt 14 ≤ s.budget - a.pumpGrant ∧
    (∀ k, k ≤ s.arbiter.fanClaim → k * figure s.plt 14 ≤ s.budget - a.pumpGrant → k ≤ a.fanGrant) ∧
    (s.arbiter.yawClaim = none → a.yawGrant = none) ∧
    (∀ drives, s.arbiter.yawClaim = some drives →
      (figure s.plt 15 * drives ≤ s.budget - a.pumpGrant - a.fanGrant * figure s.plt 14 →
        a.yawGrant = some (figure s.plt 15 * drives)) ∧
      (s.budget - a.pumpGrant - a.fanGrant * figure s.plt 14 < figure s.plt 15 * drives → a.yawGrant = none)) ∧
    a.pumpGrant + a.fanGrant * figure s.plt 14 + a.yawGrant.getD 0 ≤ s.budget := by
  set pump := min s.arbiter.pumpClaim s.budget
  set fan := largestStage (figure s.plt 14) (s.budget - pump) s.arbiter.fanClaim
  have haffordable : fan * figure s.plt 14 ≤ s.budget - pump := largestStage_affordable ..
  have hpump : pump ≤ s.budget := Nat.min_le_right ..
  refine ⟨_, rfl, rfl, rfl, rfl, rfl, rfl, largestStage_le .., haffordable, fun k => le_largestStage, fun hnone => ?_,
    fun drives hdrives => ⟨fun hfits => ?_, fun hexceeds => ?_⟩, ?_⟩
  · change yawGrantOf _ _ s.arbiter.yawClaim = none
    rw [hnone]
    rfl
  · change yawGrantOf _ _ s.arbiter.yawClaim = _
    rw [hdrives]
    exact if_pos hfits
  · change yawGrantOf _ _ s.arbiter.yawClaim = none
    rw [hdrives]
    exact if_neg (Nat.not_le.2 hexceeds)
  · have hyaw := yawGrantOf_le (figure s.plt 15) (s.budget - pump - fan * figure s.plt 14) s.arbiter.yawClaim
    change pump + fan * figure s.plt 14 + (yawGrantOf (figure s.plt 15) (s.budget - pump - fan * figure s.plt 14)
      s.arbiter.yawClaim).getD 0 ≤ s.budget
    omega

/-- Settles O45: the grants and the budget from their definitions, the evaluation as lowering, hand-over and judgement, and
the gain and the withdrawal by the phase of the sequencer. -/
theorem grantsAreTakenInOrderFromTheBudget : Obligations.GrantsAreTakenInOrderFromTheBudget := by
  unfold Obligations.GrantsAreTakenInOrderFromTheBudget
  refine ⟨writeGrants_grants, ?_, ?_, ?_, ?_, ?_⟩
  · intro s raw hraw
    have hlive : (s.point 1).live = true ↔ (s.point 1).quality = .fresh ∨ (s.point 1).quality = .forced := by
      unfold Point.live
      cases (s.point 1).quality <;> simp
    have hcuts : s.envelope.rideThrough.cutsBudget = true ↔
        s.envelope.rideThrough = .sag ∨ s.envelope.rideThrough = .tripped := by
      unfold RideThrough.cutsBudget
      rw [Bool.or_eq_true, beq_iff_eq, beq_iff_eq]
    have hrawBudget : s.rawBudget = raw := by
      unfold State.rawBudget
      simp only [hlive, hraw, State.fallbackBudget]
      congr 1
      omega
    unfold State.budget
    simp only [hcuts, hrawBudget]
    rfl
  · intro s u v w speed hu hspeed hv hw
    have hlower : lowerPump u = v := (lowerPump_eq hspeed).trans hv.symm
    have hfan : v.arbiter = u.arbiter := by
      rw [hv]
      split <;> rfl
    have hstage : v.point 41 = u.point 41 := by
      rw [hv]
      split
      · simp [State.point, withPumpSpeed]
      · rfl
    have hlowerFan : lowerFan v = w := by
      rw [hw, lowerFan_eq, hstage, ← hfan]
    obtain ⟨points, thermal, hframe⟩ := lowered_frame u
    rw [hlower, hlowerFan] at hframe
    have hkept := ShortKept.handGrant s.arbiter.yawGrant.isSome w
    have hgiven : arbiterEvaluate s = judgeShort (handGrant s.arbiter.yawGrant.isSome w) := by
      rw [← hlowerFan, ← hlower, hu]
      rfl
    have hclaim : w.arbiter.yawClaim = s.arbiter.yawClaim := by rw [hframe, hu]; rfl
    have hgrant : w.arbiter.yawGrant = u.arbiter.yawGrant := by rw [hframe]
    have hlength : s.faults.length = 64 → w.faults.length = 64 := by rw [hframe, hu]; exact id
    have hcondition : w.condition fcAuxShort = s.condition fcAuxShort := by rw [hframe, hu]; rfl
    have hshortfall : w.shortfall = ((u.arbiter.pumpClaim - u.arbiter.pumpGrant +
        (u.arbiter.fanClaim - u.arbiter.fanGrant) * figure s.plt 14 : Nat) : Int) := by rw [hframe, hu]; rfl
    have harbiter : w.arbiter = u.arbiter := by rw [hframe]
    refine ⟨handGrant s.arbiter.yawGrant.isSome w, _, hgiven, ?_, fun hlen => ?_, byFaultsOnly_judge ..⟩
    · rw [handGrant_eq, hclaim, hgrant]
      simp only [Option.isSome_eq_false_iff, Option.isNone_iff_eq_none]
    · obtain ⟨hpresent, hcontext⟩ := auxShort_judgeShort hkept (hlength hlen)
      rw [harbiter] at hpresent
      rw [hcondition, hshortfall] at hcontext
      exact ⟨hpresent, hcontext⟩
  · intro s r hrecord
    have hgain : gainGrant s = if s.sequencer.phase = .waiting ∨ s.sequencer.phase = .parked then
        (if s.startCheck r = true then
          enterStepChain 9 s.startStep (some (decide (s.sequencer.phase = .parked)))
            { s with sequencer := { s.sequencer with phase := .running } }
        else endMove .refused s) else s := by
      unfold gainGrant
      rw [hrecord]
    refine ⟨fun hphase => ?_, fun hphase planned hplanned => ⟨fun hfits k y direction hk hk0 hy himmediate htarget hdirection => ?_,
      fun hexceeds hnot => ?_⟩⟩
    · rw [hgain, if_neg]
      rcases hphase with h | h
      · rw [h]; decide
      · rw [h]; decide
    · subst hk hy hplanned
      have hmove : ({ s with sequencer := { s.sequencer with phase := .running } } : State).moveDirection = r.direction := by
        rw [moveDirection_eq]
        dsimp only
        rw [hrecord]
        rfl
      have hstart := enterStepOnce_start hk0 (decide (s.sequencer.phase = .parked))
        { s with sequencer := { s.sequencer with phase := .running } }
      rw [hgain, if_pos hphase, if_pos (startCheck_iff.2 hfits),
        enterStepChain_of_stays (s := { s with sequencer := { s.sequencer with phase := .running } }) hk0 himmediate
          (by rw [hstart]; exact htarget), hstart, hmove]
      simp only [decide_eq_true_eq]
      rw [hdirection, ← hrecord]
      rfl
    · subst hplanned
      have hfails : ¬ s.startCheck r = true := by
        rw [startCheck_iff]
        exact fun h => h.elim (fun h => absurd h (Int.not_lt.2 hexceeds)) hnot
      obtain ⟨hrefused, hlimit, hfaults⟩ := endMove_refused_effect hrecord
      rw [hgain, if_pos hphase, if_neg hfails]
      exact ⟨_, rfl, hrefused.record, hrefused.phase, hrefused.blocked, hrefused.claim, hrefused.grant, hlimit, hfaults⟩
  · intro s hphase
    exact if_neg hphase
  · intro s u hphase hu
    have hwithdraw : withdrawGrant s = withdrawMove u := by rw [hu]; exact if_pos hphase
    rw [hwithdraw]
    unfold withdrawMove
    refine ⟨fun hstill => if_neg hstill, fun hruns hstop => ?_, fun hruns hstop hstep r hrecord hmode => ?_⟩
    · rw [if_pos hruns, if_neg (by rw [hstop]; decide), enterParked_eq]
    · rw [if_pos hruns, if_pos hstop, endMove_eq hrecord hmode (by decide), if_neg hstep]

end Sys2Proof.Safety
end

section
/-! SUPPORT. Rest, the pump exercise, and the silence that turns RUN into ISLAND (O51, O53). -/

set_option Elab.async false

namespace Sys2Proof.Machine

open Sys2Proof.Safety

theorem outsideEdges_stopMove (s : State) : outsideEdges (stopMove s) = outsideEdges s := by
  unfold stopMove enterStep
  split
  · rfl
  · split
    · rfl
    · exact outsideEdges_enterStepChain ..
  · exact outsideEdges_of_moves (outsideMoves_endMove ..)
  · exact outsideEdges_of_moves (outsideMoves_endMove ..)

theorem decision_outsideEdges (s : State) : (outsideEdges s).decision =
    { s.decision with mode := .hold, startDwell := 0, stormEnter := 0, stormExit := 0, blocked := false } := rfl

/-- The stop of a move leaves the rest time alone (R149). -/
theorem rest_stopMove (s : State) : (stopMove s).decision.rest = s.decision.rest := by
  have hedges : (outsideEdges (stopMove s)).decision = (outsideEdges s).decision :=
    congrArg State.decision (outsideEdges_stopMove s)
  rw [decision_outsideEdges, decision_outsideEdges] at hedges
  rw [decision_outside hedges]

/-- The move that rest stops (R149). -/
def RestStops (s : State) : Prop := ∃ r, s.sequencer.record = some r ∧ (r.mode = .auto ∨ r.mode = .unwind)

/-- The state with rest begun and YAW_DUTY_REST present (R149). -/
def restBegun (s : State) : State :=
  judge fcDutyRest true s.decision.duty { s with decision := { s.decision with rest := some s.restTime } }

theorem beginRest_stops {s : State} (h : RestStops (restBegun s)) : beginRest s = stopMove (restBegun s) := by
  obtain ⟨r, hrecord, hmode⟩ := h
  have hgiven : beginRest s = match (restBegun s).sequencer.record with
    | some r => if r.mode = .auto ∨ r.mode = .unwind then stopMove (restBegun s) else restBegun s
    | none => restBegun s := rfl
  rw [hgiven, hrecord]
  exact if_pos hmode

theorem beginRest_stands {s : State} (h : ¬ RestStops (restBegun s)) : beginRest s = restBegun s := by
  have hgiven : beginRest s = match (restBegun s).sequencer.record with
    | some r => if r.mode = .auto ∨ r.mode = .unwind then stopMove (restBegun s) else restBegun s
    | none => restBegun s := rfl
  rw [hgiven]
  cases hrecord : (restBegun s).sequencer.record with
  | none => rfl
  | some r => exact if_neg (fun hmode => h ⟨r, hrecord, hmode⟩)

theorem rest_restBegun (s : State) : (restBegun s).decision.rest = some s.restTime := by
  have hfaults : ByFaultsOnly { s with decision := { s.decision with rest := some s.restTime } } (restBegun s) :=
    byFaultsOnly_judge ..
  rw [hfaults.1]

end Sys2Proof.Machine

namespace Sys2Proof.Safety

open Sys2Proof.Machine

/-- Settles O51: each of the four consequences taken from the list, rest by whether the move it finds is an AUTO or UNWIND
one. -/
theorem restAndExerciseBeginAndEnd : Obligations.RestAndExerciseBeginAndEnd := by
  unfold Obligations.RestAndExerciseBeginAndEnd
  intro s hlength
  refine ⟨fun hdue => ?_, fun hdue => ?_, fun hdue => ?_, fun hdue => ?_⟩
  · have hexec : exec .restBegin s = .next (beginRest { s with due := [] }) :=
      congrArg Host.Outcome.next (takeDue_of_single hdue rfl)
    have hlen : fcDutyRest < ({ s with due := [] } : State).faults.length := by
      change fcDutyRest < s.faults.length
      rw [hlength]
      decide
    have hrest : (beginRest { s with due := [] }).decision.rest = some s.restTime := by
      by_cases hstops : RestStops (restBegun { s with due := [] })
      · rw [beginRest_stops hstops, rest_stopMove, rest_restBegun]
        rfl
      · rw [beginRest_stands hstops, rest_restBegun]
        rfl
    have hpresent : (restBegun { s with due := [] }).condition fcDutyRest = true :=
      condition_judge (s := { s with due := [], decision := { s.decision with rest := some s.restTime } }) (by decide)
        (fun _ => hlen) _
    refine ⟨restBegun { s with due := [] }, _, hexec, hpresent, hrest, fun habsent => ?_,
      byFaultsOnly_judge .., fun hstops => beginRest_stops hstops, fun hstands => beginRest_stands ?_⟩
    · exact congrArg FaultRecord.context (fault_judge_rising (k := fcDutyRest)
        (s := { s with due := [], decision := { s.decision with rest := some s.restTime } }) hlen (by decide) habsent
        s.decision.duty)
    · rintro ⟨r, hrecord, hmode⟩
      exact hmode.elim (hstands r hrecord).1 (hstands r hrecord).2
  · have hexec : exec .restEnd s = .next (endRest { s with due := [] }) :=
      congrArg Host.Outcome.next (takeDue_of_single hdue rfl)
    exact ⟨_, hexec, condition_judge (by decide) (fun h => Bool.noConfusion h) _, byFaultsOnly_judge ..⟩
  · exact congrArg Host.Outcome.next (takeDue_of_single hdue rfl)
  · exact congrArg Host.Outcome.next (takeDue_of_single hdue rfl)

/-- The falling due of an island frame: it waits on, waits, or begins (R180, R181, R22). -/
theorem islandDue_cases (s u : State) (hu : u = { s with
    supervision := { s.supervision with islandTimer := some { start := s.timebase, period := s.islandPeriod } } }) :
    (s.supervision.waiting = true → islandDue s = u) ∧
    (s.supervision.waiting = false → (s.p1.busy = true ∨ s.hold.occupied = true) →
      islandDue s = { u with supervision := { u.supervision with waiting := true } }) ∧
    (s.supervision.waiting = false → s.p1.busy = false → s.hold.occupied = false →
      islandDue s = { u with
        p1 := { busy := true, bytes := [], ended := false }
        outLane := s.outLane.opened .island
        islandBytes := islandFrame s.itp ((s.prevCycle.getD 127 + 1) % 128) ++
          checkBytes (crc16 (islandFrame s.itp ((s.prevCycle.getD 127 + 1) % 128))) }) := by
  subst hu
  unfold islandDue
  refine ⟨fun hwaits => if_pos hwaits, fun hwaits hbusy => ?_, fun hwaits hidle hempty => ?_⟩
  · dsimp only
    have hno : ¬ (!s.p1.busy && !s.hold.occupied) = true := by
      rcases hbusy with h | h
      · rw [h, Bool.not_true, Bool.false_and]; decide
      · rw [h, Bool.not_true, Bool.and_false]; decide
    rw [if_neg (by rw [hwaits]; decide), if_neg hno]
  · dsimp only
    rw [if_neg (by rw [hwaits]; decide), if_pos (by rw [hidle, hempty]; rfl)]
    exact congrArg (fun waits : Bool => ({ s with
      supervision := { s.supervision with
        islandTimer := some { start := s.timebase, period := s.islandPeriod }, waiting := waits }
      p1 := { busy := true, bytes := [], ended := false }
      outLane := s.outLane.opened .island
      islandBytes := islandFrame s.itp ((s.prevCycle.getD 127 + 1) % 128) ++
        checkBytes (crc16 (islandFrame s.itp ((s.prevCycle.getD 127 + 1) % 128))) } : State)) hwaits.symm

/-- Settles O53: what the two timed commands bring about, and the expiry by the operating state. -/
theorem silenceTurnsRunIntoIsland : Obligations.SilenceTurnsRunIntoIsland := by
  unfold Obligations.SilenceTurnsRunIntoIsland
  intro r hdue
  have hsettled : settle r = r := settle_of_due_nil hdue
  have hexpiry : exec .supervisionExpiry r = .next (bringAbout .supervision expireSupervision r) := by
    conv_rhs => rw [← hsettled]
    rfl
  have hisland : exec .islandFrameDue r = .next (bringAbout .island islandDue r) := by
    conv_rhs => rw [← hsettled]
    rfl
  refine ⟨fun hnone => ?_, fun start s hstart hs hmoved => ?_, fun start s hstart hs htimer hlimit => ?_, fun hnone => ?_,
    fun timer s htimer hs => ?_, islandDue_cases⟩
  · rw [hexpiry, bringAbout, State.timing, hnone]
    rfl
  · have htiming : r.timing .supervision = some { start := start, limit := r.supervision.limit } := by
      rw [State.timing, hstart]; rfl
    have hletPass : letPass false (r.left { start := start, limit := r.supervision.limit }) r = s := hs.symm
    rw [hexpiry, bringAbout, htiming]
    dsimp only
    rw [hletPass, if_neg]
    intro hsame
    refine hmoved ?_
    rw [State.timing] at hsame
    obtain ⟨m, hm, heq⟩ := Option.map_eq_some_iff.1 hsame
    rw [Timing.mk.injEq] at heq
    exact ⟨by rw [hm, heq.1], heq.2⟩
  · have htiming : r.timing .supervision = some { start := start, limit := r.supervision.limit } := by
      rw [State.timing, hstart]; rfl
    have hstill : s.timing .supervision = some { start := start, limit := r.supervision.limit } := by
      rw [State.timing, htimer, hlimit]; rfl
    have hletPass : letPass false (r.left { start := start, limit := r.supervision.limit }) r = s := hs.symm
    have hexec : exec .supervisionExpiry r = .next (expireSupervision s) := by
      rw [hexpiry, bringAbout, htiming]
      dsimp only
      rw [hletPass, if_pos hstill]
    set v : State := { s with supervision := { s.supervision with timer := none } } with hv
    have hexpires : expireSupervision s =
        if (judge fcMasterSilent true (s.prevCycle.getD 255) v).opState = .run then
          islandDue { judge fcMasterSilent true (s.prevCycle.getD 255) v with opState := .island }
        else judge fcMasterSilent true (s.prevCycle.getD 255) v := rfl
    have hfaults : ByFaultsOnly v (judge fcMasterSilent true (s.prevCycle.getD 255) v) := byFaultsOnly_judge ..
    have hstate : (judge fcMasterSilent true (s.prevCycle.getD 255) v).opState = s.opState := by rw [hfaults.1]
    refine ⟨judge fcMasterSilent true (s.prevCycle.getD 255) v, _, hexec, hfaults, fun hlength => ?_, fun hruns => ?_,
      fun hruns => ?_⟩
    · have hk : fcMasterSilent < v.faults.length := by
        change fcMasterSilent < s.faults.length
        rw [hlength]
        decide
      exact ⟨condition_judge (by decide) (fun _ => hk) _, fun habsent =>
        congrArg FaultRecord.context (fault_judge_rising (s := v) hk (by decide) habsent _)⟩
    · rw [hexpires, if_neg (by rw [hstate]; exact hruns)]
    · have hturns : expireSupervision s =
          islandDue { judge fcMasterSilent true (s.prevCycle.getD 255) v with opState := .island } := by
        rw [hexpires, if_pos (by rw [hstate]; exact hruns)]
      refine ⟨hturns, ?_⟩
      rw [hturns]
      unfold islandDue
      dsimp only
      split
      · rfl
      · split
        · rfl
        · rfl
  · rw [hisland, bringAbout, State.timing, hnone]
    rfl
  · have htiming : r.timing .island = some { start := timer.start, limit := timer.period } := by
      rw [State.timing, htimer]; rfl
    have hletPass : letPass false (r.left { start := timer.start, limit := timer.period }) r = s := hs.symm
    have hsame : s.timing .island = some { start := timer.start, limit := timer.period } ↔ s.supervision.islandTimer = some timer := by
      rw [State.timing, Option.map_eq_some_iff]
      constructor
      · rintro ⟨t, ht, heq⟩
        rw [Timing.mk.injEq] at heq
        cases t
        cases timer
        obtain ⟨rfl, rfl⟩ := heq
        exact ht
      · exact fun h => ⟨timer, h, rfl⟩
    rw [hisland, bringAbout, htiming]
    dsimp only
    rw [hletPass]
    by_cases hstill : s.supervision.islandTimer = some timer
    · rw [if_pos (hsame.2 hstill), if_pos hstill]
    · rw [if_neg (fun h => hstill (hsame.1 h)), if_neg hstill]

end Sys2Proof.Safety
end

section
/-! SUPPORT. What raises and step entries leave of the move, the window and the tracker (R115, R131, R132). -/

set_option Elab.async false

namespace Sys2Proof.Machine

open Sys2Proof.Safety

/-! ## A timed command (log entry 9) -/

theorem bringAbout_of_none {e : Timed} {s : State} (run : State → State) (h : s.timing e = none) : bringAbout e run s = s := by
  unfold bringAbout
  rw [h]

theorem bringAbout_of_timing {e : Timed} {s : State} {t : Timing} (run : State → State) (h : s.timing e = some t) :
    bringAbout e run s = if (letPass false (s.left t) s).timing e = some t then run (letPass false (s.left t) s)
      else letPass false (s.left t) s := by
  unfold bringAbout
  rw [h]

/-! ## The move and the window under raises and step entries -/

/-- From `s` to `t` step 0 stands, the window stands or is closed in step 0 (R115), and the move record stands or is
cleared (R132). -/
structure MoveStays (s t : State) : Prop where
  parked : s.sequencer.step = 0 → t.sequencer.step = 0
  window : t.tracker.window = s.tracker.window ∨ t.tracker.window = none ∧ t.sequencer.step = 0
  record : t.sequencer.record = s.sequencer.record ∨ t.sequencer.record = none

namespace MoveStays

theorem of_eq {s t : State} (hsequencer : t.sequencer = s.sequencer) (hwindow : t.tracker.window = s.tracker.window) :
    MoveStays s t :=
  ⟨fun h => hsequencer ▸ h, .inl hwindow, .inl (by rw [hsequencer])⟩

theorem refl (s : State) : MoveStays s s := of_eq rfl rfl

theorem trans {s t u : State} (h : MoveStays s t) (k : MoveStays t u) : MoveStays s u := by
  refine ⟨fun hs => k.parked (h.parked hs), ?_, ?_⟩
  · rcases k.window with hk | hk
    · rcases h.window with hh | ⟨hh, hstep⟩
      · exact .inl (hk.trans hh)
      · exact .inr ⟨hk.trans hh, k.parked hstep⟩
    · exact .inr hk
  · rcases k.record with hk | hk
    · exact h.record.imp hk.trans hk.trans
    · exact .inr hk

theorem of_actions {s t : State} (h : outsideActions t = outsideActions s) : MoveStays s t :=
  of_eq (congrArg State.sequencer h : (outsideActions t).sequencer = (outsideActions s).sequencer)
    (congrArg (fun u : State => u.tracker.window) h : (outsideActions t).tracker.window = (outsideActions s).tracker.window)

theorem blockRefused (s : State) : MoveStays s (blockRefused s) := by
  have hset : MoveStays s { s with decision := { s.decision with blocked := true } } := of_eq rfl rfl
  unfold Machine.blockRefused
  dsimp only
  refine MoveStays.trans ?_ (of_actions (outsideActions_judgeQuiet ..))
  split
  · exact hset.trans (of_actions (outsideActions_judgeQuiet ..))
  · exact hset

theorem seekFailed (c : Int) (s : State) : MoveStays s (setYawMode .hold (raiseQuiet fcSeekFailed c s)) :=
  (of_actions (outsideActions_raiseQuiet ..)).trans (of_eq rfl rfl)

theorem decisionMoveEnd (mode : YawMode) (cause : EndCause) (s : State) : MoveStays s (decisionMoveEnd mode cause s) := by
  have hseek : ∀ u : State, MoveStays s u → MoveStays s (if mode = .seek ∧ u.decision.mode = .seek then
      setYawMode .hold (raiseQuiet fcSeekFailed u.tracker.heading u) else u) := by
    intro u hu
    split
    · exact hu.trans (seekFailed _ u)
    · exact hu
  have hdwell : MoveStays s { s with decision := { s.decision with startDwell := 0 } } := of_eq rfl rfl
  unfold Machine.decisionMoveEnd
  apply hseek
  split
  · exact hdwell.trans (blockRefused _)
  · exact hdwell

theorem inStepZero (s : State) : MoveStays s (inStepZero s) := ⟨fun _ => rfl, .inr ⟨rfl, rfl⟩, .inl rfl⟩

theorem endMove (cause : EndCause) (s : State) : MoveStays s (endMove cause s) := by
  have hremoved : ∀ u : State, MoveStays u { u with
      sequencer := { u.sequencer with record := none, phase := .none }
      arbiter := { u.arbiter with yawClaim := none, yawGrant := none } } := fun u => ⟨id, .inl rfl, .inr rfl⟩
  unfold Machine.endMove
  split
  · exact refl s
  · refine MoveStays.trans ?_ (decisionMoveEnd ..)
    rw [enterParked_eq]
    split
    · exact hremoved s
    · exact (inStepZero s).trans (hremoved _)

theorem abortMove (s : State) : MoveStays s (abortMove s) := by
  unfold Machine.abortMove
  split
  · exact refl s
  · exact endMove ..

theorem handHold (before : Bool) (s : State) : MoveStays s (handHold before s) := by
  unfold Machine.handHold
  split
  · exact abortMove s
  · exact refl s

theorem raise (k : Nat) (c : Int) (s : State) : MoveStays s (raise k c s) :=
  (of_actions (outsideActions_raiseQuiet k c s)).trans (handHold ..)

theorem endCondition (k : Nat) (s : State) : MoveStays s (endCondition k s) :=
  (of_actions (outsideActions_endQuiet k s)).trans (handHold ..)

theorem judge (k : Nat) (present : Bool) (c : Int) (s : State) : MoveStays s (judge k present c s) := by
  unfold Machine.judge
  split
  · exact raise ..
  · split
    · exact endCondition ..
    · exact refl s

theorem judgeTwist (s : State) : MoveStays s (judgeTwist s) := by
  unfold Machine.judgeTwist judgeTwistLimit
  dsimp only
  split
  · exact (judge ..).trans ((judge ..).trans (abortMove _))
  · exact (judge ..).trans (judge ..)

theorem judgeTrackLost (before : Nat) (s : State) : MoveStays s (judgeTrackLost before s) := by
  unfold Machine.judgeTrackLost
  split
  · exact refl s
  · exact judge ..

/-- Entries from a step other than 0 leave the window, or close it as they reach step 0 (R115). -/
theorem enterStepChain (fuel k : Nat) {s : State} (hstep : s.sequencer.step ≠ 0) :
    MoveStays s (enterStepChain fuel k none s) := by
  induction fuel generalizing k s with
  | zero => exact refl s
  | succ fuel ih =>
    by_cases hk : k = 0
    · rw [Machine.enterStepChain, if_pos hk, enterParked_eq]
      exact (inStepZero s).trans (endMove ..)
    · have honce : MoveStays s (enterStepOnce k none s) := by
        rw [enterStepOnce_eq hk rfl]
        exact ⟨fun h => absurd h hstep, .inl rfl, .inl rfl⟩
      rw [enterStepChain_succ hk]
      split
      · refine honce.trans (ih _ ?_)
        rw [enterStepOnce_eq hk rfl]
        exact hk
      · exact honce

end MoveStays

/-! ## A step handed to the sequencer (R131) -/

/-- The state with a step counted on the move in hand (R131). -/
def stepCounted (d : Int) (s : State) : State :=
  { s with sequencer := { s.sequencer with
    record := s.sequencer.record.map (fun r => { r with remaining := r.remaining - d })
    counts := if s.sequencer.step = 0 then s.sequencer.counts else min 65535 (s.sequencer.counts + 1) } }

theorem handStep_parked {d : Int} {s : State} (hstep : s.sequencer.step = 0) : handStep d s = stepCounted d s := by
  unfold handStep stepCounted
  dsimp only
  rw [if_pos hstep, if_pos hstep]

/-- The step counted meets the trigger of the step in hand (R131). -/
def StepMet (d : Int) (s : State) : Prop :=
  ((yawStep s.yst s.sequencer.step).trigger = 1 ∧
    (yawStep s.yst s.sequencer.step).argument ≤ (stepCounted d s).sequencer.counts) ∨
  ((yawStep s.yst s.sequencer.step).trigger = 2 ∧ WithinStopBand (stepCounted d s))

theorem handStep_moving {d : Int} {s : State} (hstep : s.sequencer.step ≠ 0) :
    (StepMet d s → handStep d s = enterStep (yawStep s.yst s.sequencer.step).next (stepCounted d s)) ∧
    (¬ StepMet d s → handStep d s = stepCounted d s) := by
  have hcounted : stepCounted d s = { s with sequencer := { s.sequencer with
      record := s.sequencer.record.map (fun r => { r with remaining := r.remaining - d })
      counts := min 65535 (s.sequencer.counts + 1) } } := by
    unfold stepCounted
    rw [if_neg hstep]
  unfold StepMet handStep
  rw [← onTarget_eq_true_iff, hcounted]
  dsimp only
  rw [if_neg hstep]
  exact ⟨fun hmet => if_pos hmet, fun hunmet => if_neg hunmet⟩

/-- A step handed on leaves the state counted, or enters the next step from it. -/
theorem handStep_cases (d : Int) (s : State) :
    handStep d s = stepCounted d s ∨
      (s.sequencer.step ≠ 0 ∧ ∃ k, handStep d s = enterStepChain 9 k none (stepCounted d s)) := by
  by_cases hstep : s.sequencer.step = 0
  · exact .inl (handStep_parked hstep)
  · by_cases hmet : StepMet d s
    · exact .inr ⟨hstep, _, (handStep_moving hstep).1 hmet⟩
    · exact .inl ((handStep_moving hstep).2 hmet)

theorem MoveStays.handStep (d : Int) (s : State) : MoveStays (stepCounted d s) (handStep d s) := by
  rcases handStep_cases d s with h | ⟨hstep, k, h⟩
  · rw [h]
    exact .refl _
  · rw [h]
    exact .enterStepChain 9 k hstep

theorem outsideMoves_enterStepChain (fuel k : Nat) (s : State) :
    outsideMoves (enterStepChain fuel k none s) = outsideMoves s := by
  induction fuel generalizing k s with
  | zero => rfl
  | succ fuel ih =>
    by_cases hk : k = 0
    · rw [enterStepChain, if_pos hk, outsideMoves_endMove, outsideMoves_enterParked]
    · have honce : outsideMoves (enterStepOnce k none s) = outsideMoves s := by
        unfold enterStepOnce
        dsimp only
        rw [outsideMoves_trackerStepEntry, outsideMoves_sequencer, outsideMoves_writePattern]
      rw [enterStepChain_succ hk]
      split
      · rw [ih, honce]
      · exact honce

theorem KeepsPoints.enterStepChain (fuel k : Nat) (s : State) : KeepsPoints s (enterStepChain fuel k none s) := by
  induction fuel generalizing k s with
  | zero => exact .refl s
  | succ fuel ih =>
    by_cases hk : k = 0
    · rw [Machine.enterStepChain, if_pos hk]
      exact (KeepsPoints.enterParked s).trans (.endMove ..)
    · have honce : KeepsPoints s (enterStepOnce k none s) := by
        have hpattern := KeepsPoints.writePattern k s
        rw [writePattern_eq] at hpattern
        rw [enterStepOnce_eq hk rfl]
        exact hpattern
      rw [enterStepChain_succ hk]
      split
      · exact honce.trans (ih _ _)
      · exact honce

theorem outsideMoves_handStep (d : Int) (s : State) : outsideMoves (handStep d s) = outsideMoves s := by
  have hcounted : outsideMoves (stepCounted d s) = outsideMoves s := outsideMoves_sequencer _ s
  rcases handStep_cases d s with h | ⟨-, k, h⟩
  · rw [h, hcounted]
  · rw [h, outsideMoves_enterStepChain, hcounted]

theorem KeepsPoints.handStep (d : Int) (s : State) : KeepsPoints s (handStep d s) := by
  have hcounted : KeepsPoints s (stepCounted d s) := .of_eq rfl
  rcases handStep_cases d s with h | ⟨-, k, h⟩
  · rw [h]
    exact hcounted
  · rw [h]
    exact hcounted.trans (.enterStepChain ..)

theorem fault_handStep {j : Nat} (hj : j ≠ fcSeekFailed) (ho : j ≠ fcLogOverwrite) (d : Int) (s : State) :
    (handStep d s).fault j = s.fault j := by
  rcases handStep_cases d s with h | ⟨-, k, h⟩
  · rw [h]
    rfl
  · rw [h, fault_enterStepChain hj ho]
    rfl

theorem fault_judgeTwist {j : Nat} (hw : j ≠ fcTwistWarn) (hl : j ≠ fcTwistLimit) (hj : j ≠ fcSeekFailed) (ho : j ≠ fcLogOverwrite)
    (s : State) : (judgeTwist s).fault j = s.fault j := by
  unfold judgeTwist judgeTwistLimit
  dsimp only
  split
  · rw [fault_abortMove hj ho, fault_judge_ne hl hj ho, fault_judge_ne hw hj ho]
  · rw [fault_judge_ne hl hj ho, fault_judge_ne hw hj ho]

/-- YAW_TRACK_LOST judged after a change of the forced count can write nothing but what a fault's actions write (R118). -/
theorem byFaultsOnly_judgeTrackLost (before : Nat) (s : State) : ByFaultsOnly s (judgeTrackLost before s) := by
  unfold judgeTrackLost
  split
  · exact byFaultsOnly_refl s
  · exact byFaultsOnly_judge ..

theorem judgeTrackLost_of_same {before : Nat} {s : State} (h : s.tracker.forcedRun = before) : judgeTrackLost before s = s :=
  if_pos h

theorem judgeTrackLost_of_ne {before : Nat} {s : State} (h : s.tracker.forcedRun ≠ before) :
    judgeTrackLost before s = judge fcTrackLost (decide (s.forcedLimit ≤ s.tracker.forcedRun)) s.tracker.heading s :=
  if_neg h

/-! ## The tracker after a step handed to the sequencer and the twist judged (R131, R147) -/

/-- What stands of the tracker, its outputs and the move from `x`, when step `d` is handed on and the twist judged. -/
structure Handed (d : Int) (x t : State) : Prop where
  moves : outsideMoves t = outsideMoves x
  points : KeepsPoints x t
  stays : MoveStays (stepCounted d x) t

theorem handed_judgeTwist_handStep (d : Int) (x : State) : Handed d x (judgeTwist (handStep d x)) where
  moves := (outsideMoves_judgeTwist _).trans (outsideMoves_handStep d x)
  points := (KeepsPoints.handStep d x).trans (.judgeTwist _)
  stays := (MoveStays.handStep d x).trans (.judgeTwist _)

/-- The tracker but for its timer and its window. -/
theorem tracker_of_moves {s t : State} (h : outsideMoves t = outsideMoves s) :
    t.tracker = { s.tracker with timer := t.tracker.timer, window := t.tracker.window } :=
  tracker_outside (congrArg State.tracker h)

end Sys2Proof.Machine
end

section
/-! SUPPORT. Edges at the tracker: rejected, absorbed or counted (O48). -/

set_option Elab.async false

namespace Sys2Proof.Machine

open Sys2Proof.Safety

/-! ## An interval entering the history (R112, R113) -/

/-- Whether an edge enters no interval: none before it, in step 0, or into an unseeded history (R112, R113). -/
def NoInterval (s : State) : Prop := s.tracker.lastEdge = none ∨ s.sequencer.step = 0 ∨ s.tracker.history = []

theorem enterEdgeInterval_of_none {previous : Option Micros} {s : State}
    (h : previous = none ∨ s.sequencer.step = 0 ∨ s.tracker.history = []) : enterEdgeInterval previous s = s := by
  unfold enterEdgeInterval
  cases previous with
  | none => rfl
  | some p =>
    dsimp only
    split
    · rfl
    · next hstep =>
      have hempty : s.tracker.history = [] := (h.resolve_left (fun h => by cases h)).resolve_left hstep
      unfold enterInterval
      rw [if_pos (by rw [hempty]; rfl)]

theorem enterEdgeInterval_of_some {p : Micros} {s : State} (hstep : s.sequencer.step ≠ 0) (hhistory : s.tracker.history ≠ []) :
    enterEdgeInterval (some p) s = { s with tracker := { s.tracker with
      history := (s.elapsed p :: s.tracker.history).take 8
      baseTime := ((s.elapsed p :: s.tracker.history).take 8 |>.take (2 ^ s.baseDepth)).sum / 2 ^ s.baseDepth } } := by
  unfold enterEdgeInterval enterInterval
  dsimp only
  rw [if_neg hstep, if_neg (fun h => hhistory (List.isEmpty_iff.1 h))]
  rfl

theorem restartEdgeTimer_eq {s : State} {now : Micros} {timeout : Nat} (hnow : s.timebase = now)
    (htimeout : s.edgeTimeout = timeout) : restartEdgeTimer s = { s with tracker := { s.tracker with
      timer := s.tracker.timer.map (fun x => { x with start := now, limit := s.tracker.baseTime * timeout / 128 }) } } := by
  subst hnow htimeout
  unfold restartEdgeTimer
  cases htimer : s.tracker.timer with
  | none => rw [if_neg (by decide), Option.map_none, ← htimer]
  | some x => rfl

/-- The history and the base time with the interval of an edge entered (R113). -/
structure IntervalTaken (s : State) (history : List Nat) (base : Nat) : Prop where
  unchanged : NoInterval s → history = s.tracker.history ∧ base = s.tracker.baseTime
  entered : ¬ NoInterval s →
    history = (s.elapsed (s.tracker.lastEdge.getD 0) :: s.tracker.history).take 8 ∧
      base = (history.take (2 ^ figure s.ycf 7)).sum / 2 ^ figure s.ycf 7

/-- The state of an accepted edge: it is the last one, the window is closed, the forced count 0, its interval entered and a
RUNNING timer restarted (R112, R117, R115). -/
def edgeAccepted (history : List Nat) (base : Nat) (s : State) : State :=
  { s with tracker := { s.tracker with
    lastEdge := some s.timebase, window := none, forcedRun := 0, history := history, baseTime := base
    timer := s.tracker.timer.map (fun x => { x with start := s.timebase, limit := base * s.edgeTimeout / 128 }) } }

/-- The interval and the timer at an accepted edge, whatever else the edge has changed of the tracker before. -/
theorem restart_interval_eq {s : State} {history : List Nat} {base : Nat} (h : IntervalTaken s history base) {t : Tracker}
    (hhistory : t.history = s.tracker.history) (hbase : t.baseTime = s.tracker.baseTime) :
    restartEdgeTimer (enterEdgeInterval s.tracker.lastEdge { s with tracker := t }) = { s with tracker := { t with
      history := history, baseTime := base
      timer := t.timer.map (fun x => { x with start := s.timebase, limit := base * s.edgeTimeout / 128 }) } } := by
  have hentered : enterEdgeInterval s.tracker.lastEdge { s with tracker := t } =
      { s with tracker := { t with history := history, baseTime := base } } := by
    by_cases hnone : NoInterval s
    · obtain ⟨rfl, rfl⟩ := h.unchanged hnone
      rw [enterEdgeInterval_of_none (s := { s with tracker := t }) (by rw [hhistory]; exact hnone), ← hhistory, ← hbase]
    · obtain ⟨hh, hb⟩ := h.entered hnone
      simp only [NoInterval, not_or] at hnone
      obtain ⟨hedge, hstep, hempty⟩ := hnone
      obtain ⟨p, hp⟩ := Option.ne_none_iff_exists'.1 hedge
      rw [hp, Option.getD_some] at hh
      have hentry := enterEdgeInterval_of_some (p := p) (s := { s with tracker := t }) hstep (by rw [hhistory]; exact hempty)
      rw [hp, hentry]
      dsimp only
      rw [hhistory]
      have hhistory : (({ s with tracker := t } : State).elapsed p :: s.tracker.history).take 8 = history := hh.symm
      rw [hhistory, hb]
      rfl
  rw [hentered]
  exact restartEdgeTimer_eq (s := { s with tracker := { t with history := history, baseTime := base } }) rfl rfl

/-! ## Bounces (R111) -/

theorem bounces_eq_true {s : State} {e : Micros} (hedge : s.tracker.lastEdge = some e)
    (h : s.elapsed e < s.tracker.baseTime * s.bounceMask / 128) : s.bounces = true := by
  unfold State.bounces
  rw [hedge]
  exact decide_eq_true h

theorem bounces_eq_false {s : State}
    (h : ∀ e, s.tracker.lastEdge = some e → s.tracker.baseTime * s.bounceMask / 128 ≤ s.elapsed e) : s.bounces = false := by
  unfold State.bounces
  cases hedge : s.tracker.lastEdge with
  | none => rfl
  | some e => exact decide_eq_false (Nat.not_lt.2 (h e hedge))

theorem toothEdge_of_bounce {s : State} (d : Int) (h : s.bounces = true) : toothEdge d s = rejectBounce s := if_pos h

theorem rejectBounce_moving {s : State} (hstep : s.sequencer.step ≠ 0) :
    rejectBounce s = if min 65535 (s.tracker.bounces + 1) = 16 then
      raise fcBounce s.tracker.heading { s with tracker := { s.tracker with bounces := min 65535 (s.tracker.bounces + 1) } }
    else { s with tracker := { s.tracker with bounces := min 65535 (s.tracker.bounces + 1) } } :=
  if_neg hstep

/-! ## Absorbed edges (R117) -/

theorem absorbs_eq_true {s : State} {d : Int} {w : Window} (hwindow : s.tracker.window = some w) (hdirection : w.direction = d)
    (hopen : s.elapsed w.start ≤ w.length) : s.absorbs d = true := by
  unfold State.absorbs
  rw [hwindow]
  exact Bool.and_eq_true_iff.2 ⟨decide_eq_true hdirection, decide_eq_true hopen⟩

theorem absorbs_eq_false {s : State} {d : Int}
    (h : ∀ w, s.tracker.window = some w → w.direction ≠ d ∨ w.length < s.elapsed w.start) : s.absorbs d = false := by
  unfold State.absorbs
  cases hwindow : s.tracker.window with
  | none => rfl
  | some w =>
    dsimp only
    rcases h w hwindow with hd | hlate
    · rw [decide_eq_false hd, Bool.false_and]
    · rw [decide_eq_false (Nat.not_le.2 hlate), Bool.and_false]



/-- The state of an absorbed edge before its outputs (R117). -/
def edgeAbsorbed (history : List Nat) (base : Nat) (s : State) : State :=
  { edgeAccepted history base s with tracker := { (edgeAccepted history base s).tracker with
    deadReckon := s.tracker.deadReckon - 1
    quality := if s.tracker.deadReckon = 1 ∧ s.tracker.quality = .deadReckoned then .referenced else s.tracker.quality } }

theorem toothEdge_absorbed {d : Int} {s : State} {history : List Nat} {base : Nat} (hbounces : s.bounces = false)
    (habsorbs : s.absorbs d = true) (hinterval : IntervalTaken s history base) :
    toothEdge d s = judgeTrackLost s.tracker.forcedRun
      (if s.tracker.deadReckon = 1 ∧ s.tracker.quality = .deadReckoned then writeHeading (edgeAbsorbed history base s)
      else edgeAbsorbed history base s) := by
  have hrestored : (decide (s.tracker.deadReckon = 1) && s.tracker.quality == .deadReckoned) = true ↔
      s.tracker.deadReckon = 1 ∧ s.tracker.quality = .deadReckoned := by
    rw [Bool.and_eq_true, decide_eq_true_eq, beq_iff_eq]
  unfold toothEdge
  rw [if_neg (by rw [hbounces]; decide)]
  dsimp only
  rw [if_pos habsorbs]
  unfold absorbedEdge
  simp only [hrestored]
  rw [restart_interval_eq hinterval]
  · rfl
  · rfl
  · rfl

/-! ## Counted edges (R112, R119) -/

/-- The state of a counted edge before its outputs (R112, R119). -/
def edgeCounted (d : Int) (history : List Nat) (base : Nat) (s : State) : State :=
  { edgeAccepted history base s with tracker := { (edgeAccepted history base s).tracker with
    heading := modPpr s.ppr ((s.tracker.heading : Int) + d)
    twist := saturate (-i32Max) i32Max (s.tracker.twist + d)
    slips := if s.sequencer.step = 0 then bump 65535 s.tracker.slips else s.tracker.slips } }

/-- The count of slip edges passes its limit for the first time in the minute (R119). -/
def Slips (parked : Prop) (s : State) : Prop := parked ∧ s.slipLimit < s.tracker.slips ∧ s.tracker.slipRaised = false

/-- YAW_SLIP raised, once a minute (R119). -/
def slipRaise (s : State) : State := raise fcSlip s.tracker.slips { s with tracker := { s.tracker with slipRaised := true } }

theorem toothEdge_counted {d : Int} {s : State} {history : List Nat} {base : Nat} (hbounces : s.bounces = false)
    (habsorbs : s.absorbs d = false) (hinterval : IntervalTaken s history base) :
    ∃ x, toothEdge d s = judgeTwist (handStep d x) ∧
      (Slips (s.sequencer.step = 0) (judgeTrackLost s.tracker.forcedRun (writeHeading (edgeCounted d history base s))) →
        x = slipRaise (judgeTrackLost s.tracker.forcedRun (writeHeading (edgeCounted d history base s)))) ∧
      (¬ Slips (s.sequencer.step = 0) (judgeTrackLost s.tracker.forcedRun (writeHeading (edgeCounted d history base s))) →
        x = judgeTrackLost s.tracker.forcedRun (writeHeading (edgeCounted d history base s))) := by
  have hslips : (if s.sequencer.step = 0 then
      { edgeAccepted history base s with tracker := { (edgeAccepted history base s).tracker with
        heading := modPpr s.ppr ((s.tracker.heading : Int) + d)
        twist := saturate (-i32Max) i32Max (s.tracker.twist + d)
        slips := bump 65535 s.tracker.slips } }
      else { edgeAccepted history base s with tracker := { (edgeAccepted history base s).tracker with
        heading := modPpr s.ppr ((s.tracker.heading : Int) + d)
        twist := saturate (-i32Max) i32Max (s.tracker.twist + d) } }) = edgeCounted d history base s := by
    unfold edgeCounted
    split
    · rfl
    · rfl
  unfold toothEdge
  rw [if_neg (by rw [hbounces]; decide)]
  dsimp only
  rw [if_neg (by rw [habsorbs]; decide)]
  unfold countedEdge moveCount
  simp only [decide_eq_true_eq]
  rw [restart_interval_eq hinterval, ← hslips]
  · exact ⟨_, rfl, fun h => if_pos h, fun h => if_neg h⟩
  · rfl
  · rfl

end Sys2Proof.Machine
end

section
/-! SUPPORT. What an accepted edge leaves (O48). -/

set_option Elab.async false

namespace Sys2Proof.Machine

open Sys2Proof.Safety

/-- The interval by the cases in which an edge enters none. -/
theorem intervalTaken_of {s : State} {same : Bool} {history : List Nat} {base : Nat}
    (hsame : same = true ↔ s.tracker.lastEdge = none ∨ s.sequencer.step = 0 ∨ s.tracker.history = [])
    (hhistory : history = (if same then s.tracker.history
      else (s.elapsed (s.tracker.lastEdge.getD 0) :: s.tracker.history).take 8))
    (hbase : base = (if same then s.tracker.baseTime else (history.take (2 ^ figure s.ycf 7)).sum / 2 ^ figure s.ycf 7)) :
    IntervalTaken s history base where
  unchanged hnone := by
    rw [hsame.2 hnone] at hhistory hbase
    exact ⟨hhistory, hbase⟩
  entered hsome := by
    have hfalse : same = false := Bool.eq_false_iff.2 (fun h => hsome (hsame.1 h))
    rw [hfalse] at hhistory hbase
    exact ⟨hhistory, hbase⟩

theorem exists_intervalTaken (s : State) : ∃ history base, IntervalTaken s history base :=
  ⟨_, _, intervalTaken_of (same := decide (s.tracker.lastEdge = none ∨ s.sequencer.step = 0 ∨ s.tracker.history = []))
    decide_eq_true_iff rfl rfl⟩

theorem outsideMoves_slipRaised {s t : State} (h : outsideMoves t = outsideMoves s) (b : Bool) :
    outsideMoves { t with tracker := { t.tracker with slipRaised := b } } =
      outsideMoves { s with tracker := { s.tracker with slipRaised := b } } :=
  congrArg (fun v : State => { v with tracker := { v.tracker with slipRaised := b } }) h

theorem writeHeading_frame (s : State) : ∃ points, writeHeading s = { s with points := points } :=
  ⟨_, eq_of_output (eq_of_output (eq_of_output rfl 42 _) 43 _) 63 _⟩

/-- The mark of YAW_SLIP after a counted edge (R119). -/
def slipMark (s : State) : Bool :=
  s.tracker.slipRaised || decide (s.sequencer.step = 0 ∧ s.slipLimit < min 65535 (s.tracker.slips + 1))

/-- The state of a counted edge with its outputs and the mark of YAW_SLIP, before any raise (R112, R119, R121). -/
def countedWritten (d : Int) (history : List Nat) (base : Nat) (s : State) : State :=
  { writeHeading (edgeCounted d history base s) with tracker := { (edgeCounted d history base s).tracker with
    slipRaised := slipMark s } }

/-- The raises of a counted edge (R118, R119), from the state with its outputs written. -/
structure CountedRaises (s v x : State) : Prop where
  faults : ByFaultsOnly v x
  moves : outsideMoves x = outsideMoves v
  points : KeepsPoints v x
  stays : MoveStays v x
  still : s.tracker.forcedRun = 0 → v.tracker.slipRaised = s.tracker.slipRaised → x = v
  slip : s.faults.length = 64 → s.sequencer.step = 0 → s.slipLimit < min 65535 (s.tracker.slips + 1) →
    s.tracker.slipRaised = false → (x.fault fcSlip).context = (min 65535 (s.tracker.slips + 1) : Nat) ∧
      (x.fault fcSlip).count = min 255 ((s.fault fcSlip).count + 1)
  noSlip : ¬ (s.sequencer.step = 0 ∧ s.slipLimit < min 65535 (s.tracker.slips + 1) ∧ s.tracker.slipRaised = false) →
    x.fault fcSlip = s.fault fcSlip

theorem fault_judgeTrackLost_ne {j : Nat} (h : j ≠ fcTrackLost) (hj : j ≠ fcSeekFailed) (ho : j ≠ fcLogOverwrite) (before : Nat)
    (s : State) : (judgeTrackLost before s).fault j = s.fault j := by
  unfold judgeTrackLost
  split
  · rfl
  · exact fault_judge_ne h hj ho _ _ s

theorem length_judgeTrackLost (before : Nat) (s : State) : (judgeTrackLost before s).faults.length = s.faults.length := by
  unfold judgeTrackLost
  split
  · rfl
  · exact faults_length_judge ..

theorem outsideMoves_judgeTrackLost (before : Nat) (s : State) : outsideMoves (judgeTrackLost before s) = outsideMoves s := by
  unfold judgeTrackLost
  split
  · rfl
  · exact outsideMoves_judge ..

theorem KeepsPoints.judgeTrackLost (before : Nat) (s : State) : KeepsPoints s (judgeTrackLost before s) := by
  unfold Machine.judgeTrackLost
  split
  · exact .refl s
  · exact .judge ..

theorem countedRaises_of_counted {d : Int} {s : State} {history : List Nat} {base : Nat} (hbounces : s.bounces = false)
    (habsorbs : s.absorbs d = false) (hinterval : IntervalTaken s history base) :
    ∃ x, toothEdge d s = judgeTwist (handStep d x) ∧ CountedRaises s (countedWritten d history base s) x := by
  obtain ⟨x, htooth, hraised, hquiet⟩ := toothEdge_counted hbounces habsorbs hinterval
  obtain ⟨ps, hps⟩ := writeHeading_frame (edgeCounted d history base s)
  refine ⟨x, htooth, ?_⟩
  generalize hw0 : writeHeading (edgeCounted d history base s) = w0 at hraised hquiet
  generalize hw : judgeTrackLost s.tracker.forcedRun w0 = w at hraised hquiet
  have hmoves : outsideMoves w = outsideMoves w0 := by rw [← hw]; exact outsideMoves_judgeTrackLost ..
  have hpoints : KeepsPoints w0 w := by rw [← hw]; exact .judgeTrackLost ..
  have hstays : MoveStays w0 w := by rw [← hw]; exact .judgeTrackLost ..
  have hlength : w.faults.length = s.faults.length := by rw [← hw, length_judgeTrackLost, ← hw0, hps]; rfl
  have hfault : w.fault fcSlip = s.fault fcSlip := by
    rw [← hw, fault_judgeTrackLost_ne (by decide) (by decide) (by decide), ← hw0, hps]
    rfl
  have htracker : w0.tracker = (edgeCounted d history base s).tracker := by rw [← hw0, hps]
  have hv : countedWritten d history base s = { w0 with tracker := { w0.tracker with slipRaised := slipMark s } } := by
    unfold countedWritten
    rw [hw0, htracker]
  have hslipRaised : w0.tracker.slipRaised = s.tracker.slipRaised := by rw [htracker]; rfl
  have hslips : w.tracker.slips = if s.sequencer.step = 0 then min 65535 (s.tracker.slips + 1) else s.tracker.slips := by
    rw [tracker_of_moves hmoves, htracker]
    rfl
  have hmark : w.tracker.slipRaised = s.tracker.slipRaised := by
    rw [tracker_of_moves hmoves]
    exact hslipRaised
  have hlimit : w.slipLimit = s.slipLimit := by
    have hkept : w.slipLimit = w0.slipLimit := FaultsOnly.kept ⟨hmoves, hpoints⟩ State.slipLimit
    rw [hkept, ← hw0, hps]
    rfl
  have hslipsIff : Slips (s.sequencer.step = 0) w ↔
      s.sequencer.step = 0 ∧ s.slipLimit < min 65535 (s.tracker.slips + 1) ∧ s.tracker.slipRaised = false := by
    unfold Slips
    rw [hlimit, hslips, hmark]
    refine and_congr_right (fun hstep => ?_)
    rw [if_pos hstep]
  rw [hv]
  by_cases hslip : s.sequencer.step = 0 ∧ s.slipLimit < min 65535 (s.tracker.slips + 1) ∧ s.tracker.slipRaised = false
  · have hx := hraised (hslipsIff.2 hslip)
    obtain ⟨hstep, hover, hunmarked⟩ := hslip
    have hmarks : slipMark s = true := by unfold slipMark; rw [decide_eq_true ⟨hstep, hover⟩, Bool.or_true]
    rw [hmarks]
    rw [if_pos hstep] at hslips
    unfold slipRaise at hx
    have hmarked := outsideMoves_slipRaised hmoves true
    have hxmoves : outsideMoves x = outsideMoves { w0 with tracker := { w0.tracker with slipRaised := true } } := by
      rw [hx, outsideMoves_raise]
      exact hmarked
    have hxpoints : KeepsPoints { w0 with tracker := { w0.tracker with slipRaised := true } } x := by
      rw [hx]
      exact KeepsPoints.trans (t := { w with tracker := { w.tracker with slipRaised := true } }) hpoints (.raise ..)
    refine ⟨byFaultsOnly_of hxmoves hxpoints, hxmoves, hxpoints, ?_, fun _ hsame => ?_, fun hlen _ _ _ => ?_,
      fun hno => absurd ⟨hstep, hover, hunmarked⟩ hno⟩
    · rw [hx]
      exact MoveStays.trans (t := { w with tracker := { w.tracker with slipRaised := true } }) ⟨hstays.1, hstays.2, hstays.3⟩
        (.raise ..)
    · rw [hunmarked] at hsame
      exact Bool.noConfusion hsame
    · have hrecord := fault_raise_same (k := fcSlip) (s := { w with tracker := { w.tracker with slipRaised := true } })
        (by change fcSlip < w.faults.length; rw [hlength, hlen]; decide) (by decide) (by decide) (.inl rfl) w.tracker.slips
      have hfault : ({ w with tracker := { w.tracker with slipRaised := true } } : State).fault fcSlip = s.fault fcSlip := hfault
      rw [hx, hrecord, hfault, ← hslips]
      exact ⟨rfl, rfl⟩
  · have hx := hquiet (fun h => hslip (hslipsIff.1 h))
    have hsame : slipMark s = w0.tracker.slipRaised := by
      unfold slipMark
      rw [hslipRaised]
      cases hraisedBefore : s.tracker.slipRaised with
      | true => rfl
      | false => rw [Bool.false_or]; exact decide_eq_false (fun h => hslip ⟨h.1, h.2, hraisedBefore⟩)
    have hsame : ({ w0 with tracker := { w0.tracker with slipRaised := slipMark s } } : State) = w0 := by rw [hsame]
    rw [hsame, hx]
    refine ⟨byFaultsOnly_of hmoves hpoints, hmoves, hpoints, hstays, fun hrun _ => ?_, fun _ h1 h2 h3 => absurd ⟨h1, h2, h3⟩ hslip,
      fun _ => hfault⟩
    rw [← hw]
    refine judgeTrackLost_of_same ?_
    rw [htracker, hrun]
    rfl

end Sys2Proof.Machine
end

section
/-! PROOF. Edges at the tracker (O48). -/

set_option Elab.async false

namespace Sys2Proof.Machine

open Sys2Proof.Safety

/-- The state of an absorbed edge with its outputs, before YAW_TRACK_LOST is judged (R117, R121). -/
def absorbedWritten (history : List Nat) (base : Nat) (s : State) : State :=
  if s.tracker.deadReckon = 1 ∧ s.tracker.quality = .deadReckoned then writeHeading (edgeAbsorbed history base s)
  else edgeAbsorbed history base s

theorem absorbedWritten_frame (history : List Nat) (base : Nat) (s : State) :
    ∃ points, absorbedWritten history base s = { edgeAbsorbed history base s with points := points } := by
  unfold absorbedWritten
  split
  · exact writeHeading_frame _
  · exact ⟨_, rfl⟩

/-- The outputs of R121 in the points. -/
def headingPoints (points : List Point) (heading twist quality : Int) : List Point :=
  ((points.set 42 { value := heading, quality := .fresh, age := 0 }).set 43
    { value := twist, quality := .fresh, age := 0 }).set 63 { value := quality, quality := .fresh, age := 0 }

theorem headingPoints_values {points : List Point} (hlength : points.length = 256) (heading twist quality : Int) :
    ((headingPoints points heading twist quality).getD 42 .reset).value = heading ∧
    ((headingPoints points heading twist quality).getD 43 .reset).value = twist ∧
    ((headingPoints points heading twist quality).getD 63 .reset).value = quality := by
  simp [headingPoints, hlength]

theorem modPpr_of_ne {ppr : Nat} (h : ppr ≠ 0) (x : Int) : modPpr ppr x = (x % (ppr : Int)).toNat := if_neg h

/-- A counted edge of the tracker when PPR is not 0: heading, twist and outputs written out (R112, R121). -/
theorem countedWritten_eq {d : Int} {history : List Nat} {base : Nat} {s : State} (hppr : s.ppr ≠ 0) :
    countedWritten d history base s = { edgeAccepted history base s with
      tracker := { (edgeAccepted history base s).tracker with
        heading := (((s.tracker.heading : Int) + d) % s.ppr).toNat
        twist := max (-2147483647) (min (s.tracker.twist + d) 2147483647)
        slips := if s.sequencer.step = 0 then min 65535 (s.tracker.slips + 1) else s.tracker.slips
        slipRaised := slipMark s }
      points := headingPoints s.points (((((s.tracker.heading : Int) + d) % s.ppr).toNat * 3600 / s.ppr : Nat) : Int)
        (max (-2147483647) (min (s.tracker.twist + d) 2147483647)) s.tracker.quality.code } := by
  have hwritten := writeHeading_eq (s := edgeCounted d history base s) (ppr := s.ppr) rfl hppr
  unfold countedWritten
  rw [hwritten]
  unfold edgeCounted
  dsimp only
  rw [modPpr_of_ne hppr]
  rfl

end Sys2Proof.Machine

namespace Sys2Proof.Safety

open Sys2Proof.Machine

/-- Bounces (R111). -/
theorem edge_bounce {d : Int} {s : State} {e : Micros} (hedge : s.tracker.lastEdge = some e)
    (hearly : s.elapsed e < s.tracker.baseTime * s.bounceMask / 128) :
    (s.sequencer.step = 0 → toothEdge d s = s) ∧
    (s.sequencer.step ≠ 0 → min 65535 (s.tracker.bounces + 1) ≠ 16 → toothEdge d s =
      { s with tracker := { s.tracker with bounces := min 65535 (s.tracker.bounces + 1) } }) ∧
    (s.sequencer.step ≠ 0 → s.tracker.bounces = 15 → toothEdge d s =
      raise fcBounce s.tracker.heading { s with tracker := { s.tracker with bounces := 16 } }) := by
  rw [toothEdge_of_bounce d (bounces_eq_true hedge hearly)]
  refine ⟨fun hstep => if_pos hstep, fun hstep hcount => ?_, fun hstep hcount => ?_⟩
  · rw [rejectBounce_moving hstep, if_neg hcount]
  · rw [rejectBounce_moving hstep, hcount, if_pos (by decide)]
    rfl

/-- Absorbed edges, with the interval as given (R117). -/
theorem edge_absorbed {d : Int} {s : State} {w : Window} {history : List Nat} {base : Nat} (hbounces : s.bounces = false)
    (hwindow : s.tracker.window = some w) (hdirection : w.direction = d) (hopen : s.elapsed w.start ≤ w.length)
    (hinterval : IntervalTaken s history base) :
    toothEdge d s = judgeTrackLost s.tracker.forcedRun (absorbedWritten history base s) :=
  toothEdge_absorbed hbounces (absorbs_eq_true hwindow hdirection hopen) hinterval

/-- The tracker after an absorbed edge (R117). -/
theorem edge_absorbed_tracker {d : Int} {s : State} {w : Window} (hbounces : s.bounces = false)
    (hwindow : s.tracker.window = some w) (hdirection : w.direction = d) (hopen : s.elapsed w.start ≤ w.length) :
    ∃ t, toothEdge d s = t ∧ t.tracker.heading = s.tracker.heading ∧ t.tracker.twist = s.tracker.twist ∧
      t.tracker.deadReckon = s.tracker.deadReckon - 1 ∧ t.tracker.window = none ∧ t.tracker.forcedRun = 0 ∧
      t.tracker.lastEdge = some s.timebase ∧
      t.tracker.quality = (if s.tracker.deadReckon = 1 ∧ s.tracker.quality = .deadReckoned then .referenced
        else s.tracker.quality) := by
  obtain ⟨history, base, hinterval⟩ := exists_intervalTaken s
  obtain ⟨points, hwritten⟩ := absorbedWritten_frame history base s
  refine ⟨_, edge_absorbed hbounces hwindow hdirection hopen hinterval, ?_⟩
  have hstays := MoveStays.judgeTrackLost s.tracker.forcedRun (absorbedWritten history base s)
  have hmoves := outsideMoves_judgeTrackLost s.tracker.forcedRun (absorbedWritten history base s)
  have htracker := tracker_of_moves hmoves
  have hclosed : (judgeTrackLost s.tracker.forcedRun (absorbedWritten history base s)).tracker.window = none := by
    rcases hstays.window with h | h
    · rw [h, hwritten]
      rfl
    · exact h.1
  generalize judgeTrackLost s.tracker.forcedRun (absorbedWritten history base s) = t at htracker hclosed ⊢
  rw [hwritten] at htracker
  refine ⟨?_, ?_, ?_, hclosed, ?_, ?_, ?_⟩ <;> rw [htracker] <;> rfl

/-- What is left of the tracker, its outputs and the move after a counted edge (R112, R121). -/
theorem edge_counted_tracker {d : Int} {s : State} (hbounces : s.bounces = false) (habsorbs : s.absorbs d = false)
    (hppr : s.ppr ≠ 0) (hlength : s.points.length = 256) :
    ∃ t, toothEdge d s = t ∧
      (t.tracker.heading : Int) = ((s.tracker.heading : Int) + d) % s.ppr ∧
      t.tracker.twist = max (-2147483647) (min (s.tracker.twist + d) 2147483647) ∧
      t.tracker.deadReckon = s.tracker.deadReckon ∧ t.tracker.quality = s.tracker.quality ∧
      t.tracker.window = none ∧ t.tracker.forcedRun = 0 ∧ t.tracker.lastEdge = some s.timebase ∧
      t.tracker.slips = (if s.sequencer.step = 0 then min 65535 (s.tracker.slips + 1) else s.tracker.slips) ∧
      t.pointValue 42 = ((t.tracker.heading * 3600 / s.ppr : Nat) : Int) ∧
      t.pointValue 43 = t.tracker.twist ∧ t.pointValue 63 = s.tracker.quality.code ∧
      (∀ n, n = min 65535 (s.tracker.slips + 1) → s.faults.length = 64 →
        (s.sequencer.step = 0 ∧ s.slipLimit < n ∧ s.tracker.slipRaised = false →
          t.tracker.slipRaised = true ∧ (t.fault fcSlip).context = n ∧
          (t.fault fcSlip).count = min 255 ((s.fault fcSlip).count + 1)) ∧
        (¬ (s.sequencer.step = 0 ∧ s.slipLimit < n ∧ s.tracker.slipRaised = false) →
          t.tracker.slipRaised = s.tracker.slipRaised ∧ t.fault fcSlip = s.fault fcSlip)) ∧
      (∀ r r', s.sequencer.record = some r → t.sequencer.record = some r' →
        r'.remaining = r.remaining - d) := by
  obtain ⟨history, base, hinterval⟩ := exists_intervalTaken s
  obtain ⟨x, htooth, hraises⟩ := countedRaises_of_counted hbounces habsorbs hinterval
  rw [countedWritten_eq hppr] at hraises
  have hhanded := handed_judgeTwist_handStep d x
  have hfault : (judgeTwist (handStep d x)).fault fcSlip = x.fault fcSlip :=
    (fault_judgeTwist (by decide) (by decide) (by decide) (by decide) _).trans (fault_handStep (by decide) (by decide) d x)
  refine ⟨_, htooth, ?_⟩
  generalize judgeTwist (handStep d x) = t at hhanded hfault ⊢
  have htracker := tracker_of_moves (hhanded.moves.trans hraises.moves)
  have hpoints := hraises.points.trans hhanded.points
  have hnonneg : 0 ≤ ((s.tracker.heading : Int) + d) % (s.ppr : Int) := Int.emod_nonneg _ (by exact_mod_cast hppr)
  have hwindow : x.tracker.window = none := hraises.stays.window.elim id And.left
  have hvalue : ∀ n, n ∉ raiseOutputs → t.pointValue n = ((headingPoints s.points
      (((((s.tracker.heading : Int) + d) % s.ppr).toNat * 3600 / s.ppr : Nat) : Int)
      (max (-2147483647) (min (s.tracker.twist + d) 2147483647)) s.tracker.quality.code).getD n .reset).value :=
    fun n hn => congrArg Point.value (hpoints.2 n hn)
  obtain ⟨h42, h43, h63⟩ := headingPoints_values hlength
    (((((s.tracker.heading : Int) + d) % s.ppr).toNat * 3600 / s.ppr : Nat) : Int)
    (max (-2147483647) (min (s.tracker.twist + d) 2147483647)) s.tracker.quality.code
  have hheading : t.tracker.heading = (((s.tracker.heading : Int) + d) % s.ppr).toNat := by rw [htracker]
  have htwist : t.tracker.twist = max (-2147483647) (min (s.tracker.twist + d) 2147483647) := by rw [htracker]
  have hmark : t.tracker.slipRaised = slipMark s := by rw [htracker]
  refine ⟨by rw [hheading, Int.toNat_of_nonneg hnonneg], htwist, by rw [htracker]; rfl, by rw [htracker]; rfl, ?_,
    by rw [htracker]; rfl, by rw [htracker]; rfl, by rw [htracker], ?_, ?_, ?_, ?_, ?_⟩
  · exact hhanded.stays.window.elim (fun h => h.trans hwindow) And.left
  · rw [hvalue 42 (by decide), h42, hheading]
  · rw [hvalue 43 (by decide), h43, htwist]
  · rw [hvalue 63 (by decide), h63]
  · rintro n rfl hfaults
    refine ⟨fun ⟨hstep, hover, hunmarked⟩ => ?_, fun hno => ?_⟩
    · obtain ⟨hcontext, hcount⟩ := hraises.slip hfaults hstep hover hunmarked
      rw [hfault, hmark]
      refine ⟨?_, hcontext, hcount⟩
      unfold slipMark
      rw [decide_eq_true ⟨hstep, hover⟩, Bool.or_true]
    · rw [hfault, hmark]
      refine ⟨?_, hraises.noSlip hno⟩
      unfold slipMark
      cases hbefore : s.tracker.slipRaised with
      | true => rfl
      | false => rw [Bool.false_or]; exact decide_eq_false (fun h => hno ⟨h.1, h.2, hbefore⟩)
  · intro r r' hrecord hrecord'
    have hx : x.sequencer.record = some r ∨ x.sequencer.record = none :=
      hraises.stays.record.imp_left (fun h => h.trans hrecord)
    have ht : t.sequencer.record = x.sequencer.record.map (fun r => { r with remaining := r.remaining - d }) ∨
        t.sequencer.record = none := hhanded.stays.record
    rw [hrecord'] at ht
    rcases ht with ht | ht
    · rcases hx with hx | hx
      · rw [hx] at ht
        cases ht
        rfl
      · rw [hx] at ht
        cases ht
    · cases ht

/-- Settles O48: an edge by whether it bounces, is absorbed or counted, and the step that a counted one hands on. -/
theorem edgesAreRejectedAbsorbedOrCounted : Obligations.EdgesAreRejectedAbsorbedOrCounted := by
  unfold Obligations.EdgesAreRejectedAbsorbedOrCounted
  refine ⟨fun d s hd hlength => ⟨fun e hedge hearly => edge_bounce hedge hearly, fun haccepted => ?_⟩, ?_⟩
  · have hbounces := bounces_eq_false haccepted
    refine ⟨fun w hwindow hdirection hopen => edge_absorbed_tracker hbounces hwindow hdirection hopen,
      fun hcounts hppr => edge_counted_tracker hbounces (absorbs_eq_false hcounts) hppr hlength, ?_⟩
    intro hppr same history base count u hsame hhistory hbase hu hcount
    have hinterval := intervalTaken_of hsame hhistory hbase
    have hu : u = edgeAccepted history base s := hu
    subst hu hcount
    refine ⟨fun w hwindow hdirection hopen v hv => ?_, fun hcounts v hv => ?_⟩
    · have hedge := edge_absorbed hbounces hwindow hdirection hopen hinterval
      have hwritten : absorbedWritten history base s = v := by
        rw [hv]
        unfold absorbedWritten
        by_cases hrestores : s.tracker.deadReckon = 1 ∧ s.tracker.quality = .deadReckoned
        · rw [if_pos hrestores, if_pos hrestores, if_pos hrestores,
            writeHeading_eq (s := edgeAbsorbed history base s) (ppr := s.ppr) rfl hppr]
          unfold edgeAbsorbed
          rw [if_pos hrestores]
          rfl
        · rw [if_neg hrestores, if_neg hrestores, if_neg hrestores]
          unfold edgeAbsorbed
          rw [if_neg hrestores]
          rfl
      have hrun : v.tracker.forcedRun = 0 := by rw [hv]; rfl
      have hlimit : v.forcedLimit = s.forcedLimit := by rw [hv]; rfl
      rw [hedge, hwritten]
      refine ⟨byFaultsOnly_judgeTrackLost .., fun hzero => judgeTrackLost_of_same (hrun.trans hzero.symm), fun hne hpositive => ?_⟩
      rw [judgeTrackLost_of_ne (by rw [hrun]; exact Ne.symm hne), hrun, hlimit, decide_eq_false (by omega)]
      exact condition_judge (by decide) (fun h => Bool.noConfusion h) _
    · obtain ⟨x, htooth, hraises⟩ := countedRaises_of_counted hbounces (absorbs_eq_false hcounts) hinterval
      have hwritten : countedWritten d history base s = v := by
        rw [hv, countedWritten_eq hppr]
        rfl
      rw [hwritten] at hraises
      exact ⟨x, hraises.faults, htooth, hraises.still⟩
  · intro d s u y hy hu
    have hu : u = stepCounted d s := hu
    subst hy hu
    exact ⟨handStep_parked, handStep_moving⟩

end Sys2Proof.Safety
end

section
/-! PROOF. Forced advances, the absorption window and the last edge forgotten at their moments (O49). -/

set_option Elab.async false

namespace Sys2Proof.Machine

open Sys2Proof.Safety

/-- The state of a forced advance before its outputs (R116, R117, R115). -/
def advanceForced (c : Int) (s : State) : State :=
  { s with tracker := { s.tracker with
    heading := modPpr s.ppr ((s.tracker.heading : Int) + c)
    twist := saturate (-i32Max) i32Max (s.tracker.twist + c)
    deadReckon := bump 65535 s.tracker.deadReckon
    forcedRun := bump 255 s.tracker.forcedRun
    quality := if s.tracker.quality = .referenced then .deadReckoned else s.tracker.quality
    window := some { direction := c, start := s.timebase, length := s.tracker.baseTime }
    timer := some { start := s.timebase, limit := s.tracker.baseTime * s.edgeTimeout / 128 } } }

theorem forcedAdvance_eq (c : Int) (s : State) :
    forcedAdvance c s = judgeTwist (handStep c (judgeTrackLost s.tracker.forcedRun (writeHeading (advanceForced c s)))) := rfl

/-- A forced advance with PPR not 0, heading, twist and outputs written out (R116, R121). -/
theorem forcedWritten_eq {c : Int} {s : State} (hppr : s.ppr ≠ 0) :
    writeHeading (advanceForced c s) = { s with
      tracker := { s.tracker with
        heading := (((s.tracker.heading : Int) + c) % s.ppr).toNat
        twist := max (-2147483647) (min (s.tracker.twist + c) 2147483647)
        deadReckon := min 65535 (s.tracker.deadReckon + 1)
        forcedRun := min 255 (s.tracker.forcedRun + 1)
        quality := if s.tracker.quality = .referenced then .deadReckoned else s.tracker.quality
        window := some { direction := c, start := s.timebase, length := s.tracker.baseTime }
        timer := some { start := s.timebase, limit := s.tracker.baseTime * s.edgeTimeout / 128 } }
      points := headingPoints s.points (((((s.tracker.heading : Int) + c) % s.ppr).toNat * 3600 / s.ppr : Nat) : Int)
        (max (-2147483647) (min (s.tracker.twist + c) 2147483647))
        (if s.tracker.quality = .referenced then 2 else s.tracker.quality.code) } := by
  have hcode : ((if s.tracker.quality = .referenced then HeadingQuality.deadReckoned else s.tracker.quality).code : Int) =
      if s.tracker.quality = .referenced then 2 else (s.tracker.quality.code : Int) := by
    split
    · rfl
    · rfl
  rw [writeHeading_eq (s := advanceForced c s) (ppr := s.ppr) rfl hppr]
  unfold advanceForced headingPoints
  dsimp only
  rw [modPpr_of_ne hppr, hcode]
  rfl

theorem exec_of_due_nil {r : State} {e : Timed} {run : State → State} (hdue : r.due = []) :
    (Host.Outcome.next (bringAbout e run (settle r)) : Outcome) = .next (bringAbout e run r) := by
  rw [settle_of_due_nil hdue]

theorem map_timing_eq_some_iff {timer : Option EdgeTimer} {x : EdgeTimer} :
    timer.map (fun t => ({ start := t.start, limit := t.limit } : Timing)) = some { start := x.start, limit := x.limit } ↔
      timer = some x := by
  cases timer with
  | none => exact ⟨fun h => (by cases h), fun h => (by cases h)⟩
  | some t =>
    cases t
    cases x
    simp

theorem map_window_eq_some_iff {window : Option Window} {x : Window} :
    window.map (fun w => ({ start := w.start, limit := w.length } : Timing)) = some { start := x.start, limit := x.length } ↔
      window.map (fun w => (w.start, w.length)) = some (x.start, x.length) := by
  cases window with
  | none => exact ⟨fun h => (by cases h), fun h => (by cases h)⟩
  | some t => simp

end Sys2Proof.Machine

namespace Sys2Proof.Safety

open Sys2Proof.Machine

/-- A forced advance, from the state at its moment (R116, R118). -/
theorem forcedAdvance_effect {c : Int} {s : State} (hppr : s.ppr ≠ 0) (hfaults : s.faults.length = 64)
    (hlength : s.points.length = 256) (hrun : s.tracker.forcedRun < 255) :
    ∃ t, forcedAdvance c s = t ∧ t.timebase = s.timebase ∧
      (t.tracker.heading : Int) = ((s.tracker.heading : Int) + c) % s.ppr ∧
      t.tracker.twist = max (-2147483647) (min (s.tracker.twist + c) 2147483647) ∧
      t.tracker.deadReckon = min 65535 (s.tracker.deadReckon + 1) ∧
      t.tracker.forcedRun = s.tracker.forcedRun + 1 ∧
      t.tracker.quality = (if s.tracker.quality = .referenced then .deadReckoned else s.tracker.quality) ∧
      t.tracker.lastEdge = s.tracker.lastEdge ∧ t.tracker.history = s.tracker.history ∧
      (t.condition fcTrackLost = true ↔ s.forcedLimit ≤ s.tracker.forcedRun + 1) ∧
      (t.sequencer.step ≠ 0 → t.tracker.window =
        some { direction := c, start := t.timebase, length := s.tracker.baseTime }) ∧
      t.pointValue 42 = ((t.tracker.heading * 3600 / s.ppr : Nat) : Int) ∧ t.pointValue 43 = t.tracker.twist ∧
      (∀ (count : Nat) (v : State), count = (((s.tracker.heading : Int) + c) % s.ppr).toNat →
        v = { s with
          timebase := t.timebase
          tracker := { s.tracker with
            heading := count
            twist := max (-2147483647) (min (s.tracker.twist + c) 2147483647)
            deadReckon := min 65535 (s.tracker.deadReckon + 1)
            forcedRun := s.tracker.forcedRun + 1
            quality := if s.tracker.quality = .referenced then .deadReckoned else s.tracker.quality
            window := some { direction := c, start := t.timebase, length := s.tracker.baseTime }
            timer := some { start := t.timebase, limit := s.tracker.baseTime * s.edgeTimeout / 128 } }
          points := ((s.points.set 42
              { value := ((count * 3600 / s.ppr : Nat) : Int), quality := .fresh, age := 0 }).set 43
            { value := max (-2147483647) (min (s.tracker.twist + c) 2147483647), quality := .fresh, age := 0 }).set 63
            { value := if s.tracker.quality = .referenced then 2 else s.tracker.quality.code,
              quality := .fresh, age := 0 } } →
        ∃ x, ByFaultsOnly v x ∧ t = judgeTwist (handStep c x) ∧
          (s.condition fcTrackLost = decide (s.forcedLimit ≤ s.tracker.forcedRun + 1) → x = v)) := by
  have hwritten := forcedWritten_eq (c := c) hppr
  rw [show min 255 (s.tracker.forcedRun + 1) = s.tracker.forcedRun + 1 by omega] at hwritten
  generalize hw : writeHeading (advanceForced c s) = w at hwritten
  have hjudge : judgeTrackLost s.tracker.forcedRun w =
      judge fcTrackLost (decide (s.forcedLimit ≤ s.tracker.forcedRun + 1)) w.tracker.heading w := by
    have hrunNow : w.tracker.forcedRun = s.tracker.forcedRun + 1 := by rw [hwritten]
    have hlimit : w.forcedLimit = s.forcedLimit := by rw [hwritten]; rfl
    rw [judgeTrackLost_of_ne (by rw [hrunNow]; omega), hrunNow, hlimit]
  have hadvance : forcedAdvance c s = judgeTwist (handStep c (judgeTrackLost s.tracker.forcedRun w)) := by
    rw [forcedAdvance_eq, hw]
  have hmovesX := outsideMoves_judgeTrackLost s.tracker.forcedRun w
  have hpointsX := KeepsPoints.judgeTrackLost s.tracker.forcedRun w
  have hstaysX := MoveStays.judgeTrackLost s.tracker.forcedRun w
  have hfaultsX := byFaultsOnly_judgeTrackLost s.tracker.forcedRun w
  have hconditionX : (judgeTrackLost s.tracker.forcedRun w).condition fcTrackLost =
      decide (s.forcedLimit ≤ s.tracker.forcedRun + 1) := by
    rw [hjudge]
    refine condition_judge (by decide) (fun _ => ?_) _
    rw [hwritten]
    change fcTrackLost < s.faults.length
    rw [hfaults]
    decide
  have hsameX : s.condition fcTrackLost = decide (s.forcedLimit ≤ s.tracker.forcedRun + 1) →
      judgeTrackLost s.tracker.forcedRun w = w := by
    intro hsame
    rw [hjudge]
    refine judge_of_same ?_ _
    rw [← hsame, hwritten]
    rfl
  generalize judgeTrackLost s.tracker.forcedRun w = x at hadvance hmovesX hpointsX hstaysX hfaultsX hconditionX hsameX
  have hhanded := handed_judgeTwist_handStep c x
  have hfault : (judgeTwist (handStep c x)).fault fcTrackLost = x.fault fcTrackLost :=
    (fault_judgeTwist (by decide) (by decide) (by decide) (by decide) _).trans (fault_handStep (by decide) (by decide) c x)
  refine ⟨_, hadvance, ?_⟩
  generalize ht : judgeTwist (handStep c x) = t at hhanded hfault
  have hmoves := hhanded.moves.trans hmovesX
  have hpoints := hpointsX.trans hhanded.points
  have htracker := tracker_of_moves hmoves
  have htime : t.timebase = s.timebase := by
    have hkept : t.timebase = w.timebase := FaultsOnly.kept ⟨hmoves, hpoints⟩ State.timebase
    rw [hkept, hwritten]
  have hvalue : ∀ n, n ∉ raiseOutputs → t.pointValue n = (w.points.getD n .reset).value :=
    fun n hn => congrArg Point.value (hpoints.2 n hn)
  have hcondition : t.condition fcTrackLost = decide (s.forcedLimit ≤ s.tracker.forcedRun + 1) :=
    (congrArg FaultRecord.condition hfault).trans hconditionX
  have hwindow : t.sequencer.step ≠ 0 → t.tracker.window = w.tracker.window := by
    intro hstep
    have hstepX : x.sequencer.step ≠ 0 := fun h => hstep (hhanded.stays.parked h)
    have ht : t.tracker.window = x.tracker.window := hhanded.stays.window.resolve_right (fun h => hstep h.2)
    exact ht.trans (hstaysX.window.resolve_right (fun h => hstepX h.2))
  have hnonneg : 0 ≤ ((s.tracker.heading : Int) + c) % (s.ppr : Int) := Int.emod_nonneg _ (by exact_mod_cast hppr)
  obtain ⟨h42, h43, -⟩ := headingPoints_values hlength
    (((((s.tracker.heading : Int) + c) % s.ppr).toNat * 3600 / s.ppr : Nat) : Int)
    (max (-2147483647) (min (s.tracker.twist + c) 2147483647))
    (if s.tracker.quality = .referenced then 2 else s.tracker.quality.code)
  have hheading : t.tracker.heading = (((s.tracker.heading : Int) + c) % s.ppr).toNat := by rw [htracker, hwritten]
  have htwist : t.tracker.twist = max (-2147483647) (min (s.tracker.twist + c) 2147483647) := by rw [htracker, hwritten]
  refine ⟨htime, by rw [hheading, Int.toNat_of_nonneg hnonneg], htwist, by rw [htracker, hwritten], by rw [htracker, hwritten],
    by rw [htracker, hwritten], by rw [htracker, hwritten], by rw [htracker, hwritten],
    by rw [hcondition, decide_eq_true_eq], fun hstep => by rw [hwindow hstep, hwritten, htime], ?_, ?_, ?_⟩
  · rw [hvalue 42 (by decide), hwritten, hheading]
    exact h42
  · rw [hvalue 43 (by decide), hwritten, htwist]
    exact h43
  · intro count v hcount hv
    have hv : v = w := by
      rw [hv, htime, hcount, hwritten]
      rfl
    rw [hv]
    exact ⟨x, hfaultsX, ht.symm, hsameX⟩

/-- Settles O49: each timed command brings its moment about, or finds nothing measured; and the advance taken at its moment. -/
theorem forcedAdvanceAndTheTrackersTimers : Obligations.ForcedAdvanceAndTheTrackersTimers := by
  unfold Obligations.ForcedAdvanceAndTheTrackersTimers
  intro r hdue
  have hadvance : exec .forcedAdvance r = .next (bringAbout .edgeTimer expireEdgeTimer r) := exec_of_due_nil hdue
  have hclose : exec .absorptionWindowClose r = .next (bringAbout .window closeWindow r) := exec_of_due_nil hdue
  have hforget : exec .lastEdgeForget r = .next (bringAbout .lastEdge forgetEdge r) := exec_of_due_nil hdue
  have htimer : ∀ timer s, r.tracker.timer = some timer → s = letPass false (timer.limit - r.elapsed timer.start) r →
      bringAbout .edgeTimer expireEdgeTimer r = if s.tracker.timer = some timer then expireEdgeTimer s else s := by
    intro timer s htimer hs
    have htiming : r.timing .edgeTimer = some { start := timer.start, limit := timer.limit } := by
      rw [State.timing, htimer]; rfl
    have hletPass : letPass false (r.left { start := timer.start, limit := timer.limit }) r = s := hs.symm
    have hsame : s.timing .edgeTimer = some { start := timer.start, limit := timer.limit } ↔ s.tracker.timer = some timer :=
      map_timing_eq_some_iff
    rw [bringAbout_of_timing _ htiming, hletPass]
    exact if_congr hsame rfl rfl
  refine ⟨fun hnone => ?_, fun timer s hstart hs hmoved => ?_, fun timer s c hstart hs hstill hc hppr hfaults hlength hrun => ?_,
    fun hnone => ?_, fun w s hwindow hs => ?_, fun hnone => ?_, fun e s hedge hs => ?_⟩
  · rw [hadvance, bringAbout_of_none _ (by rw [State.timing, hnone]; rfl)]
  · rw [hadvance, htimer timer s hstart hs, if_neg hmoved]
  · obtain ⟨t, ht, hrest⟩ := forcedAdvance_effect (c := c) hppr hfaults hlength hrun
    refine ⟨t, ?_, hrest⟩
    rw [hadvance, htimer timer s hstart hs, if_pos hstill, ← ht, hc]
    rfl
  · rw [hclose, bringAbout_of_none _ (by rw [State.timing, hnone]; rfl)]
  · have htiming : r.timing .window = some { start := w.start, limit := w.length } := by
      rw [State.timing, hwindow]; rfl
    have hletPass : letPass false (r.left { start := w.start, limit := w.length }) r = s := hs.symm
    have hsame : s.timing .window = some { start := w.start, limit := w.length } ↔
        s.tracker.window.map (fun x => (x.start, x.length)) = some (w.start, w.length) := map_window_eq_some_iff
    rw [hclose, bringAbout_of_timing _ htiming, hletPass]
    by_cases hstill : s.tracker.window.map (fun x => (x.start, x.length)) = some (w.start, w.length)
    · rw [if_pos hstill, if_pos (hsame.2 hstill)]
      rfl
    · rw [if_neg hstill, if_neg (fun h => hstill (hsame.1 h))]
  · rw [hforget, bringAbout_of_none _ (by rw [State.timing, hnone]; rfl)]
  · have htiming : r.timing .lastEdge = some { start := e, limit := 2 ^ 31 } := by
      rw [State.timing, hedge]; rfl
    have hletPass : letPass false (r.left { start := e, limit := 2 ^ 31 }) r = s := hs.symm
    have hsame : s.timing .lastEdge = some { start := e, limit := 2 ^ 31 } ↔ s.tracker.lastEdge = some e := by
      rw [State.timing]
      cases s.tracker.lastEdge with
      | none => exact ⟨fun h => (by cases h), fun h => (by cases h)⟩
      | some m => simp
    rw [hforget, bringAbout_of_timing _ htiming, hletPass]
    by_cases hstill : s.tracker.lastEdge = some e
    · rw [if_pos hstill, if_pos (hsame.2 hstill)]
      rfl
    · rw [if_neg hstill, if_neg (fun h => hstill (hsame.1 h))]

end Sys2Proof.Safety
end

section
/-! SUPPORT. What leaves the outstanding consequences and the clock alone, and that all consequences come to an end (log
entry 4). -/

set_option Elab.async false

namespace Sys2Proof.Machine

open Sys2Proof.Safety

/-- From `s` to `t` the outstanding consequences, the clock and the timebase stand. -/
structure TimeKept (s t : State) : Prop where
  due : t.due = s.due
  clock : t.clock = s.clock
  now : t.timebase = s.timebase

namespace TimeKept

theorem refl (s : State) : TimeKept s s := ⟨rfl, rfl, rfl⟩

theorem trans {s t u : State} (h : TimeKept s t) (k : TimeKept t u) : TimeKept s u :=
  ⟨k.due.trans h.due, k.clock.trans h.clock, k.now.trans h.now⟩

theorem of_owners {s t : State} (h : outsideOwners t = outsideOwners s) : TimeKept s t :=
  ⟨eq_of_view h State.due, eq_of_view h State.clock, eq_of_view h State.timebase⟩

theorem of_moves {s t : State} (h : outsideMoves t = outsideMoves s) : TimeKept s t := of_owners (outsideOwners_of_moves h)

theorem byFaults {s t : State} (h : ByFaultsOnly s t) : TimeKept s t := of_moves (outsideMoves_of_byFaultsOnly h)

theorem raise (k : Nat) (c : Int) (s : State) : TimeKept s (raise k c s) := of_moves (outsideMoves_raise k c s)

theorem judge (k : Nat) (present : Bool) (c : Int) (s : State) : TimeKept s (judge k present c s) :=
  of_moves (outsideMoves_judge k present c s)

theorem judgeTrackLost (before : Nat) (s : State) : TimeKept s (judgeTrackLost before s) :=
  of_moves (outsideMoves_judgeTrackLost before s)

theorem enterStep (k : Nat) (s : State) : TimeKept s (enterStep k s) := of_moves (outsideMoves_enterStepChain 9 k s)

theorem stopMove (s : State) : TimeKept s (stopMove s) := by
  unfold Machine.stopMove
  split
  · exact refl s
  · split
    · exact refl s
    · exact enterStep ..
  · exact of_moves (outsideMoves_endMove ..)
  · exact of_moves (outsideMoves_endMove ..)

/-! ### Consequences other than the minute -/

/-- The out lane's engine as the frame starts (R15). -/
theorem restarted (count : Nat) (restart : Bool) (e : Engine) (s : State) : TimeKept s
    (if restart = true then Machine.raise fcMasterRestart count { s with outLane := e } else { s with outLane := e }) := by
  have hengine : TimeKept s { s with outLane := e } := ⟨rfl, rfl, rfl⟩
  split
  · exact hengine.trans (raise ..)
  · exact hengine

theorem startTaken (count advance : Nat) (s : State) : TimeKept s (startTaken count advance s) := by
  obtain ⟨b, -, howners⟩ := startTaken_owners count advance s
  exact ⟨howners.kept State.due, howners.kept State.clock, howners.kept State.timebase⟩

theorem outFrameStart (s : State) : TimeKept s (outFrameStart s) := by
  have hstart : Machine.outFrameStart s = Machine.startTaken (cycleOf (s.outLane.byteAt 1))
      (cycleAdvance (restartOf (s.outLane.byteAt 1)) s.prevCycle (cycleOf (s.outLane.byteAt 1))) _ := rfl
  rw [hstart]
  exact (restarted ..).trans (startTaken ..)

theorem returnFrameStart (s : State) : TimeKept s (returnFrameStart s) := by
  have hunbound : ∀ (e : Engine) (c : Int), TimeKept s (Machine.raise fcOrder c { s with retLane := e }) := by
    intro e c
    have hengine : TimeKept s { s with retLane := e } := ⟨rfl, rfl, rfl⟩
    exact hengine.trans (raise ..)
  unfold Machine.returnFrameStart
  dsimp only
  split
  · exact ⟨rfl, rfl, rfl⟩
  · split
    · split
      · exact ⟨rfl, rfl, rfl⟩
      · exact hunbound ..
    · exact hunbound ..

theorem setEngine (lane : Lane) (e : Engine) (s : State) : TimeKept s (s.setEngine lane e) := by
  cases lane <;> exact ⟨rfl, rfl, rfl⟩

theorem sendBytes (lane : Lane) (bytes : List Byte) (s : State) : TimeKept s (sendBytes lane bytes s) := by
  unfold Machine.sendBytes
  cases lane with
  | out => exact ⟨rfl, rfl, rfl⟩
  | ret => exact ⟨by dsimp only; split <;> rfl, by dsimp only; split <;> rfl, by dsimp only; split <;> rfl⟩

theorem slotApply (lane : Lane) (s : State) : TimeKept s (slotApply lane s) := by
  unfold Machine.slotApply
  dsimp only
  split
  · exact refl s
  · next position _ =>
    obtain ⟨payload, staging, hits, heq, -⟩ := applyEntry_frame lane position
      (slotEntry (s.boundSmt (s.engine lane).generation) position)
      ((s.engine lane).held.drop ((s.engine lane).held.length - (s.engine lane).buffered)) s
    rw [heq]
    have hstaged : TimeKept s { staged lane staging s with entryHits := hits } := by cases lane <;> exact ⟨rfl, rfl, rfl⟩
    exact hstaged.trans ((setEngine lane _ _).trans ((setEngine lane _ _).trans (sendBytes lane _ _)))

theorem discardRest (lane : Lane) (source : OutSource) (s : State) : TimeKept s (discardRest lane source s) := by
  unfold Machine.discardRest
  split
  · exact ⟨rfl, rfl, rfl⟩
  · exact ⟨rfl, rfl, rfl⟩
  · split <;> exact ⟨rfl, rfl, rfl⟩
  · exact refl s

theorem closeOut_cut (s : State) : TimeKept s (closeOut true s) := by
  have hends := (outBadEnd_closeOut (s := s) (truncated := true) (by rw [Bool.not_true, Bool.and_false])).2.2
  exact ⟨(byFaults hends).due, (byFaults hends).clock, (byFaults hends).now⟩

theorem closeReturn_cut (s : State) : TimeKept s (closeReturn true [] s) := by
  have hends := (retBadEnd_closeReturn (s := s) (truncated := true) [] (by rw [Bool.not_true, Bool.and_false])).2.2.2
  exact ⟨(byFaults hends).due, (byFaults hends).clock, (byFaults hends).now⟩

theorem overlengthCut (lane : Lane) (s : State) : TimeKept s (overlengthCut lane s) := by
  refine (discardRest lane s.outLane.source s).trans ?_
  cases lane with
  | out => exact closeOut_cut _
  | ret => exact closeReturn_cut _

theorem takeReport (s : State) : TimeKept s (takeReport s) := by
  unfold Machine.takeReport overlayReport
  split
  · exact ⟨rfl, rfl, rfl⟩
  · split <;> exact ⟨rfl, rfl, rfl⟩

theorem writeService (s : State) : TimeKept s (writeService s) := by
  unfold Machine.writeService
  split <;> exact ⟨rfl, rfl, rfl⟩

theorem stepTimeout (s : State) : TimeKept s (stepTimeout s) := by
  by_cases hstep : s.sequencer.step = 0
  · unfold Machine.stepTimeout
    rw [if_pos hstep]
    exact refl s
  · rw [stepTimeout_moving hstep]
    split
    · exact (raise ..).trans (enterStep ..)
    · exact raise ..

theorem beginRest (s : State) : TimeKept s (beginRest s) := by
  have hset : TimeKept s { s with decision := { s.decision with rest := some s.restTime } } := ⟨rfl, rfl, rfl⟩
  have hbegun : TimeKept s (restBegun s) := hset.trans (judge ..)
  by_cases hstops : RestStops (restBegun s)
  · rw [beginRest_stops hstops]
    exact hbegun.trans (stopMove _)
  · rw [beginRest_stands hstops]
    exact hbegun

theorem endRest (s : State) : TimeKept s (endRest s) := by
  have hset : TimeKept s { s with decision := { s.decision with rest := none, duty := 0, driveSeen := false } } := ⟨rfl, rfl, rfl⟩
  exact hset.trans (judge ..)

/-- Every consequence but the minute (R172) brings none. -/
theorem runDue {d : Due} (h : d.isMinute = false) (s : State) : TimeKept s (runDue d s) := by
  cases d with
  | frameStart lane =>
    cases lane with
    | out => exact outFrameStart s
    | ret => exact returnFrameStart s
  | slotApply lane => exact slotApply lane s
  | overlengthCut lane => exact overlengthCut lane s
  | reportTaken => exact takeReport s
  | serviceWrite => exact writeService s
  | stepTimeout => exact stepTimeout s
  | minute thermal decision => exact Bool.noConfusion h
  | restBegin => exact beginRest s
  | restEnd => exact endRest s
  | exerciseStart => exact ⟨rfl, rfl, rfl⟩
  | exerciseEnd => exact ⟨rfl, rfl, rfl⟩

end TimeKept

/-! ## The minute brings at most two consequences (R89, R148) -/

/-- From `s` to `t` at most `n` consequences other than minutes have come, and clock and timebase stand. -/
structure TimeBrings (n : Nat) (s t : State) : Prop where
  due : ∃ l : List Due, t.due = s.due ++ l ∧ l.length ≤ n ∧ ∀ d ∈ l, d.isMinute = false
  clock : t.clock = s.clock
  now : t.timebase = s.timebase

theorem TimeKept.brings {s t : State} (h : TimeKept s t) : TimeBrings 0 s t :=
  ⟨⟨[], by rw [h.due, List.append_nil], Nat.le_refl 0, fun d hd => nomatch hd⟩, h.clock, h.now⟩

theorem TimeBrings.trans {m n : Nat} {s t u : State} (h : TimeBrings m s t) (k : TimeBrings n t u) : TimeBrings (m + n) s u := by
  obtain ⟨l, hl, hlen, hkind⟩ := h.due
  obtain ⟨l', hl', hlen', hkind'⟩ := k.due
  refine ⟨⟨l ++ l', by rw [hl', hl, List.append_assoc], by rw [List.length_append]; omega, fun d hd => ?_⟩,
    k.clock.trans h.clock, k.now.trans h.now⟩
  exact (List.mem_append.1 hd).elim (hkind d) (hkind' d)

theorem TimeBrings.mono {m n : Nat} {s t : State} (h : TimeBrings m s t) (hle : m ≤ n) : TimeBrings n s t := by
  obtain ⟨l, hl, hlen, hkind⟩ := h.due
  exact ⟨⟨l, hl, by omega, hkind⟩, h.clock, h.now⟩

theorem TimeBrings.of_same {n : Nat} {s t : State} (hdue : t.due = s.due) (hclock : t.clock = s.clock)
    (hnow : t.timebase = s.timebase) : TimeBrings n s t :=
  (TimeKept.brings ⟨hdue, hclock, hnow⟩).mono (Nat.zero_le n)

theorem TimeBrings.one {s t : State} {d : Due} (hdue : t.due = s.due ++ [d]) (hd : d.isMinute = false)
    (hclock : t.clock = s.clock) (hnow : t.timebase = s.timebase) : TimeBrings 1 s t :=
  ⟨⟨[d], hdue, Nat.le_refl 1, fun d' hd' => by rw [List.mem_singleton.1 hd']; exact hd⟩, hclock, hnow⟩

theorem timeBrings_thermalMinute (s : State) : TimeBrings 1 s (thermalMinute s) := by
  have hkept : ∀ countdown : Option Nat, TimeBrings 1 s { s with thermal := { s.thermal with idleCountdown := countdown } } :=
    fun _ => .of_same rfl rfl rfl
  have hself : TimeBrings 1 s s := (TimeKept.refl s).brings.mono (Nat.zero_le 1)
  unfold thermalMinute
  split
  · split
    · split
      · exact hkept none
      · dsimp only
        split
        · exact .one (d := .exerciseStart) rfl rfl rfl rfl
        · exact hkept _
    · exact hself
  · exact hself

theorem timeBrings_decisionMinute (s : State) : TimeBrings 1 s (decisionMinute s) := by
  have hkept : ∀ d : Decision, TimeBrings 1 s { s with decision := d } :=
    fun _ => .of_same rfl rfl rfl
  unfold decisionMinute
  split
  · exact (TimeKept.refl s).brings.mono (Nat.zero_le 1)
  · split
    · exact hkept _
    · dsimp only
      split
      · exact .one (d := .restEnd) rfl rfl rfl rfl
      · exact hkept _

theorem timeBrings_minuteEvent (thermal decision : Bool) (s : State) : TimeBrings 2 s (minuteEvent thermal decision s) := by
  have htracker : TimeBrings 0 s (trackerMinute s) := .of_same rfl rfl rfl
  have hthermal : TimeBrings 1 s (if thermal = true then thermalMinute (trackerMinute s) else trackerMinute s) := by
    split
    · exact htracker.trans (timeBrings_thermalMinute _)
    · exact htracker.mono (Nat.zero_le 1)
  unfold minuteEvent
  dsimp only
  split
  · exact hthermal.trans (timeBrings_decisionMinute _)
  · exact hthermal.mono (by omega)

/-! ## Consequences taken in order come to an end (log entry 4) -/

/-- How many turns a consequence needs at most. -/
def Due.turns (d : Due) : Nat := if d.isMinute = true then 3 else 1

theorem Due.turns_of_not_minute {d : Due} (h : d.isMinute = false) : d.turns = 1 := by
  unfold Due.turns
  rw [h]
  rfl

theorem sum_turns_le (l : List Due) : (l.map Due.turns).sum ≤ 3 * l.length := by
  induction l with
  | nil => exact Nat.le_refl 0
  | cons d l ih =>
    have hd : d.turns ≤ 3 := by
      unfold Due.turns
      split
      · exact Nat.le_refl 3
      · omega
    rw [List.map_cons, List.sum_cons, List.length_cons]
    omega

theorem sum_turns_of_not_minute {l : List Due} (h : ∀ d ∈ l, d.isMinute = false) : (l.map Due.turns).sum = l.length := by
  induction l with
  | nil => rfl
  | cons d l ih =>
    rw [List.map_cons, List.sum_cons, List.length_cons, Due.turns_of_not_minute (h d List.mem_cons_self),
      ih (fun d' hd' => h d' (List.mem_cons_of_mem d hd'))]
    omega

/-- A consequence taken brings fewer turns than it took itself. -/
theorem runDue_brings (d : Due) (s : State) : TimeBrings (d.turns - 1) s (runDue d s) := by
  cases h : d.isMinute with
  | false => exact (TimeKept.runDue h s).brings.mono (Nat.zero_le _)
  | true =>
    cases d with
    | minute thermal decision => exact timeBrings_minuteEvent thermal decision s
    | _ => exact Bool.noConfusion h

/-- Clock and timebase stand while consequences are taken, and with fuel for their turns none is left. -/
theorem takeUntil_false (fuel : Nat) (s : State) :
    ((s.due.map Due.turns).sum ≤ fuel → (takeUntil (fun _ => false) fuel s).due = []) ∧
    (takeUntil (fun _ => false) fuel s).clock = s.clock ∧ (takeUntil (fun _ => false) fuel s).timebase = s.timebase := by
  induction fuel generalizing s with
  | zero =>
    refine ⟨fun h => ?_, rfl, rfl⟩
    cases hdue : s.due with
    | nil => exact hdue
    | cons d l =>
      rw [hdue, List.map_cons, List.sum_cons] at h
      have hd : 1 ≤ d.turns := by unfold Due.turns; split <;> omega
      omega
  | succ fuel ih =>
    cases hdue : s.due with
    | nil =>
      rw [takeUntil, hdue]
      exact ⟨fun _ => hdue, rfl, rfl⟩
    | cons d l =>
      have hturn : takeUntil (fun _ => false) (fuel + 1) s = takeUntil (fun _ => false) fuel (runDue d { s with due := l }) := by
        rw [takeUntil, hdue]
        rfl
      have hbrings := runDue_brings d { s with due := l }
      obtain ⟨new, hnew, hlength, hkind⟩ := hbrings.due
      obtain ⟨hend, hclock, hnow⟩ := ih (runDue d { s with due := l })
      have hd : 1 ≤ d.turns := by unfold Due.turns; split <;> omega
      rw [hturn]
      refine ⟨fun h => hend ?_, hclock.trans hbrings.clock, hnow.trans hbrings.now⟩
      rw [List.map_cons, List.sum_cons] at h
      rw [hnew, List.map_append, List.sum_append, sum_turns_of_not_minute hkind]
      change (l.map Due.turns).sum + new.length ≤ fuel
      omega

theorem settle_due (s : State) : (settle s).due = [] := (takeUntil_false (3 * s.due.length) s).1 (sum_turns_le s.due)

theorem settle_clock (s : State) : (settle s).clock = s.clock := (takeUntil_false (3 * s.due.length) s).2.1

theorem settle_timebase (s : State) : (settle s).timebase = s.timebase := (takeUntil_false (3 * s.due.length) s).2.2

@[simp] theorem settle_settle (s : State) : settle (settle s) = settle s := settle_of_due_nil (settle_due s)

end Sys2Proof.Machine
end

section
/-! PROOF. Consequences, time and commands (O2). -/

set_option Elab.async false

namespace Sys2Proof.Machine

open Sys2Proof.Safety

/-! ## The next event (R24) -/

theorem le_foldl_min_iff {n a : Nat} {l : List Nat} : n ≤ l.foldl min a ↔ n ≤ a ∧ ∀ x ∈ l, n ≤ x := by
  induction l generalizing a with
  | nil => simp
  | cons x l ih =>
    rw [List.foldl_cons, ih, List.forall_mem_cons, ← and_assoc, le_min_iff]

theorem option_all_iff {α : Type} {o : Option α} {p : α → Prop} [DecidablePred p] :
    o.all (fun x => decide (p x)) = true ↔ ∀ x, o = some x → p x := by
  cases o with
  | none => exact ⟨fun _ x hx => (by cases hx), fun _ => rfl⟩
  | some x => exact ⟨fun h y hy => (by cases hy; exact of_decide_eq_true h), fun h => decide_eq_true (h x rfl)⟩

theorem option_any_iff {α : Type} {o : Option α} {p : α → Prop} [DecidablePred p] :
    o.any (fun x => decide (p x)) = true ↔ ∃ x, o = some x ∧ p x := by
  cases o with
  | none => exact ⟨fun h => Bool.noConfusion h, fun ⟨x, hx, _⟩ => (by cases hx)⟩
  | some x => exact ⟨fun h => ⟨x, rfl, of_decide_eq_true h⟩, fun ⟨y, hy, h⟩ => (by cases hy; exact decide_eq_true h)⟩

theorem filterWait_le_iff {s : State} {n : Nat} {r : RawInput} {filtered : Bool} :
    (∀ x, s.filterWait r filtered = some x → n ≤ x) ↔ (r.level ≠ filtered → n ≤ s.filterWidth - s.elapsed r.since) := by
  unfold State.filterWait
  by_cases hsame : r.level = filtered
  · rw [if_pos hsame]
    exact ⟨fun _ h => absurd hsame h, fun _ x hx => (by cases hx)⟩
  · rw [if_neg hsame]
    exact ⟨fun h _ => h _ rfl, fun h x hx => (by cases hx; exact h hsame)⟩

/-- What is left of an event's time, as its fields have it (R24). -/
theorem timing_left_iff {s : State} {e : Timed} {p : Nat → Prop} :
    (∀ x, (s.timing e).map s.left = some x → p x) ↔ (∀ t, s.timing e = some t → p (t.limit - s.elapsed t.start)) := by
  cases h : s.timing e with
  | none => exact ⟨fun _ t ht => (by cases ht), fun _ x hx => (by cases hx)⟩
  | some t =>
    exact ⟨fun h t' ht => (by cases ht; exact h _ rfl), fun h x hx => (by cases hx; exact h t rfl)⟩

/-- Nothing falls within the next `n` µs exactly if they do not pass the next event (R24). -/
theorem quietFor_iff {s : State} {n : Nat} : QuietFor n s ↔ n ≤ s.untilNext := by
  have hlist : (∀ x ∈ ([s.filterWait s.inputs.toothA s.tracker.filtA, s.filterWait s.inputs.toothB s.tracker.filtB,
      s.filterWait s.inputs.index s.tracker.filtIndex].filterMap id ++
      timedOrder.filterMap (fun e => (s.timing e).map s.left)), n ≤ x) ↔
      ((∀ x, s.filterWait s.inputs.toothA s.tracker.filtA = some x → n ≤ x) ∧
        (∀ x, s.filterWait s.inputs.toothB s.tracker.filtB = some x → n ≤ x) ∧
        (∀ x, s.filterWait s.inputs.index s.tracker.filtIndex = some x → n ≤ x)) ∧
      ∀ e, ∀ x, (s.timing e).map s.left = some x → n ≤ x := by
    rw [List.forall_mem_append]
    refine and_congr ?_ ?_
    · simp only [List.mem_filterMap, id, List.mem_cons, List.not_mem_nil, or_false, exists_eq_right]
      constructor
      · exact fun h => ⟨fun x hx => h x (.inl hx.symm), fun x hx => h x (.inr (.inl hx.symm)), fun x hx => h x (.inr (.inr hx.symm))⟩
      · rintro ⟨ha, hb, hi⟩ x (hx | hx | hx)
        · exact ha x hx.symm
        · exact hb x hx.symm
        · exact hi x hx.symm
    · constructor
      · intro h e x hx
        refine h x (List.mem_filterMap.2 ⟨e, ?_, hx⟩)
        cases e <;> decide
      · intro h x hx
        obtain ⟨e, -, he⟩ := List.mem_filterMap.1 hx
        exact h e x he
  unfold State.untilNext
  rw [le_foldl_min_iff, hlist]
  simp only [filterWait_le_iff, timing_left_iff]
  unfold QuietFor
  simp only [option_all_iff]
  constructor
  · rintro ⟨ha, hb, hi, hwindow, hedge, htimer, hsecond, hsupervision, hisland⟩
    refine ⟨by unfold secondLength; omega, ⟨ha, hb, hi⟩, fun e t ht => ?_⟩
    cases e with
    | window =>
      obtain ⟨w, hw, rfl⟩ := Option.map_eq_some_iff.1 ht
      exact hwindow w hw
    | lastEdge =>
      obtain ⟨m, hm, rfl⟩ := Option.map_eq_some_iff.1 ht
      exact hedge m hm
    | edgeTimer =>
      obtain ⟨m, hm, rfl⟩ := Option.map_eq_some_iff.1 ht
      exact htimer m hm
    | second =>
      cases ht
      exact hsecond
    | supervision =>
      obtain ⟨m, hm, rfl⟩ := Option.map_eq_some_iff.1 ht
      exact hsupervision m hm
    | island =>
      obtain ⟨m, hm, rfl⟩ := Option.map_eq_some_iff.1 ht
      exact hisland m hm
  · rintro ⟨-, ⟨ha, hb, hi⟩, htimed⟩
    refine ⟨ha, hb, hi, fun w hw => ?_, fun m hm => ?_, fun m hm => ?_, ?_, fun m hm => ?_, fun m hm => ?_⟩
    · exact htimed .window { start := w.start, limit := w.length } (by rw [State.timing, hw]; rfl)
    · exact htimed .lastEdge { start := m, limit := 2 ^ 31 } (by rw [State.timing, hm]; rfl)
    · exact htimed .edgeTimer { start := m.start, limit := m.limit } (by rw [State.timing, hm]; rfl)
    · exact htimed .second { start := s.clock.phaseStart, limit := secondLength } rfl
    · exact htimed .supervision { start := m, limit := s.supervision.limit } (by rw [State.timing, hm]; rfl)
    · exact htimed .island { start := m.start, limit := m.period } (by rw [State.timing, hm]; rfl)

theorem letPass_of_quiet {first : Bool} {n : Nat} {s : State} (h : QuietFor n s) : letPass first n s = s.passTime n := by
  unfold letPass
  cases n with
  | zero => rfl
  | succ n =>
    rw [passThrough]
    exact if_pos (quietFor_iff.1 h)

theorem letPass_of_falls {first : Bool} {n d : Nat} {s : State} (hlt : d < n) (hd : s.untilNext = d) :
    letPass first n s = letPass first (n - d - 1) ((takeMicrosecond first (s.passTime d)).passTime 1) := by
  unfold letPass
  obtain ⟨m, rfl⟩ : ∃ m, n = m + 1 := ⟨n - 1, by omega⟩
  have hturn : passThrough first (m + 1) (m + 1) s =
      passThrough first m (m + 1 - d - 1) ((takeMicrosecond first (s.passTime d)).passTime 1) := by
    rw [passThrough, hd]
    exact if_neg (by omega)
  rw [hturn, passThrough_of_le first (by omega)]
  rfl

/-! ## The events of one microsecond (log entry 1) -/

/-- An event taken, with its time read off the state. -/
theorem takeTimed_eq {s : State} {e : Timed} {p : Prop} [Decidable p]
    (h : p ↔ ∃ t, s.timing e = some t ∧ t.limit ≤ s.elapsed t.start) :
    takeTimed s e = if p then settle (runTimed e s) else s := by
  unfold takeTimed
  refine if_congr ?_ rfl rfl
  rw [h, Option.map_eq_some_iff]
  refine exists_congr (fun t => and_congr_right (fun _ => ?_))
  unfold State.left
  omega

end Sys2Proof.Machine

namespace Sys2Proof.Safety

open Sys2Proof.Machine

/-- A command that takes what is outstanding acts on the state that leaves (log entry 4). -/
theorem exec_settle {c : Instr} (h : takesOutstanding c = true) (s : State) : exec c s = exec c (settle s) := by
  cases c <;> simp only [takesOutstanding, Bool.false_eq_true] at h <;>
    simp only [exec, execLineLockGained, execLineLockLost, execStartDelimiterAtP0, execStartDelimiterAtP2, execFrameDropped,
      execP1BecomesIdle, execOutFrameEnd, execReturnFrameEnd, execSupervisionExpiry, execIslandFrameDue, execFilteredTransition,
      execForcedAdvance, execAbsorptionWindowClose, execLastEdgeForget, execClockSecond, execIdentify, execRun, execPass,
      execSoftReset, execTableWrite, execTableRead, execCopy, execExchange, execLock, execUnlock, execPointRead, execPointForce,
      execPointRelease, execSlotStats, execFaultRead, execFaultClear, execFaultClearAll, execLogRead, execLogDiscard,
      execSetTime, execSetHeading, execSetTwist, execYawMode, execYawTarget, execYawSeek, execArmSupervision, execFrameByte,
      settle_settle]

/-- Settles O2: what an idle step does, that consequences come to an end, and time in its quiet and its eventful parts. -/
theorem consequencesComeBeforeTimeAndCommands : Obligations.ConsequencesComeBeforeTimeAndCommands := by
  unfold Obligations.ConsequencesComeBeforeTimeAndCommands
  refine ⟨fun s hpending hdue => ?_, fun s hpending hdue => ?_, settle_due, fun c s hc => exec_settle hc s,
    fun first n s hquiet => letPass_of_quiet hquiet, fun first n d s t hlt hquiet hloud ht => ?_,
    fun first s after h0 h1 h2 h3 h4 h5 h6 => ?_⟩
  · unfold step idle
    rw [hpending, hdue]
    rfl
  · unfold step idle
    rw [hpending]
    dsimp only
    rw [if_neg (fun h => hdue (List.isEmpty_iff.1 h))]
  · have hnext : s.untilNext = d := by
      have h1 := quietFor_iff.1 hquiet
      have h2 := mt quietFor_iff.2 hloud
      omega
    rw [letPass_of_falls hlt hnext, ht]
    rfl
  · have hfold : takeMicrosecond first s = takeTimed (takeTimed (takeTimed (takeTimed (takeTimed (takeTimed
        (takeTransitions first s) .window) .lastEdge) .edgeTimer) .second) .supervision) .island := rfl
    rw [hfold, ← h0]
    have e1 : takeTimed (after 0) .window = after 1 := by
      rw [h1]
      refine takeTimed_eq ?_
      rw [option_any_iff, State.timing]
      simp only [Option.map_eq_some_iff, exists_exists_and_eq_and]
    have e2 : takeTimed (after 1) .lastEdge = after 2 := by
      rw [h2]
      refine takeTimed_eq ?_
      rw [option_any_iff, State.timing]
      simp only [Option.map_eq_some_iff, exists_exists_and_eq_and]
      rfl
    have e3 : takeTimed (after 2) .edgeTimer = after 3 := by
      rw [h3]
      refine takeTimed_eq ?_
      rw [option_any_iff, State.timing]
      simp only [Option.map_eq_some_iff, exists_exists_and_eq_and]
    have e4 : takeTimed (after 3) .second = after 4 := by
      rw [h4]
      refine takeTimed_eq ⟨fun h => ⟨_, rfl, h⟩, ?_⟩
      rintro ⟨t, ht, h⟩
      cases ht
      exact h
    have e5 : takeTimed (after 4) .supervision = after 5 := by
      rw [h5]
      refine takeTimed_eq ?_
      rw [option_any_iff, State.timing]
      simp only [Option.map_eq_some_iff, exists_exists_and_eq_and]
    have e6 : takeTimed (after 5) .island = after 6 := by
      rw [h6]
      refine takeTimed_eq ?_
      rw [option_any_iff, State.timing]
      simp only [Option.map_eq_some_iff, exists_exists_and_eq_and]
    rw [e1, e2, e3, e4, e5, e6]

end Sys2Proof.Safety
end

section
/-! PROOF. The clock's second and minute (O52). -/

set_option Elab.async false

namespace Sys2Proof.Machine

open Sys2Proof.Safety

/-! ## What falls in passing time leaves the clock, but for the second -/

/-- From `s` to `t` clock and timebase stand, and no consequence is outstanding that was not. -/
structure Passed (s t : State) : Prop where
  due : s.due = [] → t.due = []
  clock : t.clock = s.clock
  now : t.timebase = s.timebase

theorem TimeKept.passed {s t : State} (h : TimeKept s t) : Passed s t := ⟨fun hs => h.due.trans hs, h.clock, h.now⟩

theorem Passed.trans {s t u : State} (h : Passed s t) (k : Passed t u) : Passed s u :=
  ⟨fun hs => k.due (h.due hs), k.clock.trans h.clock, k.now.trans h.now⟩

theorem clock_outsideEdges (s : State) : (outsideEdges s).clock = s.clock := rfl

namespace TimeKept

theorem of_edges {s t : State} (h : outsideEdges t = outsideEdges s) : TimeKept s t := by
  obtain ⟨hnow, -, -, hdue, -⟩ := keeps_of_outsideEdges h
  exact ⟨hdue, (clock_outsideEdges t).symm.trans ((congrArg State.clock h).trans (clock_outsideEdges s)), hnow⟩

theorem writeHeading (s : State) : TimeKept s (writeHeading s) := of_edges (outsideEdges_writeHeading s)

theorem setTracker (t : Tracker) (s : State) : TimeKept s { s with tracker := t } := ⟨rfl, rfl, rfl⟩

theorem judgeTwist (s : State) : TimeKept s (judgeTwist s) := of_edges (outsideEdges_judgeTwist s)

theorem handStep (d : Int) (s : State) : TimeKept s (handStep d s) := of_edges (outsideEdges_handStep d s)

theorem forcedAdvance (c : Int) (s : State) : TimeKept s (forcedAdvance c s) := by
  have hadvanced : TimeKept s (advanceForced c s) := ⟨rfl, rfl, rfl⟩
  rw [forcedAdvance_eq]
  exact hadvanced.trans ((writeHeading _).trans ((judgeTrackLost ..).trans ((handStep ..).trans (judgeTwist _))))

theorem toothChange (changeA changeB : Bool) (s : State) : TimeKept s (toothChange changeA changeB s) := by
  unfold Machine.toothChange
  dsimp only
  split
  · exact (setTracker _ s).trans (raise ..)
  · split
    · exact (setTracker _ s).trans (of_edges (outsideEdges_toothEdge ..))
    · split
      · exact (setTracker _ s).trans (of_edges (outsideEdges_toothEdge ..))
      · exact refl s

theorem decisionIndex (s : State) : TimeKept s (decisionIndex s) := by
  have hmode : TimeKept s (setYawMode .hold s) := ⟨rfl, rfl, rfl⟩
  unfold Machine.decisionIndex
  split
  · exact hmode.trans (stopMove _)
  · exact refl s

theorem indexReference (s : State) : TimeKept s (indexReference s) := by
  have hend : ∀ (before : Nat) (t : Tracker) (u : State), TimeKept u
      (Machine.decisionIndex (Machine.judgeTrackLost before (Machine.writeHeading { u with tracker := t }))) :=
    fun before t u => (setTracker t u).trans ((writeHeading _).trans ((judgeTrackLost ..).trans (decisionIndex _)))
  unfold Machine.indexReference
  dsimp only
  split
  · exact (raise ..).trans (hend ..)
  · exact hend ..

theorem indexChange (change : Bool) (s : State) : TimeKept s (indexChange change s) := by
  unfold Machine.indexChange
  dsimp only
  split
  · split
    · exact (setTracker _ s).trans (indexReference _)
    · exact setTracker _ s
  · exact refl s

theorem takeTransitions (first : Bool) (s : State) : TimeKept s (takeTransitions first s) := by
  unfold Machine.takeTransitions filteredChanges
  split
  · exact (indexChange ..).trans (toothChange ..)
  · exact (toothChange ..).trans (indexChange ..)

theorem islandDue (s : State) : TimeKept s (islandDue s) := by
  unfold Machine.islandDue
  dsimp only
  split
  · exact ⟨rfl, rfl, rfl⟩
  · split
    · exact ⟨rfl, rfl, rfl⟩
    · exact ⟨rfl, rfl, rfl⟩

theorem expireSupervision (s : State) : TimeKept s (expireSupervision s) := by
  have hstopped : TimeKept s { s with supervision := { s.supervision with timer := none } } := ⟨rfl, rfl, rfl⟩
  have hisland : ∀ u : State, TimeKept u (Machine.islandDue { u with opState := .island }) := by
    intro u
    have hstate : TimeKept u { u with opState := .island } := ⟨rfl, rfl, rfl⟩
    exact hstate.trans (islandDue _)
  unfold Machine.expireSupervision
  dsimp only
  split
  · exact hstopped.trans ((judge ..).trans (hisland _))
  · exact hstopped.trans (judge ..)

/-- Every timed event but the second (R172). -/
theorem runTimed {e : Timed} (h : e ≠ .second) (s : State) : TimeKept s (runTimed e s) := by
  cases e with
  | window => exact setTracker _ s
  | lastEdge => exact setTracker _ s
  | edgeTimer => exact forcedAdvance _ s
  | second => exact absurd rfl h
  | supervision => exact expireSupervision s
  | island => exact islandDue s

end TimeKept

theorem passed_settle (s : State) : Passed s (settle s) := ⟨fun _ => settle_due s, settle_clock s, settle_timebase s⟩

theorem passed_takeTimed {e : Timed} (h : e ≠ .second) (s : State) : Passed s (takeTimed s e) := by
  unfold takeTimed
  split
  · exact (TimeKept.runTimed h s).passed.trans (passed_settle _)
  · exact (TimeKept.refl s).passed

/-- A microsecond before the end of the second leaves the clock (R172). -/
theorem passed_takeMicrosecond {s : State} (first : Bool) (h : s.elapsed s.clock.phaseStart < secondLength) :
    Passed s (takeMicrosecond first s) := by
  have hsecond : ∀ u : State, Passed s u → takeTimed u .second = u := by
    intro u hu
    refine takeTimed_of_left (fun t ht => ?_)
    cases ht
    have hsame : u.elapsed u.clock.phaseStart = s.elapsed s.clock.phaseStart := by
      unfold State.elapsed
      rw [hu.clock, hu.now]
    change 0 < secondLength - u.elapsed u.clock.phaseStart
    omega
  have htransitions := (TimeKept.takeTransitions first s).passed
  have htimer := htransitions.trans ((passed_takeTimed (e := .window) (by decide) _).trans
    ((passed_takeTimed (e := .lastEdge) (by decide) _).trans (passed_takeTimed (e := .edgeTimer) (by decide) _)))
  have hfold : takeMicrosecond first s = takeTimed (takeTimed (takeTimed (takeTimed (takeTimed (takeTimed
      (takeTransitions first s) .window) .lastEdge) .edgeTimer) .second) .supervision) .island := rfl
  rw [hfold, hsecond _ htimer]
  exact htimer.trans ((passed_takeTimed (e := .supervision) (by decide) _).trans (passed_takeTimed (e := .island) (by decide) _))

theorem elapsed_passTime {s : State} {start : Micros} {n : Nat} (h : s.elapsed start + n < 2 ^ 32) :
    (s.passTime n).elapsed start = s.elapsed start + n := by
  unfold State.elapsed State.passTime at *
  have hsub : s.timebase + BitVec.ofNat 32 n - start = (s.timebase - start) + BitVec.ofNat 32 n := by
    rw [BitVec.sub_eq_add_neg, BitVec.sub_eq_add_neg, BitVec.add_assoc, BitVec.add_assoc, BitVec.add_comm (BitVec.ofNat 32 n)]
  rw [hsub, BitVec.toNat_add, BitVec.toNat_ofNat]
  omega

/-- Time up to the end of the second leaves the clock (R172). -/
theorem clock_letPass (first : Bool) {n : Nat} {s : State} (h : n ≤ secondLength - s.elapsed s.clock.phaseStart) :
    (s.due = [] → (letPass first n s).due = []) ∧ (letPass first n s).clock = s.clock := by
  induction n using Nat.strongRecOn generalizing s with
  | _ n ih =>
    by_cases hquiet : QuietFor n s
    · rw [letPass_of_quiet hquiet]
      exact ⟨id, rfl⟩
    · have hnext : s.untilNext < n := by
        have hloud := mt quietFor_iff.2 hquiet
        omega
      have hlimit : secondLength = 1000000 := rfl
      have helapsed : (s.passTime s.untilNext).elapsed s.clock.phaseStart = s.elapsed s.clock.phaseStart + s.untilNext :=
        elapsed_passTime (by omega)
      have hpassed : Passed (s.passTime s.untilNext) (takeMicrosecond first (s.passTime s.untilNext)) :=
        passed_takeMicrosecond first (by
          change (s.passTime s.untilNext).elapsed s.clock.phaseStart < secondLength
          omega)
      have hclock : ((takeMicrosecond first (s.passTime s.untilNext)).passTime 1).clock = s.clock := hpassed.clock
      have hlater : ((takeMicrosecond first (s.passTime s.untilNext)).passTime 1).elapsed s.clock.phaseStart =
          s.elapsed s.clock.phaseStart + s.untilNext + 1 := by
        have hnow : (takeMicrosecond first (s.passTime s.untilNext)).elapsed s.clock.phaseStart =
            s.elapsed s.clock.phaseStart + s.untilNext := by
          unfold State.elapsed at helapsed ⊢
          rw [hpassed.now, helapsed]
        rw [elapsed_passTime (by omega), hnow]
      obtain ⟨hdue, hclock'⟩ := ih (n - s.untilNext - 1) (by omega)
        (s := (takeMicrosecond first (s.passTime s.untilNext)).passTime 1) (by rw [hclock, hlater]; omega)
      rw [letPass_of_falls hnext rfl]
      exact ⟨fun hs => hdue (hpassed.due hs), hclock'.trans hclock⟩

/-! ## The second and the minute at the blocks (R90, R148, R89) -/

/-- The exercise counted down by a second (R90). -/
theorem thermalSecond_eq {s : State} {exercise : Option Nat}
    (hexercise : exercise = if s.running = true then s.thermal.exercise.map (· - 1) else s.thermal.exercise) :
    thermalSecond s = { s with
      due := s.due ++ (if s.running = true ∧ exercise = some 0 then [.exerciseEnd] else [])
      thermal := { s.thermal with exercise := exercise } } := by
  unfold thermalSecond
  cases hheld : s.thermal.exercise with
  | none =>
    have hsame : exercise = s.thermal.exercise := by rw [hexercise, hheld]; exact ite_self _
    rw [if_neg (fun h => by rw [hsame, hheld] at h; cases h.2), List.append_nil, hsame]
  | some n =>
    dsimp only
    by_cases hrunning : s.running = true
    · rw [if_pos hrunning, hheld, Option.map_some] at hexercise
      rw [if_pos hrunning, hexercise]
      by_cases hlast : n - 1 = 0
      · rw [if_pos hlast, if_pos ⟨hrunning, by rw [hlast]⟩]
        rfl
      · rw [if_neg hlast, if_neg (fun h => hlast (Option.some.inj h.2)), List.append_nil]
    · rw [if_neg hrunning] at hexercise
      rw [if_neg hrunning, if_neg (fun h => hrunning h.1), List.append_nil, hexercise]

/-- The duty counted by a second with YAW_EN not 0 (R148). -/
theorem decisionSecond_eq {s : State} {counted : Bool} {duty : Nat}
    (hcounted : counted = true ↔ s.running = true ∧ s.pointValue 37 ≠ 0)
    (hduty : duty = if counted = true then min 65535 (s.decision.duty + 1) else s.decision.duty) :
    decisionSecond s = { s with
      due := s.due ++ (if counted = true ∧ s.dutyMax ≤ duty ∧ s.decision.rest = none then [.restBegin] else [])
      decision := { s.decision with duty := duty, driveSeen := s.decision.driveSeen || counted } } := by
  unfold decisionSecond
  cases counted with
  | false =>
    have hno : ¬ (s.running = true ∧ s.pointValue 37 ≠ 0) := fun h => Bool.noConfusion (hcounted.2 h)
    rw [if_neg (by decide)] at hduty
    rw [if_neg hno, if_neg (fun h => Bool.noConfusion h.1), List.append_nil, hduty, Bool.or_false]
  | true =>
    rw [if_pos rfl] at hduty
    rw [if_pos (hcounted.1 rfl), Bool.or_true]
    have hbump : bump 65535 s.decision.duty = duty := hduty.symm
    dsimp only
    rw [hbump]
    by_cases hrest : s.dutyMax ≤ duty ∧ s.decision.rest = none
    · have hrest' : ({ s with decision := { s.decision with duty := duty, driveSeen := true } } : State).dutyMax ≤ duty ∧
          s.decision.rest = none := hrest
      rw [if_pos hrest', if_pos ⟨rfl, hrest⟩]
      rfl
    · have hrest' : ¬ (({ s with decision := { s.decision with duty := duty, driveSeen := true } } : State).dutyMax ≤ duty ∧
          s.decision.rest = none) := hrest
      rw [if_neg hrest', if_neg (fun h => hrest h.2), List.append_nil]

/-- The idle countdown counted by a minute (R89). -/
theorem thermalMinute_eq {s : State} {countdown : Option Nat}
    (hcountdown : countdown = if s.running = false then s.thermal.idleCountdown
      else if s.exerciseInterval = 0 then none else s.thermal.idleCountdown.map (· - 1)) :
    thermalMinute s = { s with
      due := s.due ++ (if s.running = true ∧ s.thermal.idleCountdown.map (· - 1) = some 0 ∧ s.exerciseInterval ≠ 0 then
        [.exerciseStart] else [])
      thermal := { s.thermal with idleCountdown := countdown } } := by
  unfold thermalMinute
  cases hheld : s.thermal.idleCountdown with
  | none =>
    have hsame : countdown = s.thermal.idleCountdown := by
      rw [hcountdown, hheld, Option.map_none]
      split
      · rfl
      · exact ite_self _
    rw [if_neg (fun h => by cases h.2.1), List.append_nil, hsame]
  | some n =>
    dsimp only
    rw [hheld, Option.map_some] at hcountdown
    cases hrunning : s.running with
    | false =>
      rw [if_pos hrunning] at hcountdown
      rw [if_neg (by decide), if_neg (fun h => Bool.noConfusion h.1), List.append_nil, hcountdown, ← hheld]
    | true =>
      rw [if_neg (by rw [hrunning]; decide)] at hcountdown
      rw [if_pos rfl]
      by_cases hoff : s.exerciseInterval = 0
      · rw [if_pos hoff] at hcountdown
        rw [if_pos hoff, if_neg (fun h => h.2.2 hoff), List.append_nil, hcountdown]
      · rw [if_neg hoff] at hcountdown
        rw [if_neg hoff, hcountdown]
        by_cases hlast : n - 1 = 0
        · rw [if_pos hlast, if_pos ⟨rfl, by rw [Option.map_some, hlast], hoff⟩]
          rfl
        · rw [if_neg hlast, if_neg (fun h => hlast (Option.some.inj h.2.1)), List.append_nil]

/-- The duty decay or the rest counted by a minute (R148, R149). -/
theorem decisionMinute_eq {s : State} {d : Decision}
    (hd : d = if s.running = false then s.decision
      else if s.decision.rest = none then
        { s.decision with
          duty := if s.decision.driveSeen then s.decision.duty else s.decision.duty - s.dutyDecay
          driveSeen := false }
      else { s.decision with rest := s.decision.rest.map (· - 1) }) :
    decisionMinute s = { s with
      due := s.due ++ (if s.running = true ∧ s.decision.rest.map (· - 1) = some 0 then [.restEnd] else [])
      decision := d } := by
  unfold decisionMinute
  cases hrunning : s.running with
  | false =>
    rw [if_pos hrunning] at hd
    rw [if_pos (by decide), if_neg (fun h => Bool.noConfusion h.1), List.append_nil, hd]
  | true =>
    rw [if_neg (by rw [hrunning]; decide)] at hd
    rw [if_neg (by decide)]
    cases hrest : s.decision.rest with
    | none =>
      rw [if_pos hrest] at hd
      rw [if_neg (fun h => by cases h.2), List.append_nil, hd]
    | some m =>
      rw [if_neg (by rw [hrest]; exact fun h => by cases h), hrest, Option.map_some] at hd
      dsimp only
      rw [hd]
      by_cases hlast : m - 1 = 0
      · rw [if_pos hlast, if_pos ⟨rfl, by rw [Option.map_some, hlast]⟩]
        rfl
      · rw [if_neg hlast, if_neg (fun h => hlast (Option.some.inj h.2)), List.append_nil]

/-! ## The second whole (R172) -/

/-- Whether the second is the last of a minute (R172). -/
def LastOfMinute (s : State) : Prop := (s.clock.seconds + 1).toNat % 60 = 0

theorem clockSecond_eq (first second : Bool) (s : State) :
    (LastOfMinute s → first = false → second = false → clockSecond first second s =
      (decisionSecond (thermalSecond (clockTick s))).addDue (.minute true true)) ∧
    (¬ LastOfMinute s → clockSecond first second s = decisionSecond (thermalSecond (clockTick s))) := by
  have hminute : ((clockTick s).clock.seconds.toNat % 60 == 0) = true ↔ LastOfMinute s := beq_iff_eq
  unfold clockSecond
  dsimp only
  constructor
  · rintro hlast rfl rfl
    simp only [hminute.2 hlast, Bool.and_false, Bool.false_eq_true, if_false, if_true, Bool.not_false]
  · intro hlast
    have hno : ((clockTick s).clock.seconds.toNat % 60 == 0) = false := Bool.eq_false_iff.2 (fun h => hlast (hminute.1 h))
    simp only [hno, Bool.false_and, Bool.false_eq_true, if_false]

theorem clock_thermalSecond (s : State) : (thermalSecond s).clock = s.clock := by rw [thermalSecond_eq rfl]

theorem clock_decisionSecond (s : State) : (decisionSecond s).clock = s.clock := by
  rw [decisionSecond_eq (counted := decide (s.running = true ∧ s.pointValue 37 ≠ 0)) decide_eq_true_iff rfl]

/-- The clock after a second, whatever takes the minute first (R172). -/
theorem clock_clockSecond (first second : Bool) (s : State) :
    (clockSecond first second s).clock = { s.clock with
      seconds := s.clock.seconds + 1, phaseStart := s.clock.phaseStart + 1000000 } := by
  have htick : (clockTick s).clock = { s.clock with
      seconds := s.clock.seconds + 1, phaseStart := s.clock.phaseStart + 1000000 } := rfl
  have hthermal : ∀ (b : Bool) (u : State), (if b = true then settle (thermalMinute u) else u).clock = u.clock := by
    intro b u
    split
    · rw [settle_clock, (timeBrings_thermalMinute u).clock]
    · rfl
  have hdecision : ∀ (b : Bool) (u : State), (if b = true then settle (decisionMinute u) else u).clock = u.clock := by
    intro b u
    split
    · rw [settle_clock, (timeBrings_decisionMinute u).clock]
    · rfl
  have hdue : ∀ (b : Bool) (d : Due) (u : State), (if b = true then u.addDue d else u).clock = u.clock := by
    intro b d u
    split
    · rfl
    · rfl
  unfold clockSecond
  dsimp only
  rw [hdue, clock_decisionSecond, clock_thermalSecond, hdecision, hthermal, htick]

end Sys2Proof.Machine

namespace Sys2Proof.Safety

open Sys2Proof.Machine

/-- A second at its moment with nothing outstanding, no block taking the minute first (R172, R90, R148). -/
theorem clockSecond_effect {s : State} (hdue : s.due = []) {running : Bool} {exercise : Option Nat} {duty : Nat} {counted : Bool}
    (hrunning : running = decide (s.opState ≠ .pass))
    (hexercise : exercise = (if running then s.thermal.exercise.map (· - 1) else s.thermal.exercise))
    (hcounted : counted = (running && decide ((s.point 37).value ≠ 0)))
    (hduty : duty = (if counted then min 65535 (s.decision.duty + 1) else s.decision.duty)) :
    ∃ t, clockSecond false false s = t ∧
      t.due = (if running = true ∧ exercise = some 0 then [.exerciseEnd] else []) ++
        (if counted = true ∧ s.dutyMax ≤ duty ∧ s.decision.rest = none then [.restBegin] else []) ++
        (if (s.clock.seconds + 1).toNat % 60 = 0 then [.minute true true] else []) ∧
      t = { s with
        due := t.due
        clock := { s.clock with seconds := s.clock.seconds + 1, phaseStart := s.clock.phaseStart + 1000000 }
        thermal := { s.thermal with exercise := exercise }
        decision := { s.decision with duty := duty, driveSeen := s.decision.driveSeen || counted } } := by
  have hruns : s.running = running := (running_eq s).trans hrunning.symm
  have hthermal := thermalSecond_eq (s := clockTick s) (exercise := exercise) (by
    change exercise = if s.running = true then s.thermal.exercise.map (· - 1) else s.thermal.exercise
    rw [hruns, hexercise])
  have hcountedIff : counted = true ↔ (thermalSecond (clockTick s)).running = true ∧
      (thermalSecond (clockTick s)).pointValue 37 ≠ 0 := by
    rw [hthermal]
    change counted = true ↔ s.running = true ∧ (s.point 37).value ≠ 0
    rw [hruns, hcounted, Bool.and_eq_true, decide_eq_true_eq]
  have hdecision := decisionSecond_eq (s := thermalSecond (clockTick s)) (duty := duty) hcountedIff
    (by rw [hthermal]; exact hduty)
  have hrunsTick : (clockTick s).running = running := hruns
  have hboth : decisionSecond (thermalSecond (clockTick s)) = { s with
      due := (if running = true ∧ exercise = some 0 then [.exerciseEnd] else []) ++
        (if counted = true ∧ s.dutyMax ≤ duty ∧ s.decision.rest = none then [.restBegin] else [])
      clock := { s.clock with seconds := s.clock.seconds + 1, phaseStart := s.clock.phaseStart + 1000000 }
      thermal := { s.thermal with exercise := exercise }
      decision := { s.decision with duty := duty, driveSeen := s.decision.driveSeen || counted } } := by
    have hdueTick : (clockTick s).due = [] := hdue
    rw [hdecision, hthermal, hrunsTick, hdueTick, List.nil_append]
    rfl
  refine ⟨_, rfl, ?_⟩
  obtain ⟨hlast, hnot⟩ := clockSecond_eq false false s
  by_cases hminute : LastOfMinute s
  · rw [hlast hminute rfl rfl, hboth, if_pos (show (s.clock.seconds + 1).toNat % 60 = 0 from hminute)]
    exact ⟨rfl, rfl⟩
  · rw [hnot hminute, hboth, if_neg (show ¬ (s.clock.seconds + 1).toNat % 60 = 0 from hminute), List.append_nil]
    exact ⟨rfl, rfl⟩

/-- A minute taken from the list (R119, R89, R148). -/
theorem clockMinute_effect {s : State} (hdue : s.due = [.minute true true]) {running : Bool}
    (hrunning : running = decide (s.opState ≠ .pass)) :
    ∃ t, exec .clockMinute s = .next t ∧
      t.due = (if running = true ∧ s.thermal.idleCountdown.map (· - 1) = some 0 ∧ s.exerciseInterval ≠ 0
          then [.exerciseStart] else []) ++
        (if running = true ∧ s.decision.rest.map (· - 1) = some 0 then [.restEnd] else []) ∧
      t = { s with
        due := t.due
        tracker := { s.tracker with slips := 0, slipRaised := false }
        thermal := { s.thermal with idleCountdown :=
          if running = false then s.thermal.idleCountdown
          else if s.exerciseInterval = 0 then none
          else s.thermal.idleCountdown.map (· - 1) }
        decision := if running = false then s.decision
          else if s.decision.rest = none then
            { s.decision with
              duty := if s.decision.driveSeen then s.decision.duty else s.decision.duty - s.dutyDecay
              driveSeen := false }
          else { s.decision with rest := s.decision.rest.map (· - 1) } } := by
  have hruns : s.running = running := (running_eq s).trans hrunning.symm
  have hexec : exec .clockMinute s = .next (minuteEvent true true { s with due := [] }) :=
    congrArg Host.Outcome.next (takeDue_of_single hdue rfl)
  have hminute : minuteEvent true true { s with due := [] } =
      decisionMinute (thermalMinute (trackerMinute { s with due := [] })) := rfl
  have hthermal := thermalMinute_eq (s := trackerMinute { s with due := [] }) rfl
  have hdecision := decisionMinute_eq (s := thermalMinute (trackerMinute { s with due := [] })) rfl
  refine ⟨_, hexec, ?_⟩
  subst hruns
  rw [hminute, hdecision, hthermal]
  exact ⟨rfl, rfl⟩

/-- Settles O52: the second by the time that passes up to it, and the minute taken from the list. -/
theorem clockSecondAndMinuteCount : Obligations.ClockSecondAndMinuteCount := by
  unfold Obligations.ClockSecondAndMinuteCount
  intro r s hs
  have hpasses := clock_letPass false (s := r) (n := 1000000 - r.elapsed r.clock.phaseStart) (Nat.le_refl _)
  rw [← hs] at hpasses
  obtain ⟨hdueS, hclockS⟩ := hpasses
  have hexec : r.due = [] → ∀ first second : Bool, exec (.clockSecond first second) r = .next (clockSecond first second s) := by
    intro hdue first second
    have hgiven : exec (.clockSecond first second) r = .next (bringAbout .second (clockSecond first second) r) := exec_of_due_nil hdue
    have htiming : r.timing .second = some { start := r.clock.phaseStart, limit := secondLength } := rfl
    have hletPass : letPass false (r.left { start := r.clock.phaseStart, limit := secondLength }) r = s := hs.symm
    have hstill : s.timing .second = some { start := r.clock.phaseStart, limit := secondLength } := by
      rw [State.timing, hclockS]
    rw [hgiven, bringAbout_of_timing _ htiming, hletPass, if_pos hstill]
  refine ⟨fun hdue running exercise duty counted hrunning hexercise hcounted hduty => ?_, fun hdue hlast first second => ?_,
    fun hdue first second => ?_, fun s hdue running hrunning => clockMinute_effect hdue hrunning⟩
  · obtain ⟨t, ht, hrest⟩ := clockSecond_effect (hdueS hdue) hrunning hexercise hcounted hduty
    exact ⟨t, by rw [hexec hdue, ht], hrest⟩
  · have hnot : ¬ LastOfMinute s := by unfold LastOfMinute; rw [hclockS]; exact hlast
    rw [hexec hdue, hexec hdue, (clockSecond_eq first second s).2 hnot, (clockSecond_eq false false s).2 hnot]
  · exact ⟨_, hexec hdue first second, by rw [clock_clockSecond, hclockS]⟩

end Sys2Proof.Safety
end

section
/-! SUPPORT. The word at which a table fails its validation (R40, R72 to R74, R94, R124, R150, R157, R185). -/

set_option Elab.async false

namespace Sys2Proof.Machine

open Sys2Proof.Safety

/-! ## The lowest word of a list of checks -/

/-- `r` is the lowest of the words that fail, if any does. -/
def IsLowest (fails : Nat → Prop) (r : Option Nat) : Prop :=
  (r = none ↔ ∀ w, ¬ fails w) ∧ ∀ w, r = some w ↔ fails w ∧ ∀ v, v < w → ¬ fails v

theorem firstFailure_cons (c : Bool × Nat) (cs : List (Bool × Nat)) :
    firstFailure (c :: cs) = if c.1 then some c.2 else firstFailure cs := by
  obtain ⟨b, w⟩ := c
  cases b <;> rfl

theorem firstFailure_eq_none_iff (cs : List (Bool × Nat)) :
    firstFailure cs = none ↔ ∀ w, (true, w) ∉ cs := by
  rw [firstFailure, Option.map_eq_none_iff, List.find?_eq_none]
  constructor
  · exact fun h w hw => h _ hw rfl
  · rintro h ⟨b, w⟩ hbw rfl
    exact h w hbw

/-- Of checks in ascending order the first that fails is the one of the lowest word. -/
theorem firstFailure_eq_some_iff {cs : List (Bool × Nat)} (hsorted : (cs.map Prod.snd).Pairwise (· < ·)) (w : Nat) :
    firstFailure cs = some w ↔ (true, w) ∈ cs ∧ ∀ v, v < w → (true, v) ∉ cs := by
  induction cs with
  | nil => simp [firstFailure]
  | cons c cs ih =>
    obtain ⟨b, x⟩ := c
    rw [List.map_cons, List.pairwise_cons] at hsorted
    obtain ⟨habove, hrest⟩ := hsorted
    have hx : ∀ v, (true, v) ∈ cs → x < v := fun v hv => habove v (List.mem_map_of_mem (f := Prod.snd) hv)
    rw [firstFailure_cons]
    cases b with
    | false => simpa using ih hrest
    | true =>
      simp only [if_true, Option.some.injEq, List.mem_cons, Prod.mk.injEq, true_and, not_or]
      constructor
      · rintro rfl
        exact ⟨.inl rfl, fun v hv => ⟨by omega, fun h => by have := hx v h; omega⟩⟩
      · rintro ⟨rfl | hw, hleast⟩
        · rfl
        · exact absurd rfl (hleast x (hx w hw)).1

theorem isLowest_firstFailure {cs : List (Bool × Nat)} {fails : Nat → Prop}
    (hsorted : (cs.map Prod.snd).Pairwise (· < ·)) (hfails : ∀ w, (true, w) ∈ cs ↔ fails w) :
    IsLowest fails (firstFailure cs) := by
  refine ⟨?_, fun w => ?_⟩
  · rw [firstFailure_eq_none_iff]
    exact forall_congr' fun w => not_congr (hfails w)
  · rw [firstFailure_eq_some_iff hsorted, hfails w]
    exact and_congr_right' (forall₂_congr fun v _ => not_congr (hfails v))

/-- Failures above another failure do not matter for the lowest. -/
theorem IsLowest.of_below {fails more : Nat → Prop} {r : Option Nat} (h : IsLowest fails r)
    (hsub : ∀ w, fails w → more w) (hbelow : ∀ w, more w → fails w ∨ ∃ v, v < w ∧ fails v) : IsLowest more r := by
  obtain ⟨hnone, hsome⟩ := h
  refine ⟨hnone.trans ⟨fun hno w hw => ?_, fun hno w hw => hno w (hsub w hw)⟩, fun w => (hsome w).trans ⟨?_, ?_⟩⟩
  · rcases hbelow w hw with h | ⟨v, -, h⟩
    · exact hno w h
    · exact hno v h
  · rintro ⟨hw, hleast⟩
    refine ⟨hsub w hw, fun v hv hfails => ?_⟩
    rcases hbelow v hfails with h | ⟨u, hu, h⟩
    · exact hleast v hv h
    · exact hleast u (hu.trans hv) h
  · rintro ⟨hw, hleast⟩
    have hfails : fails w := (hbelow w hw).resolve_right fun ⟨v, hv, h⟩ => hleast v hv (hsub v h)
    exact ⟨hfails, fun v hv h => hleast v hv (hsub v h)⟩

theorem true_eq_outside {lo hi x : Nat} : true = outside lo hi x ↔ ¬ (lo ≤ x ∧ x ≤ hi) := by
  simp only [outside, eq_comm (a := true), Bool.or_eq_true, decide_eq_true_eq]
  omega

theorem mem_checks_map {n : Nat} {f : Nat → Bool} {g : Nat → Nat} {w : Nat} :
    (true, w) ∈ (List.range n).map (fun k => (f k, g k)) ↔ ∃ k, k < n ∧ w = g k ∧ f k = true := by
  simp only [List.mem_map, List.mem_range, Prod.mk.injEq]
  exact exists_congr fun k => and_congr_right' ⟨fun h => ⟨h.2.symm, h.1⟩, fun h => ⟨h.2, h.1.symm⟩⟩

theorem mem_checks_cons {b : Bool} {v w : Nat} {cs : List (Bool × Nat)} :
    (true, w) ∈ (b, v) :: cs ↔ (w = v ∧ b = true) ∨ (true, w) ∈ cs := by
  simp only [List.mem_cons, Prod.mk.injEq]
  exact or_congr_left ⟨fun h => ⟨h.2, h.1.symm⟩, fun h => ⟨h.2.symm, h.1⟩⟩

theorem outside_eq_true {lo hi x : Nat} : outside lo hi x = true ↔ ¬ (lo ≤ x ∧ x ≤ hi) := by
  rw [← true_eq_outside, eq_comm]

theorem words_of_map (n : Nat) (f : Nat → Bool) (g : Nat → Nat) :
    ((List.range n).map (fun k => (f k, g k))).map Prod.snd = (List.range n).map g := by
  rw [List.map_map]
  rfl

/-! ## The figures' tables: PLT, DRT-T, DRT-G, THM, YCF (R72 to R74, R94, R124) -/

theorem isLowest_validatePlt (ws : List Word) : IsLowest (WordFails 1 ws) (validatePlt ws) := by
  refine isLowest_firstFailure ?_ fun w => ?_
  · simp only [List.map_append, words_of_map, List.map_cons, List.map_nil]
    decide
  · simp only [List.mem_append, mem_checks_cons, mem_checks_map, List.not_mem_nil, or_false, outside_eq_true,
      decide_eq_true_eq, bne_iff_ne, beq_iff_eq, WordFails]
    constructor
    · rintro (((⟨rfl, h⟩ | ⟨rfl, h⟩ | ⟨rfl, h⟩ | ⟨rfl, h⟩) | ⟨k, hk, rfl, h⟩) | ⟨rfl, h⟩ | ⟨rfl, h⟩ | ⟨rfl, h⟩ | ⟨rfl, h⟩)
      case inl.inr =>
        have hprev : 4 + k - 1 = 3 + k := by omega
        rw [hprev]
        omega
      all_goals omega
    · rintro (⟨rfl, h⟩ | ⟨rfl, h⟩ | ⟨rfl, h⟩ | ⟨rfl, h⟩ | ⟨hlo, hhi, h⟩ | ⟨rfl, h⟩ | ⟨hlo, hhi, h⟩)
      case inr.inr.inr.inr.inl =>
        refine .inl (.inr ⟨w - 4, by omega, by omega, ?_⟩)
        rwa [show 3 + (w - 4) = w - 1 by omega, show 4 + (w - 4) = w by omega]
      case inr.inr.inr.inr.inr.inr =>
        obtain rfl | rfl | rfl : w = 13 ∨ w = 14 ∨ w = 15 := by omega
        all_goals omega
      all_goals omega

theorem isLowest_validateDrtT (ws : List Word) : IsLowest (WordFails 2 ws) (validateDrtT ws) := by
  refine isLowest_firstFailure ?_ fun w => ?_
  · rw [words_of_map]
    decide
  · simp only [mem_checks_map, Bool.or_eq_true, Bool.and_eq_true, decide_eq_true_eq, WordFails, Nat.mul_sub, mul_one]

theorem isLowest_validateDrtG (ws : List Word) : IsLowest (WordFails 3 ws) (validateDrtG ws) := by
  have hprev : ∀ k, 1 ≤ k → 7 + 3 * (k - 1) = 4 + 3 * k := fun k hk => by omega
  refine isLowest_firstFailure ?_ fun w => ?_
  · simp only [List.map_cons, words_of_map]
    decide
  · simp only [mem_checks_cons, mem_checks_map, Bool.or_eq_true, Bool.and_eq_true, Bool.not_eq_true',
      decide_eq_true_eq, decide_eq_false_iff_not, WordFails]
    refine or_congr_right (exists_congr fun k => and_congr_right' (and_congr_right' (or_congr_left
      (and_congr_right fun hk => ?_))))
    rw [hprev k hk]

theorem isLowest_validateThm (ws : List Word) : IsLowest (WordFails 4 ws) (validateThm ws) := by
  have hprev : ∀ k, 1 ≤ k → 9 + 2 * (k - 1) = 7 + 2 * k := fun k hk => by omega
  refine isLowest_firstFailure ?_ fun w => ?_
  · simp only [List.map_append, words_of_map, List.map_cons, List.map_nil]
    decide
  · simp only [List.mem_append, mem_checks_cons, mem_checks_map, List.not_mem_nil, or_false, outside_eq_true,
      decide_eq_true_eq, Bool.or_eq_true, Bool.and_eq_true, beq_iff_eq, WordFails]
    constructor
    · rintro (((⟨rfl, h⟩ | ⟨rfl, h⟩ | ⟨rfl, h⟩) | ⟨k, hk, rfl, h⟩) | ⟨rfl, h⟩ | ⟨rfl, h⟩ | ⟨rfl, h⟩ | ⟨rfl, h⟩ | ⟨rfl, h⟩ |
        ⟨rfl, h⟩ | ⟨rfl, h⟩ | ⟨rfl, h⟩)
      case inl.inr =>
        refine .inr (.inr (.inl ⟨k, hk, rfl, h.imp_left fun ⟨hk, h⟩ => ⟨hk, ?_⟩⟩))
        rwa [← hprev k hk]
      case inr.inr.inr.inr.inr.inr.inl => exact .inr (.inr (.inr (.inr (.inr ⟨1, by omega, by omega, rfl, .inl h⟩))))
      case inr.inr.inr.inr.inr.inr.inr.inl =>
        exact .inr (.inr (.inr (.inr (.inr ⟨2, by omega, by omega, rfl, h.imp_right fun h => ⟨by omega, h⟩⟩))))
      case inr.inr.inr.inr.inr.inr.inr.inr =>
        exact .inr (.inr (.inr (.inr (.inr ⟨3, by omega, by omega, rfl, h.imp_right fun h => ⟨by omega, h⟩⟩))))
      all_goals simp only [Nat.reduceEqDiff, Nat.reduceSub, or_true, true_and, false_and, or_false, false_or, or_self]
      all_goals omega
    · rintro (⟨rfl | rfl | rfl, h⟩ | ⟨rfl, h⟩ | ⟨k, hk, rfl, h⟩ | ⟨rfl | rfl, h⟩ | ⟨rfl | rfl, h⟩ | ⟨k, hk, hk3, rfl, h⟩)
      case inr.inr.inl =>
        refine .inl (.inr ⟨k, hk, rfl, h.imp_left fun ⟨hk, h⟩ => ⟨hk, ?_⟩⟩)
        rwa [hprev k hk]
      case inr.inr.inr.inr.inr =>
        obtain rfl | rfl | rfl : k = 1 ∨ k = 2 ∨ k = 3 := by omega
        all_goals simp only [Nat.reduceAdd, true_and] at h ⊢
        all_goals omega
      all_goals simp only [Nat.reduceEqDiff, Nat.reduceSub, true_and, false_and, or_false, false_or] at h ⊢
      all_goals omega

theorem isLowest_validateYcf (ws : List Word) : IsLowest (WordFails 5 ws) (validateYcf ws) := by
  refine isLowest_firstFailure ?_ fun w => ?_
  · simp only [List.map_cons, List.map_nil]
    decide
  · simp only [mem_checks_cons, List.not_mem_nil, or_false, outside_eq_true, decide_eq_true_eq, beq_iff_eq, WordFails,
      figure2]
    constructor
    · rintro (⟨rfl, h⟩ | ⟨rfl, h⟩ | ⟨rfl, h⟩ | ⟨rfl, h⟩ | ⟨rfl, h⟩ | ⟨rfl, h⟩ | ⟨rfl, h⟩ | ⟨rfl, h⟩ | ⟨rfl, h⟩ | ⟨rfl, h⟩ |
        ⟨rfl, h⟩ | ⟨rfl, h⟩ | ⟨rfl, h⟩ | ⟨rfl, h⟩ | ⟨rfl, h⟩ | ⟨rfl, h⟩ | ⟨rfl, h⟩ | ⟨rfl, h⟩ | ⟨rfl, h⟩ | ⟨rfl, h⟩ |
        ⟨rfl, h⟩ | ⟨rfl, h⟩)
      all_goals simp only [Nat.reduceEqDiff, or_true, true_and, false_and, or_false, false_or, or_self]
      all_goals omega
    · rintro (⟨rfl, h⟩ | ⟨rfl, h⟩ | ⟨rfl, h⟩ | ⟨rfl, h⟩ | ⟨rfl, h⟩ | ⟨rfl, h⟩ | ⟨rfl, h⟩ | ⟨rfl, h⟩ | ⟨rfl, h⟩ | ⟨rfl, h⟩ |
        ⟨rfl, h⟩ | ⟨rfl, h⟩ | ⟨rfl | rfl | rfl | rfl, h⟩ | ⟨rfl, h⟩ | ⟨rfl, h⟩ | ⟨rfl, h⟩ | ⟨rfl | rfl | rfl, h⟩)
      all_goals simp only [Nat.reduceEqDiff, true_and, false_and, or_false, false_or]
      all_goals omega

/-! ## The fault table and the island template (R157, R185) -/

theorem isLowest_validateFat (ws : List Word) : IsLowest (WordFails 7 ws) (validateFat ws) := by
  refine isLowest_firstFailure ?_ fun w => ?_
  · simp only [List.map_append, words_of_map]
    decide
  · simp only [List.mem_append, mem_checks_map, Bool.and_eq_true, Bool.not_eq_true', decide_eq_true_eq, WordFails,
      List.mem_cons, List.not_mem_nil, or_false, not_or]
    refine or_congr ⟨?_, fun ⟨hw, h⟩ => ⟨w, hw, rfl, h⟩⟩
      (exists_congr fun j => and_congr_right' (and_congr_right' (by omega)))
    rintro ⟨k, hk, rfl, h⟩
    exact ⟨hk, h⟩

theorem islandSlotFails_iff (ws : List Word) (k : Nat) : islandSlotFails ws k = true ↔
    ((islandSlot ws k).1 = 0xFD ∨ (islandSlot ws k).1 = 0xFE ∨ 60 < (islandSlot ws k).2 ∨
      1024 < 5 + ((List.range (k + 1)).map (fun j => 2 + (islandSlot ws j).2)).sum + 2) := by
  rw [islandSlotFails]
  simp only [Bool.or_eq_true, beq_iff_eq, decide_eq_true_iff, or_assoc]
  rfl

/-- What an image of table 8 fails of the slots that are looked at: those up to the 24th. -/
def TemplateWordFails (ws : List Word) (w : Nat) : Prop :=
  ((w = 0 ∧ ¬ (1000 ≤ figure2 ws 0 ∧ figure2 ws 0 ≤ 500000)) ∨
    (w = 2 ∧ ¬ (1000 ≤ figure2 ws 2 ∧ figure2 ws 2 ≤ 100000)) ∨ (w = 4 ∧ ¬ (1 ≤ figure ws 4 ∧ figure ws 4 ≤ 24))) ∨
  ∃ k, k < min 24 (figure ws 4) ∧ w = 5 + k ∧ islandSlotFails ws k = true

theorem isLowest_templateWordFails (ws : List Word) : IsLowest (TemplateWordFails ws) (validateItp ws) := by
  refine isLowest_firstFailure ?_ fun w => ?_
  · rw [List.map_append, words_of_map, List.pairwise_append]
    refine ⟨by simp, ?_, ?_⟩
    · exact List.pairwise_map.2 (List.pairwise_lt_range.imp fun h => by omega)
    · simp only [List.map_cons, List.map_nil, List.mem_cons, List.not_mem_nil, or_false, List.mem_map, List.mem_range]
      rintro v hv w ⟨k, -, rfl⟩
      omega
  · simp only [List.mem_append, mem_checks_cons, mem_checks_map, List.not_mem_nil, or_false, outside_eq_true,
      TemplateWordFails]

/-- Where the count of an island template is above 24 word 4 fails, and so no slot past the 24th is the first to. -/
theorem isLowest_validateItp (ws : List Word) : IsLowest (WordFails 8 ws) (validateItp ws) := by
  refine (isLowest_templateWordFails ws).of_below (fun w hw => ?_) (fun w hw => ?_)
  · rcases hw with (h | h | h) | ⟨k, hk, rfl, h⟩
    · exact .inl h
    · exact .inr (.inl h)
    · exact .inr (.inr (.inl h))
    · exact .inr (.inr (.inr ⟨k, (Nat.lt_min.1 hk).2, rfl, (islandSlotFails_iff ws k).1 h⟩))
  · rcases hw with h | h | h | ⟨k, hk, rfl, h⟩
    · exact .inl (.inl (.inl h))
    · exact .inl (.inl (.inr (.inl h)))
    · exact .inl (.inl (.inr (.inr h)))
    · rcases Nat.lt_or_ge k 24 with hlow | hhigh
      · exact .inl (.inr ⟨k, Nat.lt_min.2 ⟨hlow, hk⟩, rfl, (islandSlotFails_iff ws k).2 h⟩)
      · exact .inr ⟨4, by omega, .inl (.inr (.inr ⟨rfl, by omega⟩))⟩

/-! ## The slot map (R40) -/

theorem fieldAction_fails_iff (a : FieldAction) : a.fails = true ↔
    (a.kind ∉ [0, 1, 2, 3] ∨ a.width ∉ [1, 2, 4] ∨ 60 < a.displacement + a.width ∨ a.noPointA = true ∨
      (a.kind = 0 ∧ 32 ≤ a.pointA ∧ a.pointA ≤ 63) ∨ (a.kind = 2 ∧ a.noPointB = true) ∨
      (a.kind = 3 ∧ ¬ (a.noPointB = false ∧ 36 ≤ a.pointB ∧ a.pointB ≤ 47))) := by
  have hkind : 3 < a.kind ↔ a.kind ∉ [0, 1, 2, 3] := by simp; omega
  rw [FieldAction.fails]
  simp only [Bool.or_eq_true, Bool.and_eq_true, Bool.not_eq_true', decide_eq_true_iff, beq_iff_eq, outside_eq_true,
    Bool.or_eq_false_iff, beq_eq_false_iff_ne, or_assoc, hkind, List.mem_cons, List.not_mem_nil, or_false, not_or, not_and_or, Bool.not_eq_false, and_assoc]

theorem smtEntryFails_iff (ws : List Word) (e : Nat) : smtEntryFails ws e = true ↔ EntryFails ws e := by
  rw [smtEntryFails]
  simp only [SlotEntry.used, Bool.and_eq_true, Bool.or_eq_true, bne_iff_ne, beq_iff_eq, List.any_eq_true,
    decide_eq_true_iff, fieldAction_fails_iff, List.mem_range, EntryFails, or_assoc, and_assoc]
  refine and_congr_right fun hzero => and_congr_right fun hones => or_congr_right (or_congr_right (or_congr_right
    (or_congr_right (exists_congr fun d => and_congr_right fun _ => ?_))))
  constructor
  · rintro ⟨-, -, htag, hlane⟩
    exact ⟨htag, hlane⟩
  · rintro ⟨htag, hlane⟩
    exact ⟨htag ▸ hzero, htag ▸ hones, htag, hlane⟩

theorem isLowest_validateSmt (ws : List Word) : IsLowest (WordFails 0 ws) (validateSmt ws) := by
  refine isLowest_firstFailure ?_ fun w => ?_
  · rw [words_of_map]
    decide
  · simp only [mem_checks_map, smtEntryFails_iff, WordFails]

/-! ## The yaw step table (R150) -/

/-- The steps a chain from step `k` runs through. -/
def stepChain (ws : List Word) (k : Nat) (m : Nat) : Nat := (fun j => (yawStep ws j).next)^[m] k

/-- A step of the table that chains: it is entered and left in one event (R131). -/
def ChainsOn (ws : List Word) (k : Nat) : Prop :=
  1 ≤ k ∧ k ≤ 7 ∧ ((yawStep ws k).trigger = 5 ∨ (yawStep ws k).trigger = 2)

theorem stepChain_succ (ws : List Word) (k m : Nat) :
    stepChain ws k (m + 1) = (yawStep ws (stepChain ws k m)).next := Function.iterate_succ_apply' _ m k

theorem chainLoops_iff (ws : List Word) (fuel k : Nat) :
    chainLoops ws fuel k = true ↔ ∀ m, m < fuel → ChainsOn ws (stepChain ws k m) := by
  induction fuel generalizing k with
  | zero => simp [chainLoops]
  | succ fuel ih =>
    have hfirst : (∀ m, m < fuel + 1 → ChainsOn ws (stepChain ws k m)) ↔
        ChainsOn ws k ∧ ∀ m, m < fuel → ChainsOn ws (stepChain ws (yawStep ws k).next m) :=
      Nat.forall_lt_succ_left
    rw [hfirst, ← ih, chainLoops]
    simp only [trigImmediate, trigOnTarget]
    by_cases hk : k = 0 ∨ 7 < k
    · rw [if_pos hk]
      have hno : ¬ ChainsOn ws k := by
        rintro ⟨hlo, hhi, -⟩
        omega
      simp [hno]
    · rw [if_neg hk]
      by_cases htrigger : (yawStep ws k).trigger = 5 ∨ (yawStep ws k).trigger = 2
      · have hon : ChainsOn ws k := ⟨by omega, by omega, htrigger⟩
        simp [htrigger, hon]
      · have hno : ¬ ChainsOn ws k := fun h => htrigger h.2.2
        simp [htrigger, hno]

/-- Of eight steps of a chain within 1 to 7 two are the same. -/
theorem exists_repeat_of_chainsOn {ws : List Word} {k : Nat} (hon : ∀ m, m < 8 → ChainsOn ws (stepChain ws k m)) :
    ∃ i j, i < j ∧ j < 8 ∧ stepChain ws k i = stepChain ws k j := by
  obtain ⟨i, hi, j, hj, hne, hsame⟩ : ∃ i ∈ Finset.range 8, ∃ j ∈ Finset.range 8, i ≠ j ∧
      stepChain ws k i = stepChain ws k j :=
    Finset.exists_ne_map_eq_of_card_lt_of_maps_to (t := Finset.Icc 1 7) (by simp)
      (fun m hm => by
        obtain ⟨hlo, hhi, -⟩ := hon m (Finset.mem_range.1 hm)
        exact Finset.mem_Icc.2 ⟨hlo, hhi⟩)
  rw [Finset.mem_range] at hi hj
  rcases Nat.lt_or_gt_of_ne hne with h | h
  · exact ⟨i, j, h, hj, hsame⟩
  · exact ⟨j, i, h, hi, hsame.symm⟩

/-- A chain that returns to a step it has passed goes on for ever. -/
theorem chainsOn_of_repeat {ws : List Word} {k i j : Nat} (hij : i < j)
    (hsame : stepChain ws k i = stepChain ws k j) (hon : ∀ m, m < j → ChainsOn ws (stepChain ws k m)) (m : Nat) :
    ChainsOn ws (stepChain ws k m) := by
  have hperiod : ∀ n, stepChain ws k (i + n) = stepChain ws k (j + n) := by
    intro n
    induction n with
    | zero => exact hsame
    | succ n ih => rw [← Nat.add_assoc, ← Nat.add_assoc, stepChain_succ, stepChain_succ, ih]
  induction m using Nat.strong_induction_on with
  | _ m ih =>
    rcases Nat.lt_or_ge m j with hm | hm
    · exact hon m hm
    · have hback := hperiod (m - j)
      rw [Nat.add_sub_cancel' hm] at hback
      rw [← hback]
      exact ih _ (by omega)

/-- A chain as R150 has it is the one of the table's next steps. -/
theorem eq_stepChain {ws : List Word} {k : Nat} {chain : Nat → Nat} (hzero : chain 0 = k)
    (hsucc : ∀ i, chain (i + 1) = (yawStep ws (chain i)).next) : chain = stepChain ws k := by
  funext m
  induction m with
  | zero => exact hzero
  | succ m ih => rw [hsucc, stepChain_succ, ih]

/-- The chain from a step returns exactly if it goes on for more steps than there are (R150, check 7). -/
theorem chainLoops_iff_returns (ws : List Word) (k : Nat) : chainLoops ws 8 k = true ↔
    ∃ chain : Nat → Nat, chain 0 = k ∧ (∀ i, chain (i + 1) = (yawStep ws (chain i)).next) ∧
      ∃ i j, i < j ∧ chain i = chain j ∧ ∀ m, m < j → ChainsOn ws (chain m) := by
  rw [chainLoops_iff]
  constructor
  · intro hon
    obtain ⟨i, j, hij, hj, hsame⟩ := exists_repeat_of_chainsOn hon
    exact ⟨stepChain ws k, rfl, stepChain_succ ws k, i, j, hij, hsame, fun m hm => hon m (by omega)⟩
  · rintro ⟨chain, hzero, hsucc, i, j, hij, hsame, hon⟩ m -
    obtain rfl := eq_stepChain hzero hsucc
    exact chainsOn_of_repeat hij hsame hon m

theorem brake_lt (ws : List Word) (k : Nat) : (yawStep ws k).brake < 4 := by
  unfold yawStep
  split
  · exact Nat.zero_lt_succ 3
  · exact Nat.mod_lt _ (by decide)

theorem direction_lt (ws : List Word) (k : Nat) : (yawStep ws k).direction < 4 := by
  unfold yawStep
  split
  · exact Nat.zero_lt_succ 3
  · exact Nat.mod_lt _ (by decide)

theorem yawStepFails_iff (ws : List Word) (k : Nat) : yawStepFails ws k = true ↔ StepFails ws k := by
  have hbrake : (yawStep ws k).brake = 3 ↔ (yawStep ws k).brake ∉ [0, 1, 2] := by
    have hlt := brake_lt ws k
    simp only [List.mem_cons, List.not_mem_nil, or_false]
    omega
  have hdirection : (yawStep ws k).direction = 3 ↔ (yawStep ws k).direction ∉ [0, 1, 2] := by
    have hlt := direction_lt ws k
    simp only [List.mem_cons, List.not_mem_nil, or_false]
    omega
  have htrigger : 5 < (yawStep ws k).trigger ↔ (yawStep ws k).trigger ∉ [0, 1, 2, 3, 4, 5] := by
    simp only [List.mem_cons, List.not_mem_nil, or_false]
    omega
  rw [yawStepFails]
  simp only [Bool.or_eq_true, Bool.and_eq_true, beq_iff_eq, bne_iff_ne, decide_eq_true_iff, or_assoc,
    chainLoops_iff_returns, hbrake, hdirection, htrigger]
  rfl

theorem isLowest_validateYst (ws : List Word) : IsLowest (WordFails 6 ws) (validateYst ws) := by
  refine isLowest_firstFailure ?_ fun w => ?_
  · simp only [List.map_append, words_of_map, List.map_cons, List.map_nil]
    decide
  · simp only [List.mem_append, mem_checks_cons, mem_checks_map, List.not_mem_nil, or_false, outside_eq_true,
      yawStepFails_iff, WordFails]
    refine or_congr ?_ ⟨?_, ?_⟩
    · constructor
      · rintro (⟨rfl, h⟩ | ⟨rfl, h⟩)
        · exact ⟨.inl rfl, h⟩
        · exact ⟨.inr rfl, h⟩
      · rintro ⟨rfl | rfl, h⟩
        · exact .inl ⟨rfl, h⟩
        · exact .inr ⟨rfl, h⟩
    · rintro ⟨j, hj, rfl, h⟩
      exact ⟨j + 1, by omega, by omega, rfl, h⟩
    · rintro ⟨k, hk, hk7, rfl, h⟩
      exact ⟨k - 1, by omega, rfl, by rwa [Nat.sub_add_cancel hk]⟩

/-! ## Every table -/

/-- The failure of a table is the lowest word at which a check of its owner fails (R195). -/
theorem isLowest_validateTable (t : Nat) (ws : List Word) (ht : t < 9) :
    IsLowest (WordFails t ws) (validateTable t ws) := by
  match t, ht with
  | 0, _ => exact isLowest_validateSmt ws
  | 1, _ => exact isLowest_validatePlt ws
  | 2, _ => exact isLowest_validateDrtT ws
  | 3, _ => exact isLowest_validateDrtG ws
  | 4, _ => exact isLowest_validateThm ws
  | 5, _ => exact isLowest_validateYcf ws
  | 6, _ => exact isLowest_validateYst ws
  | 7, _ => exact isLowest_validateFat ws
  | 8, _ => exact isLowest_validateItp ws

end Sys2Proof.Machine
end

section
/-! PROOF. The refusals of EXCHANGE (R194, R195). -/

set_option Elab.async false

namespace Sys2Proof.Machine

open Sys2Proof.Safety

theorem maskTables_pairwise (mask : Word) : (maskTables mask).Pairwise (· < ·) :=
  List.pairwise_lt_range.filter _

/-- The failure of an exchange is the one of its lowest table that fails (R195). -/
theorem exchangeFailure_eq_some {s : State} {mask : Word} {t w : Nat} (ht : t < 9) (hbit : bitOf mask t = true)
    (hfails : validateTable t (s.shadow t) = some w)
    (hbelow : ∀ u, u < t → bitOf mask u = true → validateTable u (s.shadow u) = none) :
    s.exchangeFailure mask = some (t, w) := by
  obtain ⟨low, high, hsplit⟩ := List.append_of_mem (mem_maskTables.2 ⟨ht, hbit⟩)
  have hsorted := maskTables_pairwise mask
  rw [hsplit, List.pairwise_append] at hsorted
  obtain ⟨-, -, hlow⟩ := hsorted
  rw [State.exchangeFailure, List.findSome?_eq_some_iff]
  refine ⟨low, t, high, hsplit, by rw [hfails]; rfl, fun u hu => ?_⟩
  have hmem : u ∈ maskTables mask := by
    rw [hsplit]
    exact List.mem_append_left _ hu
  rw [hbelow u (hlow u hu t List.mem_cons_self) (mem_maskTables.1 hmem).2]
  rfl

end Sys2Proof.Machine

namespace Sys2Proof.Safety

open Sys2Proof.Machine

/-- Settles O15: the branches of EXCHANGE in their order; `isLowest_validateTable` gives the failing word of a table. -/
theorem exchangeRefusals : Obligations.ExchangeRefusals := by
  refine ⟨fun t ws ht => isLowest_validateTable t ws ht, fun len mask g s hdue hlen => ⟨fun hbad => ?_, ?_⟩⟩
  · exact exec_request hdue hlen (if_pos (maskOk_eq_false_iff.2 hbad))
  · intro hzero hhigh hnew
    have hok : ¬ maskOk mask = false := by
      rw [maskOk_eq_false_iff]
      omega
    have hrepeat : ¬ s.repeatsExchange mask g = true := fun h => hnew (repeatsExchange_iff.1 h)
    refine ⟨?_, fun hfree => ?_⟩
    · rintro ⟨t, ht, hbit, hlock⟩
      have hmask : s.lockedMask mask ≠ 0 := fun h => by
        rw [locked_of_lockedMask_eq_zero h ht hbit] at hlock
        cases hlock
      refine exec_request hdue hlen ((if_neg hok).trans ((if_neg hrepeat).trans ((if_pos hmask).trans ?_)))
      rw [lockedMask_eq]
      rfl
    have hmask : ¬ s.lockedMask mask ≠ 0 := not_not.2 (lockedMask_eq_zero_iff.2 hfree)
    refine ⟨fun hbusy => ?_, fun hidle => ?_⟩
    · exact exec_request hdue hlen ((if_neg hok).trans ((if_neg hrepeat).trans ((if_neg hmask).trans
        (if_pos (banksBusy_of_not_idle hbusy)))))
    have hready : ¬ s.banksBusy = true := by simp [banksBusy_of_idle hidle]
    refine ⟨fun hstate => exec_request hdue hlen ((if_neg hok).trans ((if_neg hrepeat).trans ((if_neg hmask).trans
      ((if_neg hready).trans ?_)))), ?_⟩
    · by_cases hg : g ≠ s.banks.generation
      · exact if_pos hg
      · obtain ⟨hbits, hmoving⟩ := hstate.resolve_left hg
        exact (if_neg hg).trans (if_pos ⟨by simpa using hbits, hmoving⟩)
    · intro hg hstill t w ht hbit hfails hbelow
      have hmoves : ¬ ((bitOf mask 5 || bitOf mask 6) = true ∧ (s.sequencer.step ≠ 0 ∨ s.sequencer.phase ≠ .none)) := by
        rintro ⟨hbits, hmoving⟩
        obtain ⟨hstep, hphase⟩ := hstill (by simpa using hbits)
        exact hmoving.elim (· hstep) (· hphase)
      refine exec_request hdue hlen ((if_neg hok).trans ((if_neg hrepeat).trans ((if_neg hmask).trans
        ((if_neg hready).trans ((if_neg (not_not.2 hg)).trans ((if_neg hmoves).trans ?_))))))
      rw [exchangeFailure_eq_some ht hbit hfails hbelow]
      dsimp only
      rw [putU_one_of_lt (by omega)]
      rfl

end Sys2Proof.Safety
end

section
/-! SUPPORT. The fault manager at a swap of the FAT (R158): records and log, code by code. -/

set_option Elab.async false

namespace Sys2Proof.Machine

open Sys2Proof.Safety

/-! ## A record closed, and logged under SELF_CLEARING (R158) -/

/-- Code `k` gets the record `new`; under SELF_CLEARING ENDED is logged with its context. -/
def closeRecord (new : FaultRecord) (k : Nat) (s : State) : State :=
  if (s.faultEntry k).latching then s.setFault k new else logIf k .ended (s.fault k).context (s.setFault k new)

/-- Whether closing code `k` is logged (R155, R158). -/
def closeLogged (s : State) (k : Nat) : Bool := !(s.faultEntry k).latching && (s.faultEntry k).loggable

theorem closeRecord_of_silent {s : State} {k : Nat} (h : closeLogged s k = false) (new : FaultRecord) :
    closeRecord new k s = s.setFault k new := by
  unfold closeRecord
  split
  · rfl
  next hl => exact if_neg fun hlog => by simp [closeLogged, hl, (show (s.faultEntry k).loggable = true from hlog)] at h

theorem closeRecord_of_logged {s : State} {k : Nat} (h : closeLogged s k = true) (new : FaultRecord) :
    closeRecord new k s = logIf k .ended (s.fault k).context (s.setFault k new) := by
  rw [closeLogged, Bool.and_eq_true, Bool.not_eq_true'] at h
  exact if_neg (by rw [h.1]; exact Bool.false_ne_true)

theorem outsideFaults_closeRecord (new : FaultRecord) (k : Nat) (s : State) :
    outsideFaults (closeRecord new k s) = outsideFaults s := by
  cases h : closeLogged s k
  · rw [closeRecord_of_silent h]
    rfl
  · rw [closeRecord_of_logged h]
    exact logIf_induction (Q := fun t => outsideFaults t = outsideFaults s) rfl rfl fun w => by
      rw [outsideFaults_raiseOverwrite]
      rfl

theorem faults_length_closeRecord (new : FaultRecord) (k : Nat) (s : State) :
    (closeRecord new k s).faults.length = s.faults.length := by
  cases h : closeLogged s k
  · rw [closeRecord_of_silent h]
    exact faults_length_setFault ..
  · rw [closeRecord_of_logged h]
    exact (faults_length_logIf ..).trans (faults_length_setFault ..)

/-- Closing code `k` writes its record alone, but for LOG_OVERWRITE's where the log overflows (R169). -/
theorem fault_closeRecord {new : FaultRecord} {j k : Nat} {s : State}
    (h : (closeLogged s k = true → s.log.records.length < 64) ∨ j ≠ fcLogOverwrite) :
    (closeRecord new k s).fault j = (s.setFault k new).fault j := by
  cases hlog : closeLogged s k
  · rw [closeRecord_of_silent hlog]
  · rw [closeRecord_of_logged hlog]
    exact fault_logIf_of (h.imp_left fun hroom => hroom hlog) ..

theorem log_closeRecord {new : FaultRecord} {k : Nat} {s : State} (hlength : s.faults.length = 64)
    (h : closeLogged s k = true → s.log.records.length < 64) :
    (closeRecord new k s).log =
      if closeLogged s k then
        { records := s.log.records ++ [logRecordNow s k .ended (s.fault k).context], next := s.log.next + 1 }
      else s.log := by
  cases hlog : closeLogged s k
  · rw [closeRecord_of_silent hlog]
    rfl
  · rw [closeRecord_of_logged hlog, if_pos rfl]
    have htakes : LogTakes k .ended (s.fault k).context s (logIf k .ended (s.fault k).context (s.setFault k new)) :=
      logTakes_logIf (u := s.setFault k new) rfl rfl (by rw [faults_length_setFault, hlength]; decide) k .ended _
    rw [closeLogged, Bool.and_eq_true] at hlog
    obtain ⟨-, hlogged⟩ := htakes
    exact (hlogged (loggable_iff.1 hlog.2)).1 (h (by rw [closeLogged, Bool.and_eq_true]; exact hlog))

/-! ## The codes of a list in turn (R158) -/

/-- Which codes are closed and with which records: told by the code's own record and what lies outside the fault manager. -/
structure Closing where
  ends : State → Nat → Bool
  new : State → Nat → FaultRecord
  local_ends : ∀ {u v : State} {k : Nat}, outsideFaults v = outsideFaults u → v.fault k = u.fault k → ends v k = ends u k
  local_new : ∀ {u v : State} {k : Nat}, outsideFaults v = outsideFaults u → v.fault k = u.fault k → new v k = new u k

namespace Closing

/-- One code of a closing. -/
def one (c : Closing) (s : State) (k : Nat) : State := if c.ends s k then closeRecord (c.new s k) k s else s

/-- The codes of a list whose closing is logged. -/
def logged (c : Closing) (s : State) (ks : List Nat) : List Nat := ks.filter (fun k => c.ends s k && closeLogged s k)

variable (c : Closing)

theorem outside (s : State) (k : Nat) : outsideFaults (c.one s k) = outsideFaults s := by
  unfold one
  split
  · exact outsideFaults_closeRecord ..
  · rfl

theorem faults_length (s : State) (k : Nat) : (c.one s k).faults.length = s.faults.length := by
  unfold one
  split
  · exact faults_length_closeRecord ..
  · rfl

theorem closeLogged_eq {s t : State} (h : outsideFaults t = outsideFaults s) (k : Nat) : closeLogged t k = closeLogged s k := by
  rw [closeLogged, closeLogged, eq_of_view h (fun u => u.faultEntry k)]

theorem fault_same {s : State} {k : Nat} (hk : k < s.faults.length)
    (h : (c.ends s k = true → closeLogged s k = true → s.log.records.length < 64) ∨ k ≠ fcLogOverwrite) :
    (c.one s k).fault k = if c.ends s k then c.new s k else s.fault k := by
  unfold one
  split
  next hends => rw [fault_closeRecord (h.imp_left fun hroom => hroom hends), fault_setFault_same hk]
  next => rfl

theorem fault_other {s : State} {j k : Nat} (hjk : j ≠ k)
    (h : (c.ends s k = true → closeLogged s k = true → s.log.records.length < 64) ∨ j ≠ fcLogOverwrite) :
    (c.one s k).fault j = s.fault j := by
  unfold one
  split
  next hends => rw [fault_closeRecord (h.imp_left fun hroom => hroom hends), fault_setFault_ne hjk.symm]
  next => rfl

theorem outside_foldl (ks : List Nat) (s : State) : outsideFaults (ks.foldl c.one s) = outsideFaults s := by
  induction ks generalizing s with
  | nil => rfl
  | cons k ks ih => exact (ih _).trans (c.outside s k)

theorem faults_length_foldl (ks : List Nat) (s : State) : (ks.foldl c.one s).faults.length = s.faults.length := by
  induction ks generalizing s with
  | nil => rfl
  | cons k ks ih => exact (ih _).trans (c.faults_length s k)

/-- The records after the codes of a list are closed in turn. -/
theorem fault_foldl {j : Nat} (ho : j ≠ fcLogOverwrite) (ks : List Nat) (hnodup : ks.Nodup) (s : State)
    (hj : j < s.faults.length) :
    (ks.foldl c.one s).fault j = if j ∈ ks ∧ c.ends s j = true then c.new s j else s.fault j := by
  induction ks generalizing s with
  | nil => simp
  | cons k ks ih =>
    rw [List.nodup_cons] at hnodup
    obtain ⟨hnew, hnodup⟩ := hnodup
    rw [List.foldl_cons, ih hnodup (c.one s k) (by rwa [c.faults_length])]
    by_cases hjk : j = k
    · subst hjk
      rw [if_neg (fun h => hnew h.1), c.fault_same hj (.inr ho)]
      simp only [List.mem_cons_self, true_and]
    · have hsame := c.fault_other hjk (s := s) (.inr ho)
      rw [hsame, c.local_ends (c.outside s k) hsame, c.local_new (c.outside s k) hsame]
      simp only [List.mem_cons, hjk, false_or]

/-- While the log has room for them all, the closings of a list are logged in order (R158, R168). -/
theorem log_foldl (ks : List Nat) (hnodup : ks.Nodup) (s : State) (hlength : s.faults.length = 64)
    (hroom : s.log.records.length + (c.logged s ks).length ≤ 64) :
    (ks.foldl c.one s).log =
      { records := s.log.records ++ (c.logged s ks).mapIdx (fun i k =>
          { logRecordNow s k .ended (s.fault k).context with sequence := s.log.next + BitVec.ofNat 16 i })
        next := s.log.next + BitVec.ofNat 16 (c.logged s ks).length } := by
  induction ks generalizing s with
  | nil => simp [logged]
  | cons k ks ih =>
    rw [List.nodup_cons] at hnodup
    obtain ⟨hnew, hnodup⟩ := hnodup
    have hframe := c.outside s k
    have hsplit : c.logged s (k :: ks) = (if (c.ends s k && closeLogged s k) = true then [k] else []) ++ c.logged s ks := by
      unfold logged
      rw [List.filter_cons]
      split <;> rfl
    have hfits : c.ends s k = true → closeLogged s k = true → s.log.records.length < 64 := by
      intro he hl
      rw [hsplit, if_pos (by rw [he, hl]; rfl), List.length_append, List.length_singleton] at hroom
      omega
    have hother : ∀ j ∈ ks, (c.one s k).fault j = s.fault j := fun j hj =>
      c.fault_other (fun h => hnew (h ▸ hj)) (.inl hfits)
    have hsame : c.logged (c.one s k) ks = c.logged s ks :=
      List.filter_congr fun j hj => by rw [c.local_ends hframe (hother j hj), closeLogged_eq hframe]
    have hlog : (c.one s k).log =
        if (c.ends s k && closeLogged s k) = true then
          { records := s.log.records ++ [logRecordNow s k .ended (s.fault k).context], next := s.log.next + 1 }
        else s.log := by
      unfold one
      cases he : c.ends s k
      · rfl
      · rw [if_pos rfl, log_closeRecord hlength (hfits he), Bool.true_and]
    have hroom' : (c.one s k).log.records.length + (c.logged (c.one s k) ks).length ≤ 64 := by
      rw [hsplit, List.length_append] at hroom
      rw [hsame, hlog]
      split
      next h =>
        rw [if_pos h, List.length_singleton] at hroom
        rw [List.length_append, List.length_singleton]
        omega
      next h =>
        rw [if_neg h, List.length_nil] at hroom
        omega
    have hrecords : (c.logged s ks).mapIdx (fun i j =>
          { logRecordNow (c.one s k) j .ended ((c.one s k).fault j).context with
            sequence := (c.one s k).log.next + BitVec.ofNat 16 i }) =
        (c.logged s ks).mapIdx (fun i j => { logRecordNow s j .ended (s.fault j).context with
          sequence := (c.one s k).log.next + BitVec.ofNat 16 i }) := by
      refine List.mapIdx_eq_mapIdx_iff.mpr (fun i hi => ?_)
      have hmem : (c.logged s ks)[i] ∈ ks := (List.mem_filter.mp (List.getElem_mem hi)).left
      simp only [logRecordNow, hother _ hmem, eq_of_view hframe State.clock, eq_of_view hframe State.prevCycle]
    rw [List.foldl_cons, ih hnodup _ ((c.faults_length s k).trans hlength) hroom', hsame, hrecords, hsplit, hlog]
    split
    · obtain ⟨hnumbered, hnext⟩ := mapIdx_numbered
        (fun n j => { logRecordNow s j .ended (s.fault j).context with sequence := n }) s.log.next k (c.logged s ks)
      dsimp only
      rw [List.append_assoc, hnext]
      exact congrArg (FaultLog.mk · _) (congrArg (s.log.records ++ ·) hnumbered)
    · rfl

end Closing

/-! ## The two closings of the swap (R158) -/

/-- Step 1: under SELF_CLEARING a latch without its condition clears. -/
def latchClosing : Closing where
  ends s k := !(s.faultEntry k).latching && (s.fault k).latch && !(s.fault k).condition
  new s k := { s.fault k with latch := false }
  local_ends h hk := by rw [hk, eq_of_view h (fun u => u.faultEntry _)]
  local_new _ hk := by rw [hk]

/-- Step 2: the condition of a watch that is OFF ends. -/
def watchClosing : Closing where
  ends s k := decide ((watchOf s.fat (k - 48)).comparison = 0) && (s.fault k).condition
  new s k := { s.fault k with condition := false, reasserted := false, latch := (s.fault k).latch && (s.faultEntry k).latching }
  local_ends h hk := by rw [hk, eq_of_view h State.fat]
  local_new h hk := by rw [hk, eq_of_view h (fun u => u.faultEntry _)]

theorem fatSwapLatch_eq : fatSwapLatch = latchClosing.one := by
  funext s k
  unfold fatSwapLatch Closing.one latchClosing closeRecord
  dsimp only
  split
  next h =>
    have hself : (s.faultEntry k).latching = false := by
      simp only [Bool.and_eq_true, Bool.not_eq_true'] at h
      exact h.1.1
    rw [if_neg (by rw [hself]; exact Bool.false_ne_true)]
  next => rfl

theorem fatSwapWatch_eq (s : State) (j : Nat) : fatSwapWatch s j = watchClosing.one s (48 + j) := by
  unfold fatSwapWatch Closing.one
  have hends : watchClosing.ends s (48 + j) = true ↔ (watchOf s.fat j).comparison = 0 ∧ s.condition (fcWatch j) = true := by
    simp only [watchClosing, Nat.add_sub_cancel_left, Bool.and_eq_true, decide_eq_true_eq]
    rfl
  by_cases h : (watchOf s.fat j).comparison = 0 ∧ s.condition (fcWatch j) = true
  · rw [if_pos h, if_pos (hends.2 h)]
    unfold endRecord closeRecord
    dsimp only
    rw [if_neg (by rw [show (s.fault (fcWatch j)).condition = true from h.2]; exact Bool.false_ne_true)]
    show (if (s.faultEntry (48 + j)).latching = true then _ else _) = _
    split
    next hl => simp only [watchClosing, hl, Bool.and_true]; rfl
    next hl => simp only [watchClosing, hl, Bool.and_false]; rfl
  · rw [if_neg h, if_neg (fun he => h (hends.1 he))]

/-- The codes of the watches. -/
def watchCodes : List Nat := (List.range 16).map (48 + ·)

theorem fatSwap_eq (s : State) : fatSwap s = handHold s.summary.yawHold
    (recompute (watchCodes.foldl watchClosing.one ((List.range 64).foldl latchClosing.one s))) := by
  have hwatch : ∀ u, (List.range 16).foldl fatSwapWatch u = watchCodes.foldl watchClosing.one u := fun u => by
    rw [watchCodes, List.foldl_map]
    exact congrArg (fun f => (List.range 16).foldl f u) (funext₂ fatSwapWatch_eq)
  unfold fatSwap
  dsimp only
  rw [hwatch, fatSwapLatch_eq]

end Sys2Proof.Machine
end

section
/-! PROOF. The swap at an out-lane frame start (R196, R39, R106, R125, R147, R158). -/

set_option Elab.async false

namespace Sys2Proof.Machine

open Sys2Proof.Safety

/-! ## The copies changing places (R196) -/

theorem swapTables_shadow_of_notMem {ts : List Nat} {b : Banks} {k : Nat} (h : k ∉ ts) :
    (ts.foldl swapTable b).shadow[k]? = b.shadow[k]? := by
  induction ts generalizing b with
  | nil => rfl
  | cons t ts ih =>
    rw [List.mem_cons, not_or] at h
    rw [List.foldl_cons, ih h.right, swapTable]
    simp [Ne.symm h.left]

/-- A table of the mask has its copies in each other's place, the new ACTIVE one valid. -/
theorem swapTables_of_mem {ts : List Nat} (hnodup : ts.Nodup) {b : Banks} {k : Nat} {a h : TableCopy}
    (ha : b.active[k]? = some a) (hh : b.shadow[k]? = some h) (hk : k ∈ ts) :
    (ts.foldl swapTable b).active[k]? = some { h with valid := true } ∧ (ts.foldl swapTable b).shadow[k]? = some a := by
  induction ts generalizing b with
  | nil => cases hk
  | cons t ts ih =>
    rw [List.nodup_cons] at hnodup
    obtain ⟨hnew, hnodup⟩ := hnodup
    rw [List.foldl_cons]
    by_cases hkt : k = t
    · subst hkt
      rw [swapTables_active_of_notMem hnew, swapTables_shadow_of_notMem hnew]
      have hactive := List.getElem?_eq_some_iff.1 ha
      have hshadow := List.getElem?_eq_some_iff.1 hh
      obtain ⟨hla, -⟩ := hactive
      obtain ⟨hlh, -⟩ := hshadow
      simp only [swapTable, List.getElem?_set_self hla, List.getElem?_set_self hlh, List.getD_eq_getElem?_getD, ha, hh,
        Option.getD_some, and_self]
    · refine ih hnodup ?_ ?_ ((List.mem_cons.1 hk).resolve_left hkt)
      · rw [swapTable]
        simpa [Ne.symm hkt] using ha
      · rw [swapTable]
        simpa [Ne.symm hkt] using hh

theorem maskTables_nodup (mask : Word) : (maskTables mask).Nodup := List.nodup_range.filter _

theorem swapIfScheduled_of_scheduled {mask : Word} {s : State} (h : s.banks.status = .scheduled mask) :
    swapIfScheduled s = swapExchange mask s := by
  rw [swapIfScheduled, h]

/-- The banks after a swap are those that the swap at the banks leaves. -/
theorem banks_swapExchange (mask : Word) (s : State) : (swapExchange mask s).banks = (swapBanks mask s).banks :=
  (OwnersOnly.swapExchange mask s).kept State.banks

/-! ## The counters of the slot map (R39) -/

theorem entryHits_arbiterPltSwap (s : State) : (arbiterPltSwap s).entryHits = s.entryHits := by
  unfold arbiterPltSwap
  rw [lowerPump_eq rfl]
  split
  · rfl
  · rfl

theorem entryHits_trackerYcfSwap (ppr : Nat) (s : State) : (trackerYcfSwap ppr s).entryHits = s.entryHits := by
  unfold trackerYcfSwap
  dsimp only
  refine (eq_of_view (outsideMoves_judge ..) State.entryHits).trans ?_
  split
  · rfl
  · rfl

theorem outsideMoves_fatSwap (s : State) : outsideMoves (fatSwap s) = outsideMoves s := by
  have hframe := (watchClosing.outside_foldl watchCodes _).trans (latchClosing.outside_foldl (List.range 64) s)
  rw [fatSwap_eq]
  exact (outsideMoves_handHold ..).trans
    (outsideMoves_of_actions ((outsideActions_recompute _).trans (outsideActions_of_faults hframe)))

theorem entryHits_swapExchange (mask : Word) (s : State) : (swapExchange mask s).entryHits =
    if bitOf mask 0 then List.replicate 48 { clamp := 0, short := 0 } else s.entryHits := by
  have hif : ∀ (b : Bool) (f : State → State) (u : State), (∀ v, (f v).entryHits = v.entryHits) →
      (if b then f u else u).entryHits = u.entryHits := by
    intro b f u hf
    cases b
    · rfl
    · exact hf u
  unfold swapExchange
  dsimp only
  refine (hif (bitOf mask 7) fatSwap _ fun v => eq_of_view (outsideMoves_fatSwap v) State.entryHits).trans
    ((hif (bitOf mask 5) (fun u => judgeTwist (trackerYcfSwap s.ppr u)) _ fun v =>
      (eq_of_view (outsideMoves_judgeTwist _) State.entryHits).trans (entryHits_trackerYcfSwap ..)).trans
      ((hif (bitOf mask 1) arbiterPltSwap _ entryHits_arbiterPltSwap).trans ?_))
  cases bitOf mask 0
  · rfl
  · rfl

/-! ## The move under the raises of a swap (R132, R137) -/

/-- No move is held, so far as the sequencer tells (R132). -/
def MoveCleared (s : State) : Prop := s.sequencer.record = none ∧ s.sequencer.phase = .none

/-- The phase NONE is that of a sequencer that holds no move (R127). -/
def PhaseAgrees (s : State) : Prop := s.sequencer.phase = .none ↔ s.sequencer.record = none

theorem moveCleared_endMove {cause : EndCause} {s : State} (h : s.sequencer.record ≠ none) : MoveCleared (endMove cause s) := by
  obtain ⟨r, hr⟩ := Option.ne_none_iff_exists'.1 h
  have hgone : ∀ u : State, MoveCleared (decisionMoveEnd r.mode cause { u with
      sequencer := { u.sequencer with record := none, phase := .none }
      arbiter := { u.arbiter with yawClaim := none, yawGrant := none } }) := by
    intro u
    have hview := congrArg Prod.fst (moverView_decisionMoveEnd r.mode cause { u with
      sequencer := { u.sequencer with record := none, phase := .none }
      arbiter := { u.arbiter with yawClaim := none, yawGrant := none } })
    exact ⟨congrArg Sequencer.record hview, congrArg Sequencer.phase hview⟩
  unfold endMove
  rw [hr]
  exact hgone _

theorem PhaseAgrees.abortMove {s : State} (h : PhaseAgrees s) : MoveCleared (abortMove s) := by
  unfold Machine.abortMove
  split
  next hphase => exact ⟨h.1 hphase, hphase⟩
  next hphase => exact moveCleared_endMove fun hrecord => hphase (h.2 hrecord)

theorem MoveCleared.agrees {s : State} (h : MoveCleared s) : PhaseAgrees s := iff_of_true h.2 h.1

theorem PhaseAgrees.handHold {s : State} (h : PhaseAgrees s) (before : Bool) : PhaseAgrees (handHold before s) := by
  unfold Machine.handHold
  split
  · exact h.abortMove.agrees
  · exact h

theorem PhaseAgrees.of_actions {s t : State} (h : PhaseAgrees s) (hview : outsideActions t = outsideActions s) : PhaseAgrees t := by
  have hseq : t.sequencer = s.sequencer := eq_of_view hview State.sequencer
  unfold PhaseAgrees
  rw [hseq]
  exact h

theorem PhaseAgrees.judge {s : State} (h : PhaseAgrees s) (k : Nat) (present : Bool) (c : Int) : PhaseAgrees (judge k present c s) := by
  unfold Machine.judge
  split
  · exact (h.of_actions (outsideActions_raiseQuiet ..)).handHold _
  · split
    · exact (h.of_actions (outsideActions_endQuiet ..)).handHold _
    · exact h

/-- YAW_TWIST_LIMIT becoming present ends any move (R147). -/
theorem moveCleared_judgeTwist {s : State} (hwas : s.condition fcTwistLimit = false)
    (hnow : (judgeTwist s).condition fcTwistLimit = true) (hlength : s.faults.length = 64) (hagrees : PhaseAgrees s) :
    MoveCleared (judgeTwist s) := by
  unfold judgeTwist at hnow ⊢
  have hlength' : (judge fcTwistWarn s.twistWarn s.tracker.twist s).faults.length = 64 := (faults_length_judge ..).trans hlength
  have hwas' : (judge fcTwistWarn s.twistWarn s.tracker.twist s).condition fcTwistLimit = false :=
    (condition_judge_ne (by decide) rfl ..).trans hwas
  have hpaired := hagrees.judge fcTwistWarn s.twistWarn s.tracker.twist
  rw [condition_judgeTwistLimit hlength'] at hnow
  generalize judge fcTwistWarn s.twistWarn s.tracker.twist s = u at hlength' hwas' hpaired hnow ⊢
  have hpresent : (judge fcTwistLimit u.twistLimit u.tracker.twist u).condition fcTwistLimit = true :=
    (condition_judge rfl (fun _ => by rw [hlength']; decide) _).trans hnow
  have hjudged := hpaired.judge fcTwistLimit u.twistLimit u.tracker.twist
  unfold judgeTwistLimit
  dsimp only
  rw [hpresent, hwas']
  split
  · exact hjudged.abortMove
  next hno =>
    have hrecord : (judge fcTwistLimit u.twistLimit u.tracker.twist u).sequencer.record = none := by simpa using hno
    exact ⟨hrecord, hjudged.2 hrecord⟩

/-! ## The tracker at a swap of the YCF (R125) -/

/-- The tracker's part of the swap before YAW_TRACK_LOST is judged (R125). -/
def ycfTaken (ppr : Nat) (s : State) : State :=
  if s.ppr = ppr then { s with tracker := { s.tracker with baseTime := baseOf s.baseDepth s.tracker.history } }
  else writeHeading { s with tracker := { s.tracker with
    baseTime := baseOf s.baseDepth s.tracker.history, heading := modPpr s.ppr s.tracker.heading, quality := .unreferenced,
    twistSet := false, deadReckon := 0, forcedRun := 0, window := none } }

theorem trackerYcfSwap_eq (ppr : Nat) (s : State) : trackerYcfSwap ppr s =
    judge fcTrackLost (decide ((ycfTaken ppr s).forcedLimit ≤ (ycfTaken ppr s).tracker.forcedRun))
      (ycfTaken ppr s).tracker.heading (ycfTaken ppr s) := rfl

theorem ycfTaken_kept (ppr : Nat) (s : State) : (ycfTaken ppr s).forcedLimit = s.forcedLimit ∧ (ycfTaken ppr s).faults = s.faults := by
  unfold ycfTaken
  split
  · exact ⟨rfl, rfl⟩
  · exact ⟨rfl, rfl⟩

theorem baseOf_eq (depthCode : Nat) (history : List Nat) : baseOf depthCode history =
    if history = [] then 0 else (history.take (2 ^ depthCode)).sum / 2 ^ depthCode := by
  simp only [baseOf, List.isEmpty_iff, depthOf]

/-! ## The fault manager at a swap of the FAT (R158) -/

theorem mem_watchCodes {k : Nat} : k ∈ watchCodes ↔ 48 ≤ k ∧ k < 64 := by
  simp only [watchCodes, List.mem_map, List.mem_range]
  exact ⟨fun ⟨j, hj, h⟩ => by omega, fun ⟨hlo, hhi⟩ => ⟨k - 48, by omega, by omega⟩⟩

theorem watchCodes_nodup : watchCodes.Nodup := by decide

/-- Both steps of the swap, before the summary is recomputed. -/
def fatClosed (s : State) : State := watchCodes.foldl watchClosing.one ((List.range 64).foldl latchClosing.one s)

theorem fault_fatSwap {k : Nat} (hk : k < 64) (hj : k ≠ fcSeekFailed) (ho : k ≠ fcLogOverwrite) {s : State}
    (hlength : s.faults.length = 64) : (fatSwap s).fault k =
      if 48 ≤ k ∧ (watchOf s.fat (k - 48)).comparison = 0 ∧ (s.fault k).condition = true then
        { s.fault k with
          condition := false, reasserted := false, latch := (s.fault k).latch && (s.faultEntry k).latching }
      else { s.fault k with latch := (s.fault k).latch && ((s.faultEntry k).latching || (s.fault k).condition) } := by
  have hlatch : ((List.range 64).foldl latchClosing.one s).fault k =
      { s.fault k with latch := (s.fault k).latch && ((s.faultEntry k).latching || (s.fault k).condition) } := by
    rw [latchClosing.fault_foldl ho _ List.nodup_range s (by omega)]
    simp only [List.mem_range, hk, true_and, latchClosing]
    generalize s.fault k = r
    cases r with
    | mk condition latch pending reasserted count context time =>
      cases hl : (s.faultEntry k).latching <;> cases latch <;> cases condition <;> rfl
  have hframe := latchClosing.outside_foldl (List.range 64) s
  rw [fatSwap_eq, fault_handHold hj ho]
  show (recompute _).fault k = _
  rw [State.fault, faults_recompute]
  show State.fault _ k = _
  rw [watchClosing.fault_foldl ho _ watchCodes_nodup _ (by rw [latchClosing.faults_length_foldl]; omega)]
  simp only [watchClosing, hlatch, mem_watchCodes, Bool.and_eq_true, decide_eq_true_eq, eq_of_view hframe State.fat,
    eq_of_view hframe (fun u => u.faultEntry k), and_assoc, hk, true_and]
  split
  next h =>
    obtain ⟨-, -, hcondition⟩ := h
    rw [hcondition, Bool.or_true, Bool.and_true]
  next => rfl

/-- Where no move is held the log of the swap is that of its two closings. -/
theorem log_fatSwap {s : State} (hphase : s.sequencer.phase = .none) : (fatSwap s).log = (fatClosed s).log := by
  have hframe : outsideFaults (fatClosed s) = outsideFaults s :=
    (watchClosing.outside_foldl watchCodes _).trans (latchClosing.outside_foldl (List.range 64) s)
  have hview := (outsideActions_recompute (fatClosed s)).trans (outsideActions_of_faults hframe)
  have hnone : (recompute (fatClosed s)).sequencer.phase = .none :=
    (eq_of_view hview (fun u => u.sequencer.phase)).trans hphase
  rw [fatSwap_eq]
  show (handHold _ (recompute (fatClosed s))).log = _
  rw [handHold_of_none hnone, log_recompute]

/-- The codes whose end a swap of the FAT logs, in its order (R158). -/
def fatEnded (s : State) : List Nat := latchClosing.logged s (List.range 64) ++ watchClosing.logged s watchCodes

theorem log_fatClosed {s : State} (hlength : s.faults.length = 64) :
    LogTakesAll (fatEnded s) (fun _ => .ended) s (fatClosed s) := by
  intro hroom
  rw [fatEnded, List.length_append] at hroom
  have hfirst := latchClosing.log_foldl (List.range 64) List.nodup_range s hlength (by omega)
  have hframe := latchClosing.outside_foldl (List.range 64) s
  have hfault : ∀ k ∈ watchCodes, (((List.range 64).foldl latchClosing.one s).fault k).condition = (s.fault k).condition ∧
      (((List.range 64).foldl latchClosing.one s).fault k).context = (s.fault k).context := by
    intro k hk
    obtain ⟨hlo, hhi⟩ := mem_watchCodes.1 hk
    rw [latchClosing.fault_foldl (by simp only [fcLogOverwrite]; omega) _ List.nodup_range s (by omega)]
    split
    · exact ⟨rfl, rfl⟩
    · exact ⟨rfl, rfl⟩
  have hlength' := (latchClosing.faults_length_foldl (List.range 64) s).trans hlength
  unfold fatClosed fatEnded
  generalize (List.range 64).foldl latchClosing.one s = u at hfirst hframe hfault hlength' ⊢
  have hsame : watchClosing.logged u watchCodes = watchClosing.logged s watchCodes :=
    List.filter_congr fun k hk => by
      simp only [watchClosing, closeLogged, (hfault k hk).1, eq_of_view hframe State.fat,
        eq_of_view hframe (fun u => u.faultEntry k)]
  have hlog : u.log.records.length = s.log.records.length + (latchClosing.logged s (List.range 64)).length := by
    rw [hfirst, List.length_append, List.length_mapIdx]
  rw [watchClosing.log_foldl watchCodes watchCodes_nodup u hlength' (by rw [hsame]; omega), hsame, hfirst]
  have hnext : ∀ n : Nat, s.log.next + BitVec.ofNat 16 (latchClosing.logged s (List.range 64)).length + BitVec.ofNat 16 n =
      s.log.next + BitVec.ofNat 16 (n + (latchClosing.logged s (List.range 64)).length) := fun n => by
    rw [BitVec.add_assoc, ← BitVec.ofNat_add, Nat.add_comm]
  have hrecords : (watchClosing.logged s watchCodes).mapIdx (fun i k =>
        { logRecordNow u k .ended (u.fault k).context with
          sequence := s.log.next + BitVec.ofNat 16 (latchClosing.logged s (List.range 64)).length + BitVec.ofNat 16 i }) =
      (watchClosing.logged s watchCodes).mapIdx (fun i k => { logRecordNow s k .ended (s.fault k).context with
          sequence := s.log.next + BitVec.ofNat 16 (i + (latchClosing.logged s (List.range 64)).length) }) := by
    refine List.mapIdx_eq_mapIdx_iff.mpr (fun i hi => ?_)
    have hmem : (watchClosing.logged s watchCodes)[i] ∈ watchCodes := (List.mem_filter.mp (List.getElem_mem hi)).left
    simp only [logRecordNow, (hfault _ hmem).2, eq_of_view hframe State.clock, eq_of_view hframe State.prevCycle, hnext]
  rw [hrecords, hnext, List.mapIdx_append, List.length_append, List.append_assoc]
  dsimp only
  rw [Nat.add_comm (watchClosing.logged s watchCodes).length]

end Sys2Proof.Machine
end

section
/-! PROOF. What the swap of a scheduled exchange leaves (R196) and what its owners do (R106, R125, R147, R158). -/

set_option Elab.async false

namespace Sys2Proof.Safety

open Sys2Proof.Machine

/-- The banks, the counters and the chain of owners (R196, R39). -/
theorem swap_copies {mask : Word} {s : State} (hstatus : s.banks.status = .scheduled mask)
    (hactive : s.banks.active.length = 9) (hshadow : s.banks.shadow.length = 9) :
    (swapIfScheduled s).banks.generation = s.banks.generation + 1 ∧
    ((swapIfScheduled s).banks.status =
      if s.flight ≠ [] ∧ ∀ r ∈ s.flight, r.generation = s.banks.generation then .draining else .idle) ∧
    (∀ t, t < 9 → bitOf mask t = true →
      (swapIfScheduled s).active t = s.shadow t ∧ (swapIfScheduled s).shadow t = s.active t ∧
      ((swapIfScheduled s).banks.active.getD t ⟨[], false⟩).valid = true ∧
      ((swapIfScheduled s).banks.shadow.getD t ⟨[], false⟩).valid = (s.banks.active.getD t ⟨[], false⟩).valid) ∧
    (∀ t, t < 9 → bitOf mask t = false →
      (swapIfScheduled s).banks.active[t]? = s.banks.active[t]? ∧
      (swapIfScheduled s).banks.shadow[t]? = s.banks.shadow[t]?) ∧
    (swapIfScheduled s).banks.locks = s.banks.locks ∧
    (swapIfScheduled s).banks.lastExchange = s.banks.lastExchange := by
  rw [swapIfScheduled_of_scheduled hstatus]
  simp only [State.active, State.shadow]
  rw [banks_swapExchange]
  have hrest := swapTables_rest (maskTables mask) s.banks
  refine ⟨rfl, ?_, fun t ht hbit => ?_, fun t ht hbit => ?_, (congrArg Banks.locks hrest :), (congrArg Banks.lastExchange hrest :)⟩
  · have hold : (!s.flight.isEmpty && s.flight.all (fun r => r.generation == s.banks.generation)) = true ↔
        s.flight ≠ [] ∧ ∀ r ∈ s.flight, r.generation = s.banks.generation := by
      simp
    exact ite_congr (propext hold) (fun _ => rfl) (fun _ => rfl)
  · have ha : s.banks.active[t]? = some s.banks.active[t] := List.getElem?_eq_getElem (by omega)
    have hh : s.banks.shadow[t]? = some s.banks.shadow[t] := List.getElem?_eq_getElem (by omega)
    obtain ⟨hnow, hthen⟩ := swapTables_of_mem (maskTables_nodup mask) ha hh (mem_maskTables.2 ⟨ht, hbit⟩)
    simp only [swapBanks, List.getD_eq_getElem?_getD, hnow, hthen, ha, hh, Option.getD_some, and_self]
  · have hno : t ∉ maskTables mask := fun hmem => by
      rw [(mem_maskTables.1 hmem).2] at hbit
      cases hbit
    exact ⟨swapTables_active_of_notMem hno, swapTables_shadow_of_notMem hno⟩

/-- The owners in their order, from the state whose copies have changed places (R196). -/
theorem swap_owners {mask : Word} {s : State} (hstatus : s.banks.status = .scheduled mask) (u v w : State)
    (hu : u = { s with banks := (swapIfScheduled s).banks, entryHits := (swapIfScheduled s).entryHits })
    (hv : v = (if bitOf mask 1 then arbiterPltSwap u else u))
    (hw : w = (if bitOf mask 5 then judgeTwist (trackerYcfSwap s.ppr v) else v)) :
    swapIfScheduled s = if bitOf mask 7 then fatSwap w else w := by
  have htaken : u = if bitOf mask 0 then resetHits (swapBanks mask s) else swapBanks mask s := by
    rw [hu, swapIfScheduled_of_scheduled hstatus, banks_swapExchange, entryHits_swapExchange]
    cases bitOf mask 0
    · rfl
    · rfl
  rw [hw, hv, htaken, swapIfScheduled_of_scheduled hstatus]
  rfl

/-- The tracker's part (R125). -/
theorem swap_tracker {ppr base : Nat} {s : State} (hlength : s.faults.length = 64)
    (hbase : base = (if s.tracker.history = [] then 0
      else (s.tracker.history.take (2 ^ figure s.ycf 7)).sum / 2 ^ figure s.ycf 7)) :
    ((trackerYcfSwap ppr s).condition fcTrackLost = true ↔ s.forcedLimit ≤ (trackerYcfSwap ppr s).tracker.forcedRun) ∧
    (s.ppr = ppr → ByFaultsOnly { s with tracker := { s.tracker with baseTime := base } } (trackerYcfSwap ppr s)) ∧
    (s.ppr ≠ ppr → s.ppr ≠ 0 → ∀ heading : Nat, heading = s.tracker.heading % s.ppr →
      ByFaultsOnly { s with
        tracker := { s.tracker with
          baseTime := base, heading := heading, quality := .unreferenced, twistSet := false, deadReckon := 0,
          forcedRun := 0, window := none }
        points := ((s.points.set 42 { value := ((heading * 3600 / s.ppr : Nat) : Int), quality := .fresh, age := 0 }).set
          43 { value := s.tracker.twist, quality := .fresh, age := 0 }).set 63
          { value := 0, quality := .fresh, age := 0 } } (trackerYcfSwap ppr s)) := by
  obtain ⟨hlimit, hfaults⟩ := ycfTaken_kept ppr s
  have hbaseOf : baseOf s.baseDepth s.tracker.history = base := (baseOf_eq ..).trans hbase.symm
  rw [trackerYcfSwap_eq]
  refine ⟨?_, fun hsame => ?_, fun hnew hppr heading hheading => ?_⟩
  · have hrun : (judge fcTrackLost (decide ((ycfTaken ppr s).forcedLimit ≤ (ycfTaken ppr s).tracker.forcedRun))
        (ycfTaken ppr s).tracker.heading (ycfTaken ppr s)).tracker.forcedRun = (ycfTaken ppr s).tracker.forcedRun :=
      eq_of_view (outsideMoves_judge ..) (fun u => u.tracker.forcedRun)
    rw [hrun, condition_judge rfl (fun _ => by rw [hfaults, hlength]; decide), hlimit, decide_eq_true_eq]
  · have htaken : ycfTaken ppr s = { s with tracker := { s.tracker with baseTime := base } } := by
      rw [ycfTaken, if_pos hsame, hbaseOf]
    rw [htaken]
    exact byFaultsOnly_judge ..
  · have hreduced : modPpr s.ppr s.tracker.heading = heading := by
      rw [modPpr_of_ne hppr, hheading, ← Int.natCast_mod, Int.toNat_natCast]
    have htaken : ycfTaken ppr s = { s with
        tracker := { s.tracker with
          baseTime := base, heading := heading, quality := .unreferenced, twistSet := false, deadReckon := 0,
          forcedRun := 0, window := none }
        points := ((s.points.set 42 { value := ((heading * 3600 / s.ppr : Nat) : Int), quality := .fresh, age := 0 }).set
          43 { value := s.tracker.twist, quality := .fresh, age := 0 }).set 63
          { value := 0, quality := .fresh, age := 0 } } := by
      rw [ycfTaken, if_neg hnew, hbaseOf, hreduced]
      exact writeHeading_eq rfl hppr
    rw [htaken]
    exact byFaultsOnly_judge ..

/-- Both twist conditions (R147). -/
theorem swap_twist {s : State} (hlength : s.faults.length = 64) :
    ((judgeTwist s).condition fcTwistWarn = true ↔
      s.tracker.twistSet = true ∧ s.unwindStart ≤ (s.tracker.twist.natAbs : Int)) ∧
    ((judgeTwist s).condition fcTwistLimit = true ↔
      (s.tracker.twistSet = true ∧ s.twistHard ≤ (s.tracker.twist.natAbs : Int)) ∨ s.decision.blocked = true) := by
  obtain ⟨hwarn, hlimit⟩ := condition_judgeTwist hlength
  rw [hwarn, hlimit, State.twistWarn, State.twistLimit, Bool.or_eq_true, Bool.and_eq_true, Bool.and_eq_true, decide_eq_true_eq,
    decide_eq_true_eq]
  exact ⟨Iff.rfl, Iff.rfl⟩

theorem fatEnded_eq (s : State) : fatEnded s =
    (((List.range 64).filter (fun k => (s.fault k).latch && !(s.fault k).condition)) ++
      ((List.range 16).map (48 + ·)).filter (fun k =>
        (s.fault k).condition && decide ((watchOf s.fat (k - 48)).comparison = 0))).filter (fun k =>
      !(s.faultEntry k).latching && ((s.faultEntry k).log || decide ((s.faultEntry k).severity = 4))) := by
  rw [fatEnded, List.filter_append, List.filter_filter, List.filter_filter]
  have hloggable : ∀ k, closeLogged s k =
      (!(s.faultEntry k).latching && ((s.faultEntry k).log || decide ((s.faultEntry k).severity = 4))) := fun _ => rfl
  refine congrArg₂ (· ++ ·) (List.filter_congr fun k _ => ?_) (List.filter_congr fun k _ => ?_)
  · simp only [latchClosing, hloggable]
    cases (s.faultEntry k).latching <;> simp [Bool.and_comm]
  · simp only [watchClosing, hloggable]
    rw [Bool.and_comm (decide _), Bool.and_comm]

/-- The fault manager's part (R158). -/
theorem swap_faults {s : State} (hlength : s.faults.length = 64) :
    (∀ k, k < 64 → k ≠ 31 → k ≠ 34 →
      (¬ (48 ≤ k ∧ (watchOf s.fat (k - 48)).comparison = 0 ∧ (s.fault k).condition = true) →
        (fatSwap s).fault k = { s.fault k with
          latch := (s.fault k).latch && ((s.faultEntry k).latching || (s.fault k).condition) }) ∧
      (48 ≤ k → (watchOf s.fat (k - 48)).comparison = 0 → (s.fault k).condition = true →
        (fatSwap s).fault k = { s.fault k with
          condition := false, reasserted := false, latch := (s.fault k).latch && (s.faultEntry k).latching })) ∧
    (fatSwap s).summary = (fatSwap s).formSummary ∧ ByFaultsOnly s (fatSwap s) ∧
    (s.summary.yawHold = false → (fatSwap s).summary.yawHold = true →
      (s.sequencer.phase = .none ↔ s.sequencer.record = none) → (fatSwap s).sequencer.record = none) := by
  have hframe : outsideFaults (fatClosed s) = outsideFaults s :=
    (watchClosing.outside_foldl watchCodes _).trans (latchClosing.outside_foldl (List.range 64) s)
  have heq : fatSwap s = handHold s.summary.yawHold (recompute (fatClosed s)) := fatSwap_eq s
  refine ⟨fun k hk h31 h34 => ⟨fun hno => ?_, fun hwatch hoff hcondition => ?_⟩, ?_, ?_, fun hhold hnow hagrees => ?_⟩
  · rw [fault_fatSwap hk h31 h34 hlength, if_neg hno]
  · rw [fault_fatSwap hk h31 h34 hlength, if_pos ⟨hwatch, hoff, hcondition⟩]
  · obtain ⟨hsum, hform, -⟩ := recompute_actions (fatClosed s)
    rw [heq]
    exact free_handHold free_summaryFormed (show SummaryFormed _ from hsum.trans hform.symm) _
  · exact byFaultsOnly_of (outsideMoves_fatSwap s)
      (by rw [heq]; exact ((KeepsPoints.of_outsideFaults hframe).trans (.recompute _)).trans (.handHold ..))
  · have hrecomputed : PhaseAgrees (recompute (fatClosed s)) :=
      PhaseAgrees.of_actions hagrees ((outsideActions_recompute _).trans (outsideActions_of_faults hframe))
    rw [heq, hhold] at hnow ⊢
    unfold handHold at hnow ⊢
    split at hnow
    · next hon =>
      rw [if_pos hon]
      exact hrecomputed.abortMove.1
    · next hoff => exact absurd (by simpa using hnow) hoff

/-- Settles O16: the banks by `swap_copies`, the owners in their chain by `swap_owners`, then each owner's own part. -/
theorem swapChangesPlacesOfTheCopies : Obligations.SwapChangesPlacesOfTheCopies := by
  refine ⟨fun mask s hstatus hactive hshadow => ?_, fun s u speed hu hspeed => ?_, fun ppr base s t ht hlength hbase => ?_,
    fun s t ht hlength => ?_, fun s t ht hlength => ?_⟩
  · obtain ⟨hgeneration, hbanks, hswapped, hkept, hlocks, hlast⟩ := swap_copies hstatus hactive hshadow
    refine ⟨hgeneration, hbanks, hswapped, hkept, hlocks, hlast, ?_, fun u v w => swap_owners hstatus u v w⟩
    rw [swapIfScheduled_of_scheduled hstatus]
    exact entryHits_swapExchange mask s
  · have hlower : arbiterPltSwap s = lowerPump u := by
      rw [hu]
      rfl
    rw [hlower, lowerPump_eq (s := u) (speed := speed) (by rw [hspeed, hu])]
    have hpoint : (u.point 40).value = (s.point 40).value := by rw [hu]; rfl
    rw [hpoint]
    exact ⟨fun h => if_neg (by omega), fun h => if_pos h⟩
  · subst ht
    exact swap_tracker hlength hbase
  · subst ht
    obtain ⟨hwarn, hlimit⟩ := swap_twist hlength
    exact ⟨hwarn, hlimit, fun hwas hnow hagrees => moveCleared_judgeTwist hwas hnow hlength hagrees, byFaultsOnly_judgeTwist s⟩
  · subst ht
    obtain ⟨hrecords, hsummary, hframe, hhold⟩ := swap_faults hlength
    refine ⟨hrecords, hsummary, hframe, hhold, fun hphase ks hks => ?_⟩
    have hlog := log_fatClosed hlength
    rw [fatEnded_eq, ← hks] at hlog
    exact fun hroom => (log_fatSwap hphase).trans (hlog hroom)

end Sys2Proof.Safety
end

section
/-! SUPPORT. What the blocks of a return-lane commit leave to one another (R12): the outputs that each has written go on showing
its state. -/

set_option Elab.async false

namespace Sys2Proof.Machine

open Sys2Proof.Safety

/-! ## What a block's update leaves standing -/

/-- The block that writes output `n`, if another's update may rest on it. -/
def ownerOf (n : Nat) : Option Block :=
  if n = 35 ∨ n = 58 then some .envelope
  else if n = 40 ∨ n = 41 then some .arbiter
  else if n = 59 then some .decision
  else if n = 60 then some .sequencer
  else if n = 42 ∨ n = 43 ∨ n = 63 then some .tracker
  else if n = 45 ∨ n = 61 then some .faultOutputs
  else none

/-- What an update of a block has brought about and no other block's update undoes (R44, R58, R103, R121, R129, R138, R165). -/
def Stands (b : Block) (s : State) : Prop :=
  match b with
  | .envelope => s.pointValue 35 = s.envelope.rideThrough.code ∧ s.pointValue 58 = s.envelope.exposure
  | .thermal => s.thermal.seeded = true
  | .arbiter => s.pointValue 40 ≤ s.paidPumpSpeed ∧ s.pointValue 41 ≤ s.arbiter.fanGrant ∧
      s.arbiter.grantPumpMax = s.pumpKwMax
  | .decision => s.pointValue 59 = s.decision.mode.code
  | .sequencer => s.pointValue 60 = s.sequencer.step
  | .tracker => s.pointValue 42 = headingValue s.ppr s.tracker.heading ∧ s.pointValue 43 = s.tracker.twist ∧
      s.pointValue 63 = s.tracker.quality.code
  | .faultOutputs => s.pointValue 45 = s.summary.derate ∧ s.pointValue 61 = s.summary.severity
  | _ => True

/-- The codes that a frame's staged faults raise (R12, R19, R36, R38, R39). -/
abbrev FrameCode (k : Nat) : Prop := k ∈ [fcSlotMissing, fcSlotShort, fcMisplaced] ∨ (36 ≤ k ∧ k ≤ 47)

/-- The state but for what an update of a commit may write and for the consequences outstanding. -/
def outsideCommit (s : State) : State := { outsideOwners s with due := [] }

/-- What `Stands` and the points' and faults' parts of `CommitStep` read. -/
def commitView (s : State) : State :=
  { s with
    due := [], spotlight := none, log := { records := [], next := 0 }
    envelope := { Envelope.reset with rideThrough := s.envelope.rideThrough, exposure := s.envelope.exposure }
    thermal := { Thermal.reset with seeded := s.thermal.seeded }
    arbiter := { Arbiter.reset with
      pumpGrant := s.arbiter.pumpGrant, fanGrant := s.arbiter.fanGrant, grantPumpMax := s.arbiter.grantPumpMax }
    tracker := { Tracker.reset false false false with
      heading := s.tracker.heading, quality := s.tracker.quality, twist := s.tracker.twist }
    sequencer := { Sequencer.reset with step := s.sequencer.step }
    decision := { Decision.reset with mode := s.decision.mode } }

/-- From `s` to `t` at most block `b` has changed what its update leaves standing; inputs and free points, the counters of the
slot map and all that no update writes stand, and but for the staged faults the codes of the frame's faults. -/
structure CommitStep (b : Option Block) (s t : State) : Prop where
  rest : outsideCommit t = outsideCommit s
  hits : t.entryHits = s.entryHits
  length : t.points.length = s.points.length
  point : ∀ n, n < 32 ∨ 63 < n → t.point n = s.point n
  faults : t.faults.length = s.faults.length
  frame : ∀ k, FrameCode k → b ≠ some .stagedFaults → t.fault k = s.fault k
  stands : ∀ f, some f ≠ b → s.points.length = 256 → Stands f s → Stands f t

namespace CommitStep

variable {b : Option Block}

theorem refl (s : State) : CommitStep b s s :=
  ⟨rfl, rfl, rfl, fun _ _ => rfl, rfl, fun _ _ _ => rfl, fun _ _ _ h => h⟩

theorem trans {s t u : State} (h : CommitStep b s t) (k : CommitStep b t u) : CommitStep b s u :=
  ⟨k.rest.trans h.rest, k.hits.trans h.hits, k.length.trans h.length, fun n hn => (k.point n hn).trans (h.point n hn),
    k.faults.trans h.faults, fun c hc hb => (k.frame c hc hb).trans (h.frame c hc hb),
    fun f hf hlength hs => k.stands f hf (h.length.trans hlength) (h.stands f hf hlength hs)⟩

/-- A step that concerns no block may be taken in any block's update. -/
theorem within {s t : State} (h : CommitStep none s t) : CommitStep b s t :=
  ⟨h.rest, h.hits, h.length, h.point, h.faults, fun c hc _ => h.frame c hc (by decide), fun f _ => h.stands f (by simp)⟩

/-- What `outsideCommit` keeps field by field. -/
theorem kept {s t : State} {α : Type} (h : CommitStep b s t) (f : State → α)
    (hf : ∀ u, f (outsideCommit u) = f u := by exact fun _ => rfl) : f t = f s := eq_of_view h.rest f hf

theorem stands_of_view {s t : State} (h : commitView t = commitView s) (f : Block) (hs : Stands f s) : Stands f t := by
  have hview : ∀ {α : Type} (g : State → α), (∀ u, g (commitView u) = g u) → g t = g s := fun g hg => eq_of_view h g hg
  have hstands : Stands f t = Stands f s := hview (Stands f) fun u => by cases f <;> rfl
  rw [hstands]
  exact hs

/-- Fields that no other block reads. -/
theorem of_view {s t : State} (h : commitView t = commitView s) : CommitStep b s t where
  rest := eq_of_view h outsideCommit
  hits := eq_of_view h State.entryHits
  length := congrArg List.length (eq_of_view h State.points)
  point n _ := eq_of_view h (fun u => u.point n)
  faults := congrArg List.length (eq_of_view h State.faults)
  frame k _ _ := eq_of_view h (fun u => u.fault k)
  stands f _ _ := stands_of_view h f

theorem stands_of_points {s t : State} (hview : commitView { t with points := [] } = commitView { s with points := [] }) {f : Block}
    (hpoint : ∀ n, ownerOf n = some f → t.point n = s.point n) (hs : Stands f s) : Stands f t := by
  have hsame : commitView { t with points := s.points } = commitView s :=
    congrArg (fun v : State => { v with points := s.points }) hview
  have hmid : Stands f { t with points := s.points } := stands_of_view hsame f hs
  have hvalue : ∀ n, ownerOf n = some f → t.pointValue n = s.pointValue n := fun n hn => congrArg Point.value (hpoint n hn)
  cases f
  case envelope => exact ⟨(hvalue 35 (by decide)).trans hmid.1, (hvalue 58 (by decide)).trans hmid.2⟩
  case arbiter =>
    obtain ⟨hpump, hfan, hmax⟩ := hmid
    exact ⟨(hvalue 40 (by decide)).trans_le hpump, (hvalue 41 (by decide)).trans_le hfan, hmax⟩
  case decision => exact (hvalue 59 (by decide)).trans hmid
  case sequencer => exact (hvalue 60 (by decide)).trans hmid
  case tracker =>
    obtain ⟨hheading, htwist, hquality⟩ := hmid
    exact ⟨(hvalue 42 (by decide)).trans hheading, (hvalue 43 (by decide)).trans htwist, (hvalue 63 (by decide)).trans hquality⟩
  case faultOutputs => exact ⟨(hvalue 45 (by decide)).trans hmid.1, (hvalue 61 (by decide)).trans hmid.2⟩
  all_goals exact hmid

/-- An output written that no other block's update rests on. -/
theorem output {n : Nat} (h : ownerOf n = none ∨ ownerOf n = b) (hn : 32 ≤ n ∧ n ≤ 63) (v : Int) (s : State) :
    CommitStep b s (outputWrite n v s) where
  rest := rfl
  hits := rfl
  length := by simp
  point m hm := point_outputWrite_ne (by omega) v s
  faults := rfl
  frame _ _ _ := rfl
  stands f hf _ hs := by
    refine stands_of_points (s := s) (t := outputWrite n v s) rfl (fun m hm => point_outputWrite_ne (fun hnm => ?_) v s) hs
    subst hnm
    rcases h with h | h
    · rw [hm] at h
      cases h
    · exact hf (hm.symm.trans h)

/-! ## Raises and ends (R160, R161, R164) -/

theorem tripOn_output (s : State) : CommitStep b s (tripOn s) := by
  have hview : CommitStep b s { s with envelope := { s.envelope with limit := 0, tripSeen := true } } := of_view rfl
  exact ((hview.trans (output (.inl (by decide)) (by decide) _ _)).trans (output (.inl (by decide)) (by decide) _ _)).trans
    (output (.inl (by decide)) (by decide) _ _)

theorem tripOff_output (s : State) : CommitStep b s (tripOff s) := by
  have hview : CommitStep b s { s with envelope := { s.envelope with tripSeen := false } } := of_view rfl
  exact hview.trans (output (.inl (by decide)) (by decide) _ _)

theorem trip (on off : Bool) (s : State) : CommitStep b s (if on then tripOn s else if off then tripOff s else s) := by
  split
  · exact tripOn_output s
  · split
    · exact tripOff_output s
    · exact refl s

/-- A block's step after which its own outputs show its state as before concerns no block. -/
theorem closed {f : Block} {s t : State} (h : CommitStep (some f) s t) (hf : f ≠ .stagedFaults)
    (hstands : s.points.length = 256 → Stands f s → Stands f t) : CommitStep none s t := by
  obtain ⟨hrest, hhits, hlength, hpoint, hfaults, hframe, hothers⟩ := h
  refine ⟨hrest, hhits, hlength, hpoint, hfaults, fun k hk _ => hframe k hk (by simpa using hf), fun g _ h256 hs => ?_⟩
  by_cases hg : g = f
  · subst hg
    exact hstands h256 hs
  · exact hothers g (by simpa using hg) h256 hs

theorem summary (new : Summary) (s : State) : CommitStep (some .faultOutputs) s { s with summary := new } where
  rest := rfl
  hits := rfl
  length := rfl
  point _ _ := rfl
  faults := rfl
  frame _ _ _ := rfl
  stands f hf _ hs := by
    cases f
    case faultOutputs => exact absurd rfl hf
    all_goals exact hs

theorem writeFaultOutputs (s : State) : CommitStep (some .faultOutputs) s (writeFaultOutputs s) :=
  (output (.inr (by decide)) (by decide) _ s).trans (output (.inr (by decide)) (by decide) _ _)

theorem stands_writeFaultOutputs {s : State} (hlength : s.points.length = 256) : Stands .faultOutputs (Machine.writeFaultOutputs s) := by
  have hsecond : (Machine.writeFaultOutputs s).point 45 = (outputWrite 45 s.summary.derate s).point 45 :=
    point_outputWrite_ne (by decide) _ _
  refine ⟨?_, ?_⟩
  · rw [State.pointValue, hsecond, point_outputWrite_same (by omega)]
    rfl
  · refine congrArg Point.value (point_outputWrite_same ?_ _)
    rw [length_outputWrite]
    omega

/-- The summary formed anew and shown where it has changed (R164, R165). -/
def showSummary (new : Summary) (s : State) : State :=
  if s.summary.derate ≠ new.derate ∨ s.summary.severity ≠ new.severity then Machine.writeFaultOutputs { s with summary := new }
  else { s with summary := new }

theorem showSummary_step (new : Summary) (s : State) : CommitStep none s (showSummary new s) := by
  unfold showSummary
  split
  · exact ((summary new s).trans (writeFaultOutputs _)).closed (by decide)
      fun hlength _ => stands_writeFaultOutputs (s := { s with summary := new }) hlength
  next hsame =>
    rw [not_or, not_not, not_not] at hsame
    obtain ⟨hderate, hseverity⟩ := hsame
    refine (summary new s).closed (by decide) fun _ hs => ?_
    obtain ⟨h45, h61⟩ := hs
    exact ⟨h45.trans (congrArg Nat.cast hderate), h61.trans (congrArg Nat.cast hseverity)⟩

theorem recompute (s : State) : CommitStep none s (recompute s) :=
  (showSummary_step s.formSummary s).trans (trip _ _ _)

theorem record {s t : State} (h : outsideFaults t = outsideFaults s) (hlength : t.faults.length = s.faults.length)
    (hframe : ∀ k, FrameCode k → b ≠ some .stagedFaults → t.fault k = s.fault k) : CommitStep b s t where
  rest := eq_of_view h outsideCommit
  hits := eq_of_view h State.entryHits
  length := congrArg List.length (eq_of_view h State.points)
  point n _ := eq_of_view h (fun u => u.point n)
  faults := hlength
  frame := hframe
  stands f _ _ hs := by
    have hstands : Stands f t = Stands f s := eq_of_view h (Stands f) (fun u => by cases f <;> rfl)
    rw [hstands]
    exact hs

theorem recomputeSince {s t : State} (h : CommitStep b s t) (before : State) :
    CommitStep b s (recomputeSince before t) := by
  unfold Machine.recomputeSince
  split
  · exact h
  · exact h.trans (recompute t).within

theorem frameCode_ne {k : Nat} (h : FrameCode k) : k ≠ fcSeekFailed ∧ k ≠ fcLogOverwrite := by
  simp only [FrameCode, List.mem_cons, List.not_mem_nil, or_false, fcSlotMissing, fcSlotShort, fcMisplaced, fcSeekFailed,
    fcLogOverwrite] at h ⊢
  omega

theorem raiseQuiet {k : Nat} (hk : ¬ FrameCode k ∨ b = some .stagedFaults) (c : Int) (s : State) :
    CommitStep b s (raiseQuiet k c s) := by
  refine (record (Managed.refl.raised k c).outside (Managed.refl.raised k c).faults_length fun j hj hb => ?_).recomputeSince s
  have hne : j ≠ k := fun h => hk.elim (fun hno => hno (h ▸ hj)) hb
  exact fault_raiseRecord_ne hne (frameCode_ne hj).2 c s

theorem endQuiet {k : Nat} (hk : ¬ FrameCode k ∨ b = some .stagedFaults) (s : State) : CommitStep b s (endQuiet k s) := by
  refine (record (Managed.refl.ended k).outside (Managed.refl.ended k).faults_length fun j hj hb => ?_).recomputeSince s
  have hne : j ≠ k := fun h => hk.elim (fun hno => hno (h ▸ hj)) hb
  exact fault_endRecord_ne hne (frameCode_ne hj).2 s

theorem judgeQuiet {k : Nat} (hk : ¬ FrameCode k ∨ b = some .stagedFaults) (present : Bool) (c : Int) (s : State) :
    CommitStep b s (judgeQuiet k present c s) := by
  unfold Machine.judgeQuiet
  split
  · exact raiseQuiet hk c s
  · split
    · exact endQuiet hk s
    · exact refl s

/-! ## The end of a move (R132, R137, R145, R146) -/

/-- YAW_MODE written with the mode set (R138). -/
theorem mode (d : Decision) (s : State) : CommitStep (some .decision) s { s with decision := d } where
  rest := rfl
  hits := rfl
  length := rfl
  point _ _ := rfl
  faults := rfl
  frame _ _ _ := rfl
  stands f hf _ hs := by
    cases f
    case decision => exact absurd rfl hf
    all_goals exact hs

theorem setYawMode (m : YawMode) (s : State) : CommitStep none s (setYawMode m s) := by
  refine ((mode { s.decision with mode := m, stormEnter := 0, stormExit := 0 } s).trans
    (output (n := 59) (.inr (by decide)) (by decide) m.code _)).closed (by decide) fun hlength _ => ?_
  exact congrArg Point.value (point_outputWrite_same (by exact hlength ▸ (by decide : 59 < 256)) _)

theorem blockRefused (s : State) : CommitStep none s (blockRefused s) := by
  have hset : CommitStep none s { s with decision := { s.decision with blocked := true } } := of_view rfl
  unfold Machine.blockRefused
  dsimp only
  refine CommitStep.trans ?_ (judgeQuiet (.inl (by decide)) _ _ _)
  split
  · exact hset.trans (judgeQuiet (.inl (by decide)) _ _ _)
  · exact hset

theorem decisionMoveEnd (mode : YawMode) (cause : EndCause) (s : State) : CommitStep none s (decisionMoveEnd mode cause s) := by
  have hseek : ∀ u : State, CommitStep none s u → CommitStep none s (if mode = .seek ∧ u.decision.mode = .seek then
      Machine.setYawMode .hold (Machine.raiseQuiet fcSeekFailed u.tracker.heading u) else u) := by
    intro u hu
    split
    · exact hu.trans ((raiseQuiet (.inl (by decide)) _ _).trans (setYawMode ..))
    · exact hu
  have hdwell : CommitStep none s { s with decision := { s.decision with startDwell := 0 } } := of_view rfl
  unfold Machine.decisionMoveEnd
  apply hseek
  split
  · exact hdwell.trans (blockRefused _)
  · exact hdwell

/-! ## Entries into steps (R128, R131) -/

/-- The output pattern of a step, but for the step's own number. -/
theorem pattern (k : Nat) (s : State) : ∃ u : State, CommitStep none s u ∧ writePattern k s = outputWrite 60 k u :=
  ⟨_, ((((output (.inl (by decide)) (by decide) _ s).trans (output (.inl (by decide)) (by decide) _ _)).trans
    (output (.inl (by decide)) (by decide) _ _)).trans (output (.inl (by decide)) (by decide) _ _)), rfl⟩

theorem step (q : Sequencer) (s : State) : CommitStep (some .sequencer) s { s with sequencer := q } where
  rest := rfl
  hits := rfl
  length := rfl
  point _ _ := rfl
  faults := rfl
  frame _ _ _ := rfl
  stands f hf _ hs := by
    cases f
    case sequencer => exact absurd rfl hf
    all_goals exact hs

/-- The output pattern of step `k` written and the step entered. -/
theorem patternEntered {k : Nat} {q : Sequencer} (hq : q.step = k) (s : State) :
    CommitStep none s { writePattern k s with sequencer := q } ∧
    (s.points.length = 256 → Stands .sequencer { writePattern k s with sequencer := q }) := by
  obtain ⟨u, hu, hwritten⟩ := pattern k s
  rw [hwritten]
  have hshown : u.points.length = 256 → Stands .sequencer { outputWrite 60 k u with sequencer := q } := fun hlength => by
    have hvalue : (outputWrite 60 (k : Int) u).pointValue 60 = k :=
      congrArg Point.value (point_outputWrite_same (by omega) _)
    exact hvalue.trans (congrArg Nat.cast hq.symm)
  refine ⟨hu.trans (((output (n := 60) (.inr (by decide)) (by decide) k u).trans (step q _)).closed (by decide)
    fun hlength _ => hshown hlength), fun hlength => hshown (hu.length.trans hlength)⟩

theorem trackerStepEntry (k : Nat) (motion : Bool) (d : Int) (s : State) : CommitStep none s (trackerStepEntry k motion d s) := by
  unfold Machine.trackerStepEntry startEdgeTimer
  split
  · exact of_view rfl
  · split
    · exact of_view rfl
    · exact of_view rfl

theorem enterParked (s : State) : CommitStep none s (enterParked s) :=
  (patternEntered (q := { (writePattern 0 s).sequencer with step := 0, commits := 0, counts := 0 }) rfl s).1.trans
    (trackerStepEntry ..)

theorem endMove (cause : EndCause) (s : State) : CommitStep none s (endMove cause s) := by
  have hremoved : ∀ u : State, CommitStep none u { u with
      sequencer := { u.sequencer with record := none, phase := .none }
      arbiter := { u.arbiter with yawClaim := none, yawGrant := none } } := fun u => of_view rfl
  unfold Machine.endMove
  split
  · exact refl s
  · refine CommitStep.trans ?_ (decisionMoveEnd ..)
    split
    · exact hremoved s
    · exact (enterParked s).trans (hremoved _)

theorem abortMove (s : State) : CommitStep none s (abortMove s) := by
  unfold Machine.abortMove
  split
  · exact refl s
  · exact endMove ..

theorem handHold (before : Bool) (s : State) : CommitStep none s (handHold before s) := by
  unfold Machine.handHold
  split
  · exact abortMove s
  · exact refl s

theorem enterStepOnce (k : Nat) (start : Option Bool) (s : State) : CommitStep none s (enterStepOnce k start s) := by
  have hstart : ∀ (resume : Bool) (u : State), CommitStep none u (trackerMoveStart resume u) := fun resume u => of_view rfl
  have hentered : CommitStep none s { writePattern k s with
      sequencer := { (writePattern k s).sequencer with step := k, commits := 0, counts := 0 } } :=
    (patternEntered (q := { (writePattern k s).sequencer with step := k, commits := 0, counts := 0 }) rfl s).1
  unfold Machine.enterStepOnce
  generalize writePattern k s = p at hentered ⊢
  have hmotion : ∀ (m : Bool) (d : Int) (u : State), CommitStep none s u → CommitStep none s (Machine.trackerStepEntry k m d u) :=
    fun m d u hu => hu.trans (trackerStepEntry k m d u)
  cases start with
  | none => exact hmotion _ _ _ hentered
  | some resume => exact hmotion _ _ _ (hentered.trans (hstart resume _))

theorem enterStepChain (fuel k : Nat) (start : Option Bool) (s : State) : CommitStep none s (enterStepChain fuel k start s) := by
  induction fuel generalizing k start s with
  | zero => exact refl s
  | succ fuel ih =>
    by_cases hk : k = 0
    · rw [Machine.enterStepChain, if_pos hk]
      exact (enterParked s).trans (endMove .completed (Machine.enterParked s))
    · rw [enterStepChain_succ hk]
      split
      · exact (enterStepOnce k start s).trans (ih ..)
      · exact enterStepOnce k start s

/-! ## Raises and ends, whole (R154, R164, R137) -/

theorem raise {k : Nat} (hk : ¬ FrameCode k ∨ b = some .stagedFaults) (c : Int) (s : State) : CommitStep b s (raise k c s) :=
  (raiseQuiet hk c s).trans (handHold ..).within

theorem endCondition {k : Nat} (hk : ¬ FrameCode k ∨ b = some .stagedFaults) (s : State) : CommitStep b s (endCondition k s) :=
  (endQuiet hk s).trans (handHold ..).within

theorem judge {k : Nat} (hk : ¬ FrameCode k) (present : Bool) (c : Int) (s : State) : CommitStep b s (judge k present c s) := by
  unfold Machine.judge
  split
  · exact raise (.inl hk) c s
  · split
    · exact endCondition (.inl hk) s
    · exact refl s

theorem raiseAll (fs : List (Nat × Int)) (s : State) : CommitStep (some .stagedFaults) s (raiseAll fs s) := by
  unfold Machine.raiseAll
  induction fs generalizing s with
  | nil => exact refl s
  | cons f fs ih => exact (raise (.inr rfl) ..).trans (ih _)

end CommitStep

end Sys2Proof.Machine
end

section
/-! SUPPORT. Each block's update as a step of the commit, and what it leaves standing (R12). -/

set_option Elab.async false

namespace Sys2Proof.Machine

open Sys2Proof.Safety

namespace CommitStep

variable {b : Option Block}

/-! ## The decision (R138 to R142) -/

theorem judgeTwistLimit (s : State) : CommitStep none s (judgeTwistLimit s) := by
  unfold Machine.judgeTwistLimit
  dsimp only
  split
  · exact (judge (by decide) ..).trans (abortMove _)
  · exact judge (by decide) ..

theorem judgeTwist (s : State) : CommitStep none s (judgeTwist s) := (judge (by decide) ..).trans (judgeTwistLimit _)

theorem setBlock (v : Bool) (s : State) : CommitStep none s (setBlock v s) := by
  have hset : CommitStep none s { s with decision := { s.decision with blocked := v } } := of_view rfl
  unfold Machine.setBlock
  dsimp only
  split
  · exact hset.trans (judgeTwist _)
  · exact hset.trans (judgeTwistLimit _)

theorem setDwell (n : Nat) (s : State) : CommitStep none s (setDwell n s) := of_view rfl

theorem takeMove (r : MoveRecord) (s : State) : CommitStep none s (takeMove r s) := by
  unfold Machine.takeMove
  split
  · exact of_view rfl
  · exact refl s

theorem handMove (c : Int) (target : TargetKind) (s : State) : CommitStep none s (handMove c target s) := by
  unfold Machine.handMove
  dsimp only
  split
  · exact setBlock false s
  · exact (setBlock false s).trans (takeMove ..)

theorem planMove (c : Int) (target : TargetKind) (exempt : Bool) (s : State) : CommitStep none s (planMove c target exempt s) := by
  unfold Machine.planMove
  split_ifs
  · exact refl s
  · exact refl s
  · exact raise (.inl (by decide)) ..
  · exact handMove ..
  · split
    · exact handMove ..
    · exact setBlock true s

theorem modeChanges (windTaken : Bool) (s : State) : CommitStep none s (modeChanges windTaken s) := by
  unfold Machine.modeChanges
  dsimp only
  split
  · refine iteInduction (fun _ => (setYawMode ..).trans (judge (by decide) ..)) (fun _ => ?_)
    exact iteInduction (fun _ => setYawMode ..) (fun _ => refl s)
  · split
    · exact (setYawMode ..).trans (judge (by decide) ..)
    · exact refl s
  · split
    · exact setYawMode ..
    · exact refl s
  · exact refl s

theorem windPlanning (s : State) : CommitStep none s (windPlanning s) := by
  unfold Machine.windPlanning
  dsimp only
  split
  · exact setDwell ..
  · split
    · exact setDwell ..
    · exact iteInduction (fun _ => ((setDwell ..).trans (planMove ..)).trans (setDwell ..)) (fun _ => setDwell ..)

theorem planning (dirTaken : Bool) (s : State) : CommitStep none s (planning dirTaken s) := by
  unfold Machine.planning
  split
  · split
    · exact windPlanning s
    · exact refl s
  · split
    · exact windPlanning s
    · exact refl s
  · split
    · exact planMove ..
    · exact refl s
  · exact refl s

/-- YAW_MODE refreshed; what follows in the update keeps it so (R138). -/
theorem decisionUpdate (written : List Nat) (s : State) : CommitStep (some .decision) s (decisionUpdate written s) ∧
    (s.points.length = 256 → Stands .decision (decisionUpdate written s)) := by
  have hshown : s.points.length = 256 → Stands .decision (outputWrite 59 s.decision.mode.code s) := fun hlength =>
    congrArg Point.value (point_outputWrite_same (by omega) _)
  have hwritten : CommitStep (some .decision) s (outputWrite 59 s.decision.mode.code s) :=
    output (.inr (by decide)) (by decide) _ s
  have hwind : ∀ (p : Bool) (u : State), CommitStep none u (if p then windUpdate u else u) := by
    intro p u
    split
    · exact of_view rfl
    · exact refl u
  have hmisalign : ∀ (p : Bool) (u : State), CommitStep none u (if p then misalignUpdate u else u) := by
    intro p u
    split
    · exact of_view rfl
    · exact refl u
  have hrest : CommitStep none (outputWrite 59 s.decision.mode.code s) (Machine.decisionUpdate written s) :=
    ((((hwind (s.takes written 5) _).trans (hmisalign (s.takes written 4) _)).trans (judgeTwist _)).trans
      (modeChanges _ _)).trans (planning _ _)
  exact ⟨hwritten.trans hrest.within, fun hlength => hrest.stands _ (by decide) (by simpa using hlength) (hshown hlength)⟩

/-! ## The envelope unit (R52 to R70) -/

theorem envelope (e : Envelope) (s : State) : CommitStep (some .envelope) s { s with envelope := e } where
  rest := rfl
  hits := rfl
  length := rfl
  point _ _ := rfl
  faults := rfl
  frame _ _ _ := rfl
  stands f hf _ hs := by
    cases f
    case envelope => exact absurd rfl hf
    all_goals exact hs

theorem enterTripped {ended : Nat} (he : ¬ FrameCode ended) (v : Int) (s : State) :
    CommitStep (some .envelope) s (enterTripped ended v s) :=
  ((envelope _ s).trans (judge he ..)).trans (judge (by decide) ..)

theorem enterSag (v : Int) (s : State) : CommitStep (some .envelope) s (enterSag v s) :=
  (envelope _ s).trans (judge (by decide) ..)

theorem enterSwell (v : Int) (s : State) : CommitStep (some .envelope) s (enterSwell v s) :=
  (envelope _ s).trans (judge (by decide) ..)

theorem rideThroughUpdate (s : State) : CommitStep (some .envelope) s (rideThroughUpdate s) := by
  have htaken := envelope { s.envelope with
    history := enterVoltage (s.pointValue 0) s.envelope.history
    vAvg := some (averageOf (figure s.drtG 6) (enterVoltage (s.pointValue 0) s.envelope.history)) } s
  unfold Machine.rideThroughUpdate
  dsimp only
  refine htaken.trans ?_
  generalize averageOf (figure s.drtG 6) (enterVoltage (s.pointValue 0) s.envelope.history) = v
  generalize { s with envelope := { s.envelope with
    history := enterVoltage (s.pointValue 0) s.envelope.history, vAvg := some v } } = u
  split
  · unfold normalRule
    split_ifs
    · exact enterSag ..
    · exact enterSwell ..
    · exact refl u
  · unfold sagRule
    dsimp only
    split_ifs
    · exact (envelope _ u).trans (enterTripped (by decide) ..)
    · exact ((envelope _ u).trans (envelope _ _)).trans (judge (by decide) ..)
    · exact envelope _ u
  · unfold swellRule
    dsimp only
    split_ifs
    · exact (envelope _ u).trans (enterTripped (by decide) ..)
    · exact ((envelope _ u).trans (envelope _ _)).trans (judge (by decide) ..)
    · exact envelope _ u
  · unfold recoveryRule
    dsimp only
    split_ifs
    · exact (envelope _ u).trans (enterSag ..)
    · exact (envelope _ u).trans (enterSwell ..)
    · exact (envelope _ u).trans (envelope _ _)
    · exact envelope _ u
  · unfold trippedRule
    dsimp only
    split_ifs
    · exact judge (by decide) ..
    · exact (judge (by decide) ..).trans (envelope _ _)

/-- The envelope's outputs (R58). -/
theorem writeEnvelope (factor : Int) (s : State) : CommitStep (some .envelope) s (writeEnvelope factor s) ∧
    (s.points.length = 256 → Stands .envelope (writeEnvelope factor s)) := by
  obtain ⟨u, hu, hu35, hwritten⟩ : ∃ u : State, CommitStep (some .envelope) s u ∧
      (s.points.length = 256 → u.pointValue 35 = s.envelope.rideThrough.code) ∧
      Machine.writeEnvelope factor s = outputWrite 58 s.envelope.exposure (outputWrite 62 factor u) := by
    refine ⟨_, ?_, ?_, rfl⟩
    · exact (((output (.inl (by decide)) (by decide) _ s).trans (output (.inl (by decide)) (by decide) _ _)).trans
        (output (.inl (by decide)) (by decide) _ _)).trans (output (.inr (by decide)) (by decide) _ _)
    · exact fun hlength => congrArg Point.value (point_outputWrite_same (by simp [hlength]) _)
  rw [hwritten]
  have hthrottle : CommitStep (some .envelope) u (outputWrite 62 factor u) := output (.inl (by decide)) (by decide) factor u
  refine ⟨(hu.trans hthrottle).trans (output (.inr (by decide)) (by decide) _ _), fun hlength => ⟨?_, ?_⟩⟩
  · have hkept : (outputWrite 58 (s.envelope.exposure : Int) (outputWrite 62 factor u)).point 35 = u.point 35 :=
      (point_outputWrite_ne (by decide) _ _).trans (point_outputWrite_ne (by decide) _ _)
    have henvelope : u.envelope.rideThrough = s.envelope.rideThrough := by
      have h := congrArg State.envelope hwritten
      exact (congrArg Envelope.rideThrough h).symm
    exact (congrArg Point.value hkept).trans ((hu35 hlength).trans (by rw [← henvelope]; rfl))
  · have hsize : (outputWrite 62 factor u).points.length = 256 := (hthrottle.length.trans hu.length).trans hlength
    have henvelope : u.envelope.exposure = s.envelope.exposure := by
      have h := congrArg State.envelope hwritten
      exact (congrArg Envelope.exposure h).symm
    refine (congrArg Point.value (point_outputWrite_same (by omega) _)).trans ?_
    exact congrArg Nat.cast henvelope.symm

/-- The outputs written from the envelope; the judgement behind them keeps them (R58, R84). -/
theorem envelopeUpdate (written : List Nat) (s : State) : CommitStep (some .envelope) s (envelopeUpdate written s) ∧
    (s.points.length = 256 → Stands .envelope (envelopeUpdate written s)) := by
  have hride : CommitStep (some .envelope) s
      (if written.contains 0 || (s.point 0).quality == .forced then Machine.rideThroughUpdate s else s) := by
    split
    · exact rideThroughUpdate s
    · exact refl s
  unfold Machine.envelopeUpdate
  dsimp only
  generalize (if written.contains 0 || (s.point 0).quality == .forced then Machine.rideThroughUpdate s else s) = u at hride ⊢
  have hlimited := hride.trans (envelope { u.envelope with
    limit := newLimit (u.iRated * u.envelopeFactor.toNat / 32768) u.envelope.limit u.rampStep u.envelope.tripSeen
    lastSagFactor := if u.envelope.rideThrough = .sag then u.gridFactor.toNat else u.envelope.lastSagFactor } u)
  obtain ⟨hwritten, hshown⟩ := writeEnvelope u.envelopeFactor { u with envelope := { u.envelope with
    limit := newLimit (u.iRated * u.envelopeFactor.toNat / 32768) u.envelope.limit u.rampStep u.envelope.tripSeen
    lastSagFactor := if u.envelope.rideThrough = .sag then u.gridFactor.toNat else u.envelope.lastSagFactor } }
  have hjudged : ∀ (p : Bool) (c : Int) (v : State), CommitStep none v (Machine.judge fcThermalDerate p c v) :=
    fun p c v => judge (by decide) p c v
  refine ⟨(hlimited.trans hwritten).trans (hjudged _ _ _).within, fun hlength => ?_⟩
  have hlength' := hlimited.length.trans hlength
  exact (hjudged _ _ _).stands _ (by decide) (hwritten.length.trans hlength') (hshown hlength')

/-! ## The thermal unit (R76 to R92) -/

theorem thermal (h : Thermal) (s : State) : CommitStep (some .thermal) s { s with thermal := h } where
  rest := rfl
  hits := rfl
  length := rfl
  point _ _ := rfl
  faults := rfl
  frame _ _ _ := rfl
  stands f hf _ hs := by
    cases f
    case thermal => exact absurd rfl hf
    all_goals exact hs

theorem ownerOf_module {m : Nat} (hm : m < 12) : ownerOf (46 + m) = none := by
  rw [ownerOf, if_neg (by omega), if_neg (by omega), if_neg (by omega), if_neg (by omega), if_neg (by omega), if_neg (by omega)]

theorem moduleUpdate (s : State) {m : Nat} (hm : m < 12) : CommitStep none s (moduleUpdate s m) := by
  unfold Machine.moduleUpdate
  dsimp only
  split
  · have hrise : ∀ rises : List Int, CommitStep none s { s with thermal := { s.thermal with rises := rises } } :=
      fun rises => of_view rfl
    exact (hrise _).trans (output (.inl (ownerOf_module hm)) (by omega) _ _)
  · exact refl s

theorem modulesUpdate (ms : List Nat) (hms : ∀ m ∈ ms, m < 12) (s : State) : CommitStep none s (ms.foldl Machine.moduleUpdate s) := by
  induction ms generalizing s with
  | nil => exact refl s
  | cons m ms ih => exact (moduleUpdate s (hms m List.mem_cons_self)).trans (ih (fun k hk => hms k (List.mem_cons_of_mem _ hk)) _)

/-- The rises are seeded at the first update after a reset (R77). -/
def risesSeeded (s : State) : State :=
  if s.thermal.seeded then s
  else { s with thermal := { s.thermal with rises := List.replicate 12 ((figure s.thm 4 : Nat) : Int), seeded := true } }

theorem risesSeeded_step (s : State) : CommitStep (some .thermal) s (risesSeeded s) ∧ Stands .thermal (risesSeeded s) := by
  unfold risesSeeded
  split
  next h => exact ⟨refl s, h⟩
  · exact ⟨thermal _ s, rfl⟩

theorem junctionUpdate (s : State) : CommitStep (some .thermal) s (junctionUpdate s) ∧
    (s.points.length = 256 → Stands .thermal (junctionUpdate s)) := by
  obtain ⟨hseeded, hstands⟩ := risesSeeded_step s
  have hmodules := modulesUpdate (List.range 12) (fun m hm => List.mem_range.1 hm) (risesSeeded s)
  have hhottest : ∀ u : State, CommitStep none u (match u.hottest with
      | some t => outputWrite 44 t u
      | none => u) := by
    intro u
    split
    · exact output (.inl (by decide)) (by decide) _ u
    · exact refl u
  have hrest : CommitStep none (risesSeeded s) (Machine.junctionUpdate s) := hmodules.trans (hhottest _)
  exact ⟨hseeded.trans hrest.within, fun hlength => hrest.stands _ (by decide) (hseeded.length.trans hlength) hstands⟩

theorem judgeLive {k : Nat} (hk : ¬ FrameCode k) (point : Nat) (present : Int → Bool) (s : State) :
    CommitStep none s (judgeLive k point present s) := by
  unfold Machine.judgeLive
  dsimp only
  split
  · exact judge hk ..
  · exact refl s

theorem thermalConditions (s : State) : CommitStep none s (thermalConditions s) := by
  unfold Machine.thermalConditions
  dsimp only
  exact ((judge (by decide) ..).trans (judgeLive (by decide) ..)).trans (judgeLive (by decide) ..)

theorem pumpWrite (interval : Nat) (v : Int) (s : State) : CommitStep (some .arbiter) s (pumpWrite interval v s) := by
  have hcountdown : ∀ (c : Option Nat) (u : State), CommitStep (some .arbiter) u { u with thermal := { u.thermal with idleCountdown := c } } :=
    fun c u => of_view rfl
  exact (output (.inr (by decide)) (by decide) v s).trans (hcountdown _ _)

theorem point_pumpWrite_same {s : State} (hlength : s.points.length = 256) (interval : Nat) (v : Int) :
    (Machine.pumpWrite interval v s).pointValue 40 = v := congrArg Point.value (point_outputWrite_same (by omega) v)

theorem point_pumpWrite_ne (interval : Nat) (v : Int) (s : State) :
    (Machine.pumpWrite interval v s).pointValue 41 = s.pointValue 41 :=
  congrArg Point.value (point_outputWrite_ne (s := s) (n := 40) (m := 41) (by decide) v)

/-- The pump command moved and its claim registered, before PUMP_SPEED is written (R86, R87). -/
def pumpClaimed (s : State) : State :=
  { s with
    thermal := { s.thermal with
      pumpCommand := slewTo (figure s.thm 21) s.pumpTarget s.thermal.pumpCommand
      exercise := if 0 < s.curveDemand then none else s.thermal.exercise }
    arbiter := { s.arbiter with
      pumpClaim := ceilDiv (s.pumpKwMax * slewTo (figure s.thm 21) s.pumpTarget s.thermal.pumpCommand) 1000 } }

/-- The pump is not run faster than the grant pays for under the ACTIVE limits (R88). -/
theorem pumpUpdate (s : State) : CommitStep none s (pumpUpdate s) := by
  have hclaimed : CommitStep none s (pumpClaimed s) := of_view rfl
  have hwritten : Machine.pumpUpdate s = Machine.pumpWrite s.exerciseInterval
      (min (slewTo (figure s.thm 21) s.pumpTarget s.thermal.pumpCommand) (s.arbiter.pumpGrant * 1000 / s.pumpKwMax) : Nat)
      (pumpClaimed s) := rfl
  rw [hwritten]
  refine hclaimed.trans ((pumpWrite _ _ _).closed (by decide) fun hlength hs => ?_)
  obtain ⟨-, hfan, hmax⟩ := hs
  refine ⟨?_, (point_pumpWrite_ne _ _ _).trans_le hfan, hmax⟩
  rw [point_pumpWrite_same hlength]
  have hpaid : (s.arbiter.pumpGrant * 1000 / s.pumpKwMax : Nat) = s.arbiter.pumpGrant * 1000 / s.arbiter.grantPumpMax := by
    rw [show s.arbiter.grantPumpMax = s.pumpKwMax from hmax]
  show _ ≤ ((s.arbiter.pumpGrant * 1000 / s.arbiter.grantPumpMax : Nat) : Int)
  rw [hpaid]
  exact Int.ofNat_le.2 (Nat.min_le_right ..)

/-- The fan stage requested and its claim registered, before FAN_STAGE is written (R91). -/
def fanClaimed (s : State) : State :=
  { s with
    thermal := { s.thermal with fanRequest := s.nextFanStage }
    arbiter := { s.arbiter with fanClaim := s.nextFanStage } }

/-- The fans do not run at a higher stage than is granted (R92). -/
theorem fanUpdate (s : State) : CommitStep none s (fanUpdate s) := by
  have hclaimed : CommitStep none s (fanClaimed s) := of_view rfl
  have hwritten : Machine.fanUpdate s =
      outputWrite 41 ((min s.nextFanStage (fanClaimed s).arbiter.fanGrant : Nat) : Int) (fanClaimed s) := rfl
  rw [hwritten]
  generalize fanClaimed s = u at hclaimed ⊢
  refine hclaimed.trans ((output (n := 41) (b := some .arbiter) (.inr (by decide)) (by decide) _ u).closed (by decide)
    fun hlength hs => ?_)
  obtain ⟨hpump, -, hmax⟩ := hs
  have hother : (outputWrite 41 ((min s.nextFanStage u.arbiter.fanGrant : Nat) : Int) u).pointValue 40 = u.pointValue 40 :=
    congrArg Point.value (point_outputWrite_ne (by decide) _ u)
  have hown : (outputWrite 41 ((min s.nextFanStage u.arbiter.fanGrant : Nat) : Int) u).pointValue 41 =
      ((min s.nextFanStage u.arbiter.fanGrant : Nat) : Int) :=
    congrArg Point.value (point_outputWrite_same (by omega) _)
  exact ⟨hother.trans_le hpump, hown.trans_le (Int.ofNat_le.2 (Nat.min_le_right ..)), hmax⟩

theorem thermalUpdate (s : State) : CommitStep (some .thermal) s (thermalUpdate s) ∧
    (s.points.length = 256 → Stands .thermal (thermalUpdate s)) := by
  obtain ⟨hjunction, hshown⟩ := junctionUpdate s
  have hrest : CommitStep none (Machine.junctionUpdate s) (Machine.thermalUpdate s) :=
    ((thermalConditions _).trans (pumpUpdate _)).trans (fanUpdate _)
  exact ⟨hjunction.trans hrest.within, fun hlength => hrest.stands _ (by decide) (hjunction.length.trans hlength) (hshown hlength)⟩

/-! ## The arbiter (R98 to R105) -/

theorem grants (a : Arbiter) (s : State) : CommitStep (some .arbiter) s { s with arbiter := a } where
  rest := rfl
  hits := rfl
  length := rfl
  point _ _ := rfl
  faults := rfl
  frame _ _ _ := rfl
  stands f hf _ hs := by
    cases f
    case arbiter => exact absurd rfl hf
    all_goals exact hs

theorem lowerPump (s : State) : CommitStep (some .arbiter) s (lowerPump s) := by
  unfold Machine.lowerPump
  split
  · exact pumpWrite ..
  · exact refl s

theorem lowerFan (s : State) : CommitStep (some .arbiter) s (lowerFan s) := by
  unfold Machine.lowerFan
  split
  · exact output (.inr (by decide)) (by decide) _ s
  · exact refl s

theorem stands_lowered {s : State} (hlength : s.points.length = 256) (hmax : s.arbiter.grantPumpMax = s.pumpKwMax) :
    Stands .arbiter (Machine.lowerFan (Machine.lowerPump s)) := by
  have hpump : (Machine.lowerPump s).pointValue 40 ≤ s.paidPumpSpeed ∧ (Machine.lowerPump s).points.length = 256 ∧
      (Machine.lowerPump s).arbiter = s.arbiter ∧ (Machine.lowerPump s).banks = s.banks := by
    unfold Machine.lowerPump
    split
    next => exact ⟨(point_pumpWrite_same hlength _ _).le, ((pumpWrite ..).length).trans hlength, rfl, rfl⟩
    next h => exact ⟨not_lt.1 h, hlength, rfl, rfl⟩
  generalize Machine.lowerPump s = u at hpump ⊢
  obtain ⟨hpaid, hlength', harbiter, hbanks⟩ := hpump
  have hfan : (Machine.lowerFan u).pointValue 41 ≤ u.arbiter.fanGrant ∧ (Machine.lowerFan u).pointValue 40 = u.pointValue 40 ∧
      (Machine.lowerFan u).arbiter = u.arbiter ∧ (Machine.lowerFan u).banks = u.banks := by
    unfold Machine.lowerFan
    split
    next =>
      exact ⟨(congrArg Point.value (point_outputWrite_same (by omega) _)).le,
        congrArg Point.value (point_outputWrite_ne (by decide) _ u), rfl, rfl⟩
    next h => exact ⟨not_lt.1 h, rfl, rfl, rfl⟩
  generalize Machine.lowerFan u = v at hfan ⊢
  obtain ⟨hstage, hkept, harbiter', hbanks'⟩ := hfan
  rw [harbiter] at harbiter' hstage
  have hactive : v.pumpKwMax = s.pumpKwMax := by
    simp only [State.pumpKwMax, State.plt, State.active, hbanks', hbanks]
  refine ⟨?_, ?_, ?_⟩
  · rw [State.paidPumpSpeed, harbiter', hkept]
    exact hpaid
  · rw [harbiter']
    exact hstage
  · rw [harbiter', hactive]
    exact hmax

theorem withdrawGrant (s : State) : CommitStep none s (withdrawGrant s) := by
  have hparked : ∀ u : State, CommitStep none u { u with sequencer := { u.sequencer with phase := .parked } } := fun u => of_view rfl
  have hwithdrawn : ∀ u : State, CommitStep none u (withdrawMove u) := by
    intro u
    unfold withdrawMove
    split
    · split
      · exact endMove ..
      · exact (enterParked u).trans (hparked _)
    · exact refl u
  unfold Machine.withdrawGrant
  split
  · exact (raise (.inl (by decide)) ..).trans (hwithdrawn _)
  · exact refl s

theorem gainGrant (s : State) : CommitStep none s (gainGrant s) := by
  have hrunning : CommitStep none s { s with sequencer := { s.sequencer with phase := .running } } := of_view rfl
  unfold Machine.gainGrant
  split
  · exact refl s
  · split
    · split
      · exact hrunning.trans (enterStepChain ..)
      · exact endMove ..
    · exact refl s

theorem handGrant (held : Bool) (s : State) : CommitStep none s (handGrant held s) := by
  unfold Machine.handGrant
  split
  · exact withdrawGrant s
  · split
    · exact gainGrant s
    · exact refl s

/-- The grants written and the outputs lowered to them; the hand-over and AUX_SHORT keep them so (R103 to R105). -/
theorem arbiterEvaluate (s : State) : CommitStep (some .arbiter) s (arbiterEvaluate s) ∧
    (s.points.length = 256 → Stands .arbiter (arbiterEvaluate s)) := by
  have hgranted : CommitStep (some .arbiter) s (writeGrants s) := grants _ s
  have hlowered := (lowerPump (writeGrants s)).trans (lowerFan _)
  have hrest : CommitStep none (Machine.lowerFan (Machine.lowerPump (writeGrants s))) (Machine.arbiterEvaluate s) :=
    (handGrant _ _).trans (judge (k := fcAuxShort) (by decide) ..)
  exact ⟨(hgranted.trans hlowered).trans hrest.within, fun hlength =>
    hrest.stands _ (by decide) ((hgranted.trans hlowered).length.trans hlength)
      (stands_lowered (s := writeGrants s) hlength rfl)⟩

/-! ## The sequencer (R129, R130) -/

theorem enterStep (k : Nat) (s : State) : CommitStep none s (enterStep k s) := enterStepChain ..

theorem stepTimeout (s : State) : CommitStep none s (stepTimeout s) := by
  unfold Machine.stepTimeout
  dsimp only
  split
  · exact refl s
  · split
    · exact (raise (.inl (by decide)) ..).trans (enterStep ..)
    · exact raise (.inl (by decide)) ..

/-- The output pattern refreshed; what a trigger or the timeout brings keeps the step shown (R129, R130). -/
theorem sequencerCommit (defer : Bool) (s : State) : CommitStep (some .sequencer) s (sequencerCommit defer s) ∧
    (s.points.length = 256 → Stands .sequencer (sequencerCommit defer s)) := by
  obtain ⟨hwritten, hshown⟩ := patternEntered (k := s.sequencer.step) (q := s.sequencer) rfl s
  have hsame : ({ writePattern s.sequencer.step s with sequencer := s.sequencer } : State) = writePattern s.sequencer.step s := rfl
  rw [hsame] at hwritten hshown
  have hrest : CommitStep none (writePattern s.sequencer.step s) (Machine.sequencerCommit defer s) := by
    unfold Machine.sequencerCommit
    generalize writePattern s.sequencer.step s = u
    dsimp only
    have hcounted : CommitStep none u { u with sequencer := { u.sequencer with commits := bump 65535 u.sequencer.commits } } :=
      of_view rfl
    split
    · exact refl u
    · split
      · exact hcounted.trans (enterStep ..)
      · split
        · split
          · exact hcounted.trans (of_view rfl)
          · exact hcounted.trans (stepTimeout _)
        · exact hcounted
  exact ⟨(hwritten.trans hrest).within, fun hlength =>
    hrest.stands _ (by decide) (hwritten.length.trans hlength) (hshown hlength)⟩

/-! ## The tracker, the fault outputs, the watches (R121, R156, R165) -/

theorem writeHeading (s : State) : CommitStep (some .tracker) s (writeHeading s) ∧
    (s.points.length = 256 → Stands .tracker (writeHeading s)) := by
  have hheading : CommitStep (some .tracker) s (outputWrite 42 (headingValue s.ppr s.tracker.heading) s) :=
    output (.inr (by decide)) (by decide) _ s
  have htwist : ∀ u : State, CommitStep (some .tracker) u (outputWrite 43 s.tracker.twist u) := fun u =>
    output (.inr (by decide)) (by decide) _ u
  have hquality : ∀ u : State, CommitStep (some .tracker) u (outputWrite 63 s.tracker.quality.code u) := fun u =>
    output (.inr (by decide)) (by decide) _ u
  refine ⟨(hheading.trans (htwist _)).trans (hquality _), fun hlength => ⟨?_, ?_, ?_⟩⟩
  · refine congrArg Point.value (((point_outputWrite_ne (by decide) _ _).trans (point_outputWrite_ne (by decide) _ _)).trans
      (point_outputWrite_same (by omega) _))
  · refine congrArg Point.value ((point_outputWrite_ne (by decide) _ _).trans (point_outputWrite_same ?_ _))
    rw [length_outputWrite]
    omega
  · refine congrArg Point.value (point_outputWrite_same ?_ _)
    rw [length_outputWrite, length_outputWrite]
    omega

theorem watchUpdate (s : State) (j : Nat) : CommitStep none s (watchUpdate s j) := by
  have hcode : ¬ FrameCode (fcWatch j) := by
    simp only [FrameCode, fcWatch, List.mem_cons, List.not_mem_nil, or_false, fcSlotMissing, fcSlotShort, fcMisplaced]
    omega
  have hjudged : ∀ becomes ends : Bool, CommitStep none s
      (if becomes then Machine.raise (fcWatch j) (s.pointValue (watchOf s.fat j).point) s
        else if ends then Machine.endCondition (fcWatch j) s else s) := by
    intro becomes ends
    cases becomes
    · cases ends
      · exact refl s
      · exact endCondition (.inl hcode) s
    · exact raise (.inl hcode) ..
  unfold Machine.watchUpdate
  dsimp only
  exact iteInduction (fun _ => hjudged _ _) (fun _ => refl s)

theorem watchesUpdate (s : State) : CommitStep none s (watchesUpdate s) := by
  unfold Machine.watchesUpdate
  generalize List.range 16 = l
  induction l generalizing s with
  | nil => exact refl s
  | cons j l ih => exact (watchUpdate s j).trans (ih _)

/-! ## One block of a commit (R12) -/

/-- A block's update leaves its own outputs showing its state, and the other blocks' theirs. -/
theorem runBlock (raises : List (Nat × Int)) (written : List Nat) (isLast : Bool) (f : Block) (s : State) :
    CommitStep (some f) s (runBlock raises written isLast f s) ∧
      (s.points.length = 256 → Stands f (runBlock raises written isLast f s)) := by
  cases f
  case stagedFaults => exact ⟨raiseAll raises s, fun _ => trivial⟩
  case envelope => exact envelopeUpdate written s
  case thermal => exact thermalUpdate s
  case arbiter => exact arbiterEvaluate s
  case decision => exact decisionUpdate written s
  case sequencer => exact sequencerCommit isLast s
  case tracker => exact writeHeading s
  case faultOutputs => exact ⟨writeFaultOutputs s, stands_writeFaultOutputs⟩
  case watches => exact ⟨(watchesUpdate s).within, fun _ => trivial⟩

end CommitStep

end Sys2Proof.Machine
end

section
/-! SUPPORT. The raises of a commit, the order of its blocks and the whole of it (R12, R38; log entry 5). -/

set_option Elab.async false

namespace Sys2Proof.Machine

open Sys2Proof.Safety

/-! ## Count, context and raise time of an event code (R160) -/

/-- What a raise writes for `RaisedFrom` to tell: count, context and raise time. -/
def raiseMarks (r : FaultRecord) : Nat × Int × Long := (r.count, r.context, r.raiseTime)

/-- The marks of a code after raises with these contexts at clock second `now`. -/
def marksAfter (now : Long) (m : Nat × Int × Long) (contexts : List Int) : Nat × Int × Long :=
  contexts.foldl (fun m c => (min 255 (m.1 + 1), c, now)) m

/-- The contexts that a list of raises gives to code `k`. -/
def contextsOf (k : Nat) (raises : List (Nat × Int)) : List Int := (raises.filter (fun x => x.1 == k)).map Prod.snd

theorem marksAfter_append (now : Long) (m : Nat × Int × Long) (cs ds : List Int) :
    marksAfter now m (cs ++ ds) = marksAfter now (marksAfter now m cs) ds := List.foldl_append

theorem contextsOf_append (k : Nat) (rs qs : List (Nat × Int)) : contextsOf k (rs ++ qs) = contextsOf k rs ++ contextsOf k qs := by
  rw [contextsOf, List.filter_append, List.map_append]
  rfl

theorem marksAfter_count (now : Long) (m : Nat × Int × Long) (cs : List Int) :
    min 255 ((marksAfter now m cs).1 + 1) = min 255 (m.1 + cs.length + 1) := by
  induction cs generalizing m with
  | nil => rfl
  | cons c cs ih =>
    refine (ih _).trans ?_
    simp only [List.length_cons]
    omega

/-- The marks are all that `RaisedFrom` speaks of. -/
theorem raisedFrom_of_marks {raises : List (Nat × Int)} {k : Nat} {s t : State}
    (h : raiseMarks (t.fault k) = marksAfter s.clock.seconds (raiseMarks (s.fault k)) (contextsOf k raises)) :
    RaisedFrom raises k s t := by
  have hnone : ∀ rs : List (Nat × Int), (∀ x ∈ rs, x.1 ≠ k) → rs.filter (fun x => x.1 == k) = [] := fun rs hrs =>
    List.filter_eq_nil_iff.2 fun x hx => by simpa using hrs x hx
  refine ⟨fun before c after hraises hafter => ?_, fun hno => ?_⟩
  · have hfilter : raises.filter (fun x => x.1 == k) = before.filter (fun x => x.1 == k) ++ [(k, c)] := by
      rw [hraises, List.filter_append, List.filter_cons, hnone after hafter]
      simp
    have hcontexts : contextsOf k raises = contextsOf k before ++ [c] := by
      rw [contextsOf, hfilter, List.map_append]
      rfl
    rw [hcontexts, marksAfter_append] at h
    have hlast : raiseMarks (t.fault k) = (min 255 ((marksAfter s.clock.seconds (raiseMarks (s.fault k)) (contextsOf k before)).1 + 1),
        c, s.clock.seconds) := h
    rw [marksAfter_count] at hlast
    simp only [raiseMarks, Prod.mk.injEq] at hlast
    obtain ⟨hcount, hcontext, htime⟩ := hlast
    refine ⟨hcount.trans ?_, hcontext, htime⟩
    rw [hfilter, List.length_append, List.length_singleton, contextsOf, List.length_map, Nat.add_assoc]
  · rw [contextsOf, hnone raises hno] at h
    simp only [raiseMarks, marksAfter, List.map_nil, List.foldl_nil, Prod.mk.injEq] at h
    exact h

theorem not_levelCode_of_frameCode {k : Nat} (h : FrameCode k) : levelCode k = false := by
  rcases h with h | ⟨hlo, hhi⟩
  · simp only [List.mem_cons, List.not_mem_nil, or_false] at h
    rcases h with rfl | rfl | rfl
    · decide
    · decide
    · decide
  · interval_cases k <;> decide

theorem lt_of_frameCode {k : Nat} (h : FrameCode k) : k < 64 := by
  simp only [FrameCode, List.mem_cons, List.not_mem_nil, or_false, fcSlotMissing, fcSlotShort, fcMisplaced] at h
  omega

theorem marks_raise {k : Nat} (hk : FrameCode k) {s : State} (hlength : s.faults.length = 64) (f : Nat × Int) :
    raiseMarks ((raise f.1 f.2 s).fault k) =
      marksAfter s.clock.seconds (raiseMarks (s.fault k)) (contextsOf k [f]) := by
  obtain ⟨hseek, hover⟩ := CommitStep.frameCode_ne hk
  by_cases hf : f.1 = k
  · have hcontexts : contextsOf k [f] = [f.2] := by simp [contextsOf, hf]
    have hlevel := not_levelCode_of_frameCode hk
    rw [hcontexts, hf, fault_raise_same (by rw [hlength]; exact lt_of_frameCode hk) hseek hover (.inl hlevel)]
    rfl
  · have hcontexts : contextsOf k [f] = [] := by simp [contextsOf, hf]
    rw [hcontexts, fault_raise_ne (Ne.symm hf) hseek hover]
    rfl

theorem marks_raiseAll {k : Nat} (hk : FrameCode k) (rs : List (Nat × Int)) {s : State} (hlength : s.faults.length = 64) :
    raiseMarks ((raiseAll rs s).fault k) = marksAfter s.clock.seconds (raiseMarks (s.fault k)) (contextsOf k rs) := by
  induction rs generalizing s with
  | nil => rfl
  | cons f rs ih =>
    have hstep : CommitStep (some .stagedFaults) s (raise f.1 f.2 s) := .raise (.inr rfl) ..
    have hclock : (raise f.1 f.2 s).clock = s.clock := hstep.kept State.clock
    have hrest : raiseMarks ((raiseAll (f :: rs) s).fault k) = raiseMarks ((raiseAll rs (raise f.1 f.2 s)).fault k) := rfl
    rw [hrest, ih (hstep.faults.trans hlength), hclock, marks_raise hk hlength, ← marksAfter_append, ← contextsOf_append]
    rfl

/-! ## The staged faults of a commit (R38) -/

theorem filterMap_ite {α β : Type} (p : α → Bool) (f : α → β) (l : List α) :
    l.filterMap (fun x => if p x then some (f x) else none) = (l.filter p).map f := by
  induction l with
  | nil => rfl
  | cons x l ih => cases h : p x <;> simp [h, ih]

theorem stagedRaises_eq (lane : Lane) (e : Engine) (s : State) : stagedRaises lane e s = commitRaises lane e s :=
  congrArg (_ ++ ·) (filterMap_ite _ _ _)

/-! ## The blocks in order (log entry 5) -/

/-- The blocks named, each at its first place. -/
def firstNamed (named order : List Block) : List Block :=
  order.foldl (fun acc b => if acc.contains b then acc else acc ++ [b]) named

theorem firstNamed_spec (order named : List Block) (hnodup : named.Nodup) :
    (firstNamed named order).Nodup ∧ (∀ b, b ∈ firstNamed named order ↔ b ∈ named ∨ b ∈ order) ∧
    (order.Nodup → (∀ b ∈ order, b ∉ named) → firstNamed named order = named ++ order) := by
  induction order generalizing named with
  | nil => exact ⟨hnodup, fun b => by simp [firstNamed], fun _ _ => by simp [firstNamed]⟩
  | cons b order ih =>
    have hstep : firstNamed named (b :: order) = firstNamed (if named.contains b then named else named ++ [b]) order := rfl
    rw [hstep]
    by_cases hb : b ∈ named
    · rw [if_pos (by simpa using hb)]
      obtain ⟨hno, hmem, -⟩ := ih named hnodup
      refine ⟨hno, fun c => ?_, fun _ hnew => absurd hb (hnew b List.mem_cons_self)⟩
      rw [hmem, List.mem_cons]
      constructor
      · exact fun h => h.imp_right .inr
      · rintro (h | rfl | h)
        · exact .inl h
        · exact .inl hb
        · exact .inr h
    · rw [if_neg (by simpa using hb)]
      have hnext : (named ++ [b]).Nodup := by
        rw [List.nodup_append]
        exact ⟨hnodup, List.nodup_singleton b, fun x hx y hy hxy => by
          rw [List.mem_singleton] at hy
          exact hb (hy ▸ hxy ▸ hx)⟩
      obtain ⟨hno, hmem, heq⟩ := ih (named ++ [b]) hnext
      refine ⟨hno, fun c => ?_, fun horder hnew => ?_⟩
      · rw [hmem, List.mem_append, List.mem_singleton, List.mem_cons, or_assoc]
      · rw [List.nodup_cons] at horder
        rw [heq horder.2 ?_, List.append_assoc, List.singleton_append]
        intro c hc
        rw [List.mem_append, List.mem_singleton, not_or]
        exact ⟨hnew c (List.mem_cons_of_mem _ hc), fun h => horder.1 (h ▸ hc)⟩

theorem mem_allBlocks (b : Block) : b ∈ allBlocks := by cases b <;> decide

theorem completeOrder_eq (order : List Block) :
    completeOrder order = firstNamed [] order ++ allBlocks.filter (fun b => !(firstNamed [] order).contains b) := rfl

theorem mem_completeOrder (order : List Block) (b : Block) : b ∈ completeOrder order := by
  rw [completeOrder_eq, List.mem_append]
  by_cases hb : b ∈ firstNamed [] order
  · exact .inl hb
  · exact .inr (List.mem_filter.2 ⟨mem_allBlocks b, by simpa using hb⟩)

theorem nodup_completeOrder (order : List Block) : (completeOrder order).Nodup := by
  obtain ⟨hnodup, -⟩ := firstNamed_spec order [] List.nodup_nil
  rw [completeOrder_eq, List.nodup_append]
  refine ⟨hnodup, List.Nodup.filter _ (by decide), fun x hx y hy hxy => ?_⟩
  have hno := (List.mem_filter.1 hy).2
  rw [← hxy] at hno
  simp [hx] at hno

theorem length_completeOrder (order : List Block) : (completeOrder order).length = 9 := by
  have hperm : (completeOrder order).Perm allBlocks :=
    (List.perm_ext_iff_of_nodup (nodup_completeOrder order) (by decide)).2 fun b =>
      iff_of_true (mem_completeOrder order b) (mem_allBlocks b)
  exact hperm.length_eq

theorem completeOrder_of_nodup {order : List Block} (h : order.Nodup) :
    completeOrder order = order ++ allBlocks.filter (fun b => decide (b ∉ order)) := by
  obtain ⟨-, -, heq⟩ := firstNamed_spec order [] List.nodup_nil
  have hnamed : firstNamed [] order = order := heq h (fun b _ => by simp)
  rw [completeOrder_eq, hnamed]
  refine congrArg (order ++ ·) (List.filter_congr fun b _ => ?_)
  simp [List.contains_eq_mem]

/-! ## The blocks run (R12) -/

/-- The state after the first `i` of the blocks. -/
def afterBlocks (raises : List (Nat × Int)) (written : List Nat) (blocks : List Block) (s : State) : Nat → State
  | 0 => s
  | i + 1 => match blocks[i]? with
    | some b => runBlock raises written (decide (i + 1 = blocks.length)) b (afterBlocks raises written blocks s i)
    | none => afterBlocks raises written blocks s i

theorem afterBlocks_succ {raises : List (Nat × Int)} {written : List Nat} {blocks : List Block} {s : State} {i : Nat} {b : Block}
    (h : blocks[i]? = some b) : afterBlocks raises written blocks s (i + 1) =
      runBlock raises written (decide (i + 1 = blocks.length)) b (afterBlocks raises written blocks s i) := by
  rw [afterBlocks, h]

theorem runBlocks_afterBlocks (raises : List (Nat × Int)) (written : List Nat) (blocks : List Block) (s : State) (n i : Nat)
    (hn : i + n = blocks.length) : runBlocks raises written (blocks.drop i) (afterBlocks raises written blocks s i) =
      afterBlocks raises written blocks s blocks.length := by
  induction n generalizing i with
  | zero =>
    rw [List.drop_of_length_le (by omega), ← hn]
    rfl
  | succ n ih =>
    have hi : i < blocks.length := by omega
    have hlast : (blocks.drop (i + 1)).isEmpty = decide (i + 1 = blocks.length) := by
      rw [Bool.eq_iff_iff, List.isEmpty_iff, List.drop_eq_nil_iff, decide_eq_true_eq]
      omega
    rw [List.drop_eq_getElem_cons hi, runBlocks, hlast, ← afterBlocks_succ (List.getElem?_eq_getElem hi)]
    exact ih (i + 1) (by omega)

theorem runBlocks_eq_after (raises : List (Nat × Int)) (written : List Nat) (blocks : List Block) (s : State) :
    runBlocks raises written blocks s = afterBlocks raises written blocks s blocks.length :=
  runBlocks_afterBlocks raises written blocks s blocks.length 0 (Nat.zero_add _)

/-- What every step of a commit leaves alone, whatever its block. -/
structure CommitKept (s t : State) : Prop where
  rest : outsideCommit t = outsideCommit s
  hits : t.entryHits = s.entryHits
  length : t.points.length = s.points.length
  point : ∀ n, n < 32 ∨ 63 < n → t.point n = s.point n
  faults : t.faults.length = s.faults.length

theorem CommitStep.commitKept {b : Option Block} {s t : State} (h : CommitStep b s t) : CommitKept s t :=
  ⟨h.rest, h.hits, h.length, h.point, h.faults⟩

namespace CommitKept

theorem refl (s : State) : CommitKept s s := ⟨rfl, rfl, rfl, fun _ _ => rfl, rfl⟩

theorem trans {s t u : State} (h : CommitKept s t) (k : CommitKept t u) : CommitKept s u :=
  ⟨k.rest.trans h.rest, k.hits.trans h.hits, k.length.trans h.length, fun n hn => (k.point n hn).trans (h.point n hn),
    k.faults.trans h.faults⟩

theorem kept {s t : State} {α : Type} (h : CommitKept s t) (f : State → α)
    (hf : ∀ u, f (outsideCommit u) = f u := by exact fun _ => rfl) : f t = f s := eq_of_view h.rest f hf

end CommitKept

/-- Once a block has run, its outputs show its state to the end of the commit. -/
theorem stands_runBlocks (raises : List (Nat × Int)) (written : List Nat) (blocks : List Block) {s : State}
    (hlength : s.points.length = 256) (f : Block) (hf : f ∈ blocks ∨ Stands f s) :
    Stands f (runBlocks raises written blocks s) := by
  induction blocks generalizing s with
  | nil => exact hf.resolve_left List.not_mem_nil
  | cons b blocks ih =>
    obtain ⟨hstep, hown⟩ := CommitStep.runBlock raises written blocks.isEmpty b s
    refine ih (hstep.length.trans hlength) ?_
    by_cases hfb : f = b
    · subst hfb
      exact .inr (hown hlength)
    · rcases hf with hf | hf
      · exact .inl ((List.mem_cons.1 hf).resolve_left hfb)
      · exact .inr (hstep.stands f (by simpa using hfb) hlength hf)

theorem commitKept_runBlocks (raises : List (Nat × Int)) (written : List Nat) (blocks : List Block) (s : State) :
    CommitKept s (runBlocks raises written blocks s) := by
  induction blocks generalizing s with
  | nil => exact .refl s
  | cons b blocks ih => exact (CommitStep.runBlock raises written blocks.isEmpty b s).1.commitKept.trans (ih _)

/-- The marks of the frame's codes change with the staged faults alone (R38). -/
theorem marks_runBlocks {k : Nat} (hk : FrameCode k) (raises : List (Nat × Int)) (written : List Nat) (blocks : List Block)
    (hnodup : blocks.Nodup) {s : State} (hlength : s.faults.length = 64) :
    raiseMarks ((runBlocks raises written blocks s).fault k) =
      marksAfter s.clock.seconds (raiseMarks (s.fault k)) (if Block.stagedFaults ∈ blocks then contextsOf k raises else []) := by
  induction blocks generalizing s with
  | nil => rfl
  | cons b blocks ih =>
    rw [List.nodup_cons] at hnodup
    obtain ⟨hnew, hnodup⟩ := hnodup
    have hstep := (CommitStep.runBlock raises written blocks.isEmpty b s).1
    have hclock : (runBlock raises written blocks.isEmpty b s).clock = s.clock := hstep.kept State.clock
    have hrest : runBlocks raises written (b :: blocks) s =
        runBlocks raises written blocks (runBlock raises written blocks.isEmpty b s) := rfl
    rw [hrest, ih hnodup (hstep.faults.trans hlength), hclock]
    by_cases hb : b = .stagedFaults
    · subst hb
      have hraised : runBlock raises written blocks.isEmpty .stagedFaults s = raiseAll raises s := rfl
      rw [if_neg hnew, if_pos List.mem_cons_self, hraised, marks_raiseAll hk raises hlength]
      rfl
    · have hsame := hstep.frame k hk (by simpa using hb)
      have hmem : Block.stagedFaults ∈ b :: blocks ↔ Block.stagedFaults ∈ blocks := by
        rw [List.mem_cons]
        exact or_iff_right (Ne.symm hb)
      rw [hsame, if_congr hmem rfl rfl]

end Sys2Proof.Machine
end

section
/-! PROOF. The end of a frame on the return lane (R8, R12, R13, R17, R38, R43, R167). -/

set_option Elab.async false

namespace Sys2Proof.Machine

open Sys2Proof.Safety

theorem judge_absent (k : Nat) (c : Int) (s : State) :
    judge k false c s = if s.condition k then endCondition k s else s := by
  unfold judge
  rw [Bool.false_and, if_neg Bool.false_ne_true, Bool.not_false, Bool.true_and]

/-! ## The stages of a sound end (R12, R17, R167; log entries 31, 32) -/

/-- The frame has left P3 and the lane is free (R8). -/
def returnTaken (s : State) : State :=
  { s with rx2 := { s.rx2 with mode := .none }, p3 := closedP3 false s, retLane := s.retLane.closed }

/-- The commit, where one is made (R12, R28, R75). -/
def returnCommitted (order : List Block) (e : Engine) (s : State) : State :=
  if e.active && s.running && !e.voided then returnCommit order e s else s

/-- The record removed and the bad ends counted anew (R14, R17, R190). -/
def returnUnbound (s x : State) : State := { x with retBad := 0, flight := withoutBound s, banks := drainedBanks s }

/-- The spotlight no longer in flight, its record settled if the frame has carried it (R167). -/
theorem settleSpotlight_of_none {carried : Bool} {s : State} (h : s.spotlight = none) : settleSpotlight carried s = s := by
  unfold settleSpotlight
  rw [h]

theorem settleSpotlight_of_some {carried : Bool} {s : State} {sp : Spotlight} (h : s.spotlight = some sp) :
    settleSpotlight carried s = { s with
      spotlight := none
      faults := if carried = true ∧ sp.raisedAgain = false ∧ (s.fault sp.code).pending = true then
          s.faults.set sp.code { s.fault sp.code with pending := false, reasserted := false }
        else s.faults } := by
  unfold settleSpotlight
  rw [h]
  dsimp only
  have hboth : (carried && !sp.raisedAgain && (s.fault sp.code).pending) = true ↔
      carried = true ∧ sp.raisedAgain = false ∧ (s.fault sp.code).pending = true := by
    simp [and_assoc]
  by_cases hsettles : carried = true ∧ sp.raisedAgain = false ∧ (s.fault sp.code).pending = true
  · rw [if_pos hsettles]
    exact if_pos (hboth.2 hsettles)
  · rw [if_neg hsettles]
    exact if_neg fun h => hsettles (hboth.1 h)

theorem spotlight_settleSpotlight (carried : Bool) (s : State) : (settleSpotlight carried s).spotlight = none := by
  cases h : s.spotlight with
  | none => rw [settleSpotlight_of_none h, h]
  | some sp => rw [settleSpotlight_of_some h]

/-- A settled spotlight leaves what a raise has written of every code. -/
theorem marks_settleSpotlight (carried : Bool) (k : Nat) (s : State) :
    raiseMarks ((settleSpotlight carried s).fault k) = raiseMarks (s.fault k) ∧
      (settleSpotlight carried s).condition k = s.condition k := by
  cases h : s.spotlight with
  | none =>
    rw [settleSpotlight_of_none h]
    exact ⟨rfl, rfl⟩
  | some sp =>
    rw [settleSpotlight_of_some h]
    split
    · have hset : ∀ r : FaultRecord, raiseMarks r = raiseMarks (s.fault sp.code) → r.condition = (s.fault sp.code).condition →
          raiseMarks ((s.setFault sp.code r).fault k) = raiseMarks (s.fault k) ∧
            (s.setFault sp.code r).condition k = s.condition k := by
        intro r hmarks hcondition
        by_cases hk : sp.code = k
        · subst hk
          by_cases hlt : sp.code < s.faults.length
          · rw [State.condition, fault_setFault_same hlt]
            exact ⟨hmarks, hcondition⟩
          · rw [State.setFault, List.set_eq_of_length_le (by omega)]
            exact ⟨rfl, rfl⟩
        · rw [State.condition, fault_setFault_ne hk]
          exact ⟨rfl, rfl⟩
      exact hset _ rfl rfl
    · exact ⟨rfl, rfl⟩

theorem exec_returnFrameEnd_sound {order : List Block} {s : State} (hdue : s.due = []) (hmode : s.rx2.mode = .passing)
    (hsound : s.retLane.sound = true) : exec (.returnFrameEnd order) s = .next (settleSpotlight (s.retLane.kind == kindCycle)
      (setBad .ret 0 (removeRecord s.retLane (raiseMisplaced s.retLane
        (returnCommitted order s.retLane (returnTaken s)))))) := by
  have hexec : exec (.returnFrameEnd order) s = .next (endAtP2 false order (settle s)) := rfl
  rw [hexec, settle_of_due_nil hdue, endAtP2_of_passing order hmode]
  have hgood : ((setMode2 .none s).retLane.sound && !false) = true := by
    rw [Bool.not_false, Bool.and_true]
    exact hsound
  unfold closeReturn
  dsimp only
  rw [hgood]
  simp only [if_true, Bool.not_true, endReturn_eq]
  rfl

/-! ## What the commit leaves (R12, R43) -/

/-- The state that the blocks of a commit start from (R43). -/
theorem commit_step (values : List (Nat × Int)) (s : State) :
    CommitStep none { s with points := commitPoints s.points values } (commit values s) := by
  obtain ⟨present, n, heq, -⟩ := evaluateStale_eq { s with points := commitPoints s.points values }
  have hcommit : commit values s = evaluateStale { s with points := commitPoints s.points values } := rfl
  rw [hcommit, heq]
  exact .judge (by decide) ..

theorem returnCommit_eq (order : List Block) (e : Engine) (s : State) : returnCommit order e s =
    runBlocks (commitRaises .ret e s) (writtenSet s.points e.staging.values) (completeOrder order)
      (commit e.staging.values s) := by
  have hbanks : (commit e.staging.values s).banks = s.banks := (commit_step e.staging.values s).kept State.banks
  have hbound : (commit e.staging.values s).boundSmt e.generation = s.boundSmt e.generation := by
    simp only [State.boundSmt, State.smt, State.active, State.shadow, hbanks]
  have hraises : commitRaises .ret e (commit e.staging.values s) = commitRaises .ret e s := by
    simp only [commitRaises, hbound]
  rw [← hraises, ← stagedRaises_eq]
  rfl

theorem commits_iff (e : Engine) (s : State) : (e.active && s.running && !e.voided) = true ↔
    e.active = true ∧ s.opState ≠ .pass ∧ e.voided = false := by
  rw [running_eq]
  simp [and_assoc]

theorem returnCommitted_of {order : List Block} {e : Engine} {s : State} (hactive : e.active = true) (hstate : s.opState ≠ .pass)
    (hvoided : e.voided = false) : returnCommitted order e s = returnCommit order e s :=
  if_pos ((commits_iff e s).2 ⟨hactive, hstate, hvoided⟩)

theorem returnCommitted_of_not {order : List Block} {e : Engine} {s : State}
    (h : e.active = false ∨ s.opState = .pass ∨ e.voided = true) : returnCommitted order e s = s := by
  refine if_neg fun hno => ?_
  obtain ⟨hactive, hstate, hvoided⟩ := (commits_iff e s).1 hno
  rcases h with h | h | h
  · rw [hactive] at h
    cases h
  · exact hstate h
  · rw [hvoided] at h
    cases h

theorem commitKept_returnCommit (order : List Block) (e : Engine) (s : State) :
    CommitKept { s with points := commitPoints s.points e.staging.values } (returnCommit order e s) := by
  rw [returnCommit_eq]
  exact (commit_step e.staging.values s).commitKept.trans (commitKept_runBlocks ..)

theorem returnCommitted_frame (order : List Block) (e : Engine) (s : State) :
    outsideCommit (returnCommitted order e s) = outsideCommit s ∧ (returnCommitted order e s).entryHits = s.entryHits ∧
      (returnCommitted order e s).faults.length = s.faults.length := by
  unfold returnCommitted
  split
  · obtain ⟨hrest, hhits, -, -, hfaults⟩ := commitKept_returnCommit order e s
    exact ⟨hrest, hhits, hfaults⟩
  · exact ⟨rfl, rfl, rfl⟩

theorem marks_returnCommit {k : Nat} (hk : FrameCode k) (order : List Block) (e : Engine) {s : State} (hlength : s.faults.length = 64) :
    raiseMarks ((returnCommit order e s).fault k) =
      marksAfter s.clock.seconds (raiseMarks (s.fault k)) (contextsOf k (commitRaises .ret e s)) := by
  have hstep := commit_step e.staging.values s
  have hclock : (commit e.staging.values s).clock = s.clock := hstep.kept State.clock
  have hfault : (commit e.staging.values s).fault k = s.fault k := hstep.frame k hk (by decide)
  rw [returnCommit_eq, marks_runBlocks hk _ _ _ (nodup_completeOrder order) (hstep.faults.trans hlength),
    if_pos (mem_completeOrder ..), hclock, hfault]

/-! ## What follows the commit (R12, R14, R17, R167) -/

theorem raiseMisplaced_eq (e : Engine) (s : State) :
    raiseMisplaced e s = e.staging.misplaced.foldl (fun x ordinal => raise fcMisplaced ordinal x) s := by
  unfold raiseMisplaced raiseAll
  rw [List.foldl_map]

theorem raiseMisplaced_step (e : Engine) (s : State) : CommitStep (some .stagedFaults) s (raiseMisplaced e s) :=
  .raiseAll ..

/-- What lies behind the raises of SERVICE_MISPLACED: record, count of bad ends, RING_RETURN_ERRORS. -/
theorem removeRecord_setBad {s x : State} (hflight : x.flight = s.flight) (hbanks : x.banks = s.banks) :
    setBad .ret 0 (removeRecord s.retLane x) = judge fcReturnErrors false 4 (returnUnbound s x) := by
  rw [removeRecord_eq (t := s) rfl hflight hbanks, setBad_ret]
  rfl

theorem active_drainedBanks (s : State) : (drainedBanks s).active = s.banks.active := by
  unfold drainedBanks
  split
  · split
    · rfl
    · rfl
  · rfl

theorem stands_returnUnbound {s x : State} (hbanks : x.banks = s.banks) {f : Block} (h : Stands f x) :
    Stands f (returnUnbound s x) := by
  have hactive : ∀ t, (returnUnbound s x).active t = x.active t := fun t => by
    have hcopies : (returnUnbound s x).banks.active = x.banks.active := (active_drainedBanks s).trans (by rw [hbanks])
    rw [State.active, State.active, hcopies]
  cases f
  case arbiter =>
    obtain ⟨hpump, hfan, hmax⟩ := h
    refine ⟨hpump, hfan, hmax.trans ?_⟩
    rw [State.pumpKwMax, State.pumpKwMax, State.plt, State.plt, hactive]
  case tracker =>
    obtain ⟨hheading, htwist, hquality⟩ := h
    refine ⟨hheading.trans ?_, htwist, hquality⟩
    rw [State.ppr, State.ppr, State.ycf, State.ycf, hactive]
    rfl
  all_goals exact h

theorem settleSpotlight_outside (carried : Bool) (s : State) : outsideFaults (settleSpotlight carried s) = outsideFaults s :=
  (Managed.refl.settled carried).outside

theorem stands_settleSpotlight {carried : Bool} {f : Block} {s : State} (h : Stands f s) : Stands f (settleSpotlight carried s) := by
  have hsame : Stands f (settleSpotlight carried s) = Stands f s :=
    eq_of_view (settleSpotlight_outside carried s) (Stands f) (fun u => by cases f <;> rfl)
  rw [hsame]
  exact h

/-- The end of a sound frame from the state `c` that its commit has left, where one is made. -/
def returnClosed (s c : State) : State :=
  settleSpotlight (s.retLane.kind == kindCycle)
    (judge fcReturnErrors false 4 (returnUnbound s (raiseMisplaced s.retLane c)))

theorem exec_returnFrameEnd_closed {order : List Block} {s : State} (hdue : s.due = []) (hmode : s.rx2.mode = .passing)
    (hsound : s.retLane.sound = true) : exec (.returnFrameEnd order) s =
      .next (returnClosed s (returnCommitted order s.retLane (returnTaken s))) := by
  obtain ⟨hrest, -⟩ := returnCommitted_frame order s.retLane (returnTaken s)
  have hstep := raiseMisplaced_step s.retLane (returnCommitted order s.retLane (returnTaken s))
  have hflight : (raiseMisplaced s.retLane (returnCommitted order s.retLane (returnTaken s))).flight = s.flight :=
    (hstep.kept State.flight).trans (eq_of_view hrest State.flight)
  have hbanks : (raiseMisplaced s.retLane (returnCommitted order s.retLane (returnTaken s))).banks = s.banks :=
    (hstep.kept State.banks).trans (eq_of_view hrest State.banks)
  rw [exec_returnFrameEnd_sound hdue hmode hsound, removeRecord_setBad hflight hbanks]
  rfl

theorem outsideCommit_settleSpotlight (carried : Bool) (s : State) :
    outsideCommit (settleSpotlight carried s) = outsideCommit s :=
  eq_of_view (settleSpotlight_outside carried s) outsideCommit

/-- All but the blocks' own state, the points and the fault manager after a sound end. -/
theorem returnClosed_frame {s c : State} (hrest : outsideCommit c = outsideCommit (returnTaken s)) :
    outsideCommit (returnClosed s c) = outsideCommit (returnUnbound s (returnTaken s)) := by
  have hjudged : ∀ u : State, CommitStep none u (judge fcReturnErrors false 4 u) := fun u => .judge (by decide) ..
  have hunbound : ∀ u v : State, outsideCommit u = outsideCommit v →
      outsideCommit (returnUnbound s u) = outsideCommit (returnUnbound s v) := fun u v h =>
    congrArg (fun w : State => { w with retBad := 0, flight := withoutBound s, banks := drainedBanks s }) h
  exact (outsideCommit_settleSpotlight ..).trans ((hjudged _).rest.trans
    (hunbound _ _ ((raiseMisplaced_step s.retLane c).rest.trans hrest)))

theorem entryHits_returnClosed (s c : State) : (returnClosed s c).entryHits = c.entryHits := by
  have hjudged : ∀ u : State, CommitStep none u (judge fcReturnErrors false 4 u) := fun u => .judge (by decide) ..
  exact (eq_of_view (settleSpotlight_outside ..) State.entryHits).trans ((hjudged _).hits.trans
    (raiseMisplaced_step s.retLane c).hits)

theorem marks_returnClosed {k : Nat} (hk : FrameCode k) {s c : State} (hlength : c.faults.length = 64) :
    raiseMarks ((returnClosed s c).fault k) = marksAfter c.clock.seconds (raiseMarks (c.fault k))
      (contextsOf k (s.retLane.staging.misplaced.map (fun ordinal => (fcMisplaced, (ordinal : Int))))) := by
  have hjudged : ∀ u : State, CommitStep none u (judge fcReturnErrors false 4 u) := fun u => .judge (by decide) ..
  obtain ⟨hsettled, -⟩ := marks_settleSpotlight (s.retLane.kind == kindCycle) k
    (judge fcReturnErrors false 4 (returnUnbound s (raiseMisplaced s.retLane c)))
  exact hsettled.trans ((congrArg raiseMarks ((hjudged _).frame k hk (by decide))).trans (marks_raiseAll hk _ hlength))

theorem stands_returnClosed {s c : State} {f : Block} (hf : f ≠ .stagedFaults) (hlength : c.points.length = 256)
    (hbanks : c.banks = s.banks) (h : Stands f c) : Stands f (returnClosed s c) := by
  have hjudged : ∀ u : State, CommitStep none u (judge fcReturnErrors false 4 u) := fun u => .judge (by decide) ..
  have hraised := raiseMisplaced_step s.retLane c
  have hmisplaced := hraised.stands f (by simpa using hf) hlength h
  exact stands_settleSpotlight ((hjudged _).stands f (by simp) (hraised.length.trans hlength)
    (stands_returnUnbound ((hraised.kept State.banks).trans hbanks) hmisplaced))

theorem point_returnClosed (s c : State) : (returnClosed s c).points.length = c.points.length ∧
    ∀ n, n < 32 ∨ 63 < n → (returnClosed s c).point n = c.point n := by
  have hjudged : ∀ u : State, CommitStep none u (judge fcReturnErrors false 4 u) := fun u => .judge (by decide) ..
  have hraised := raiseMisplaced_step s.retLane c
  have hpoints : (returnClosed s c).points =
      (judge fcReturnErrors false 4 (returnUnbound s (raiseMisplaced s.retLane c))).points :=
    eq_of_view (settleSpotlight_outside ..) State.points
  refine ⟨(congrArg List.length hpoints).trans ((hjudged _).length.trans hraised.length), fun n hn => ?_⟩
  have hunbound := (hjudged (returnUnbound s (raiseMisplaced s.retLane c))).point n hn
  exact (congrArg (fun l => l.getD n Point.reset) hpoints).trans (hunbound.trans (hraised.point n hn))

theorem getElem?_eq_of_point {s t : State} (hlength : t.points.length = s.points.length) {n : Nat} (h : t.point n = s.point n) :
    t.points[n]? = s.points[n]? := by
  by_cases hn : n < s.points.length
  · simp only [State.point, List.getD_eq_getElem?_getD, List.getElem?_eq_getElem hn,
      List.getElem?_eq_getElem (hlength.symm ▸ hn : n < t.points.length), Option.getD_some] at h
    rw [List.getElem?_eq_getElem hn, List.getElem?_eq_getElem (hlength.symm ▸ hn : n < t.points.length), h]
  · rw [List.getElem?_eq_none (by omega), List.getElem?_eq_none (by omega)]

end Sys2Proof.Machine
end

section
/-! PROOF. O41: a return-lane end (R8, R12, R13, R14, R17, R38, R43, R167; log entries 5, 9, 28, 31, 32, 35). -/

set_option Elab.async false

namespace Sys2Proof.Machine

open Sys2Proof.Safety

/-! ## A sound end, whether or not it commits -/

/-- The state that a sound end leaves. -/
def returnEnded (order : List Block) (s : State) : State :=
  returnClosed s (returnCommitted order s.retLane (returnTaken s))

theorem outsideCommit_returnEnded (order : List Block) (s : State) :
    outsideCommit (returnEnded order s) = outsideCommit (returnUnbound s (returnTaken s)) :=
  returnClosed_frame (returnCommitted_frame order s.retLane (returnTaken s)).1

/-- A field that the commit and the fault manager leave alone. -/
theorem returnEnded_kept {α : Type} (f : State → α) (order : List Block) (s : State)
    (hf : ∀ u, f (outsideCommit u) = f u := by exact fun _ => rfl) :
    f (returnEnded order s) = f (returnUnbound s (returnTaken s)) :=
  eq_of_view (outsideCommit_returnEnded order s) f hf

theorem entryHits_returnEnded (order : List Block) (s : State) : (returnEnded order s).entryHits = s.entryHits :=
  (entryHits_returnClosed ..).trans (returnCommitted_frame order s.retLane (returnTaken s)).2.1

theorem condition_returnEnded (order : List Block) (s : State) : (returnEnded order s).condition fcReturnErrors = false :=
  (marks_settleSpotlight ..).2.trans (condition_judge (present := false) rfl (fun h => Bool.noConfusion h) _)

theorem byFaultsOnly_returnClosed (s u : State) : ByFaultsOnly (returnUnbound s u) (returnClosed s u) := by
  have hraised : outsideMoves (returnUnbound s (raiseMisplaced s.retLane u)) = outsideMoves (returnUnbound s u) :=
    congrArg (fun v : State => { v with retBad := 0, flight := withoutBound s, banks := drainedBanks s })
      (outsideMoves_raiseAll ..)
  have hpoints : KeepsPoints (returnUnbound s u) (returnUnbound s (raiseMisplaced s.retLane u)) := KeepsPoints.raiseAll ..
  refine byFaultsOnly_of ?_ ((hpoints.trans (.judge ..)).trans (.of_outsideFaults (settleSpotlight_outside ..)))
  exact (outsideMoves_of_actions (outsideActions_of_faults (settleSpotlight_outside ..))).trans
    ((outsideMoves_judge ..).trans hraised)

/-- Every raise of a sound end shows in its code's record (R19, R38, R160). -/
theorem raisedFrom_returnEnded {k : Nat} (hk : FrameCode k) (order : List Block) {s : State} (hlength : s.faults.length = 64) :
    RaisedFrom ((if s.retLane.active = true ∧ s.opState ≠ .pass ∧ s.retLane.voided = false
        then commitRaises .ret s.retLane s else []) ++
      s.retLane.staging.misplaced.map (fun ordinal => (fcMisplaced, (ordinal : Int)))) k s (returnEnded order s) := by
  obtain ⟨hrest, -, hfaults⟩ := returnCommitted_frame order s.retLane (returnTaken s)
  have hclock : (returnCommitted order s.retLane (returnTaken s)).clock = s.clock := eq_of_view hrest State.clock
  have hcommit : raiseMarks ((returnCommitted order s.retLane (returnTaken s)).fault k) =
      marksAfter s.clock.seconds (raiseMarks (s.fault k))
        (contextsOf k (if s.retLane.active = true ∧ s.opState ≠ .pass ∧ s.retLane.voided = false
          then commitRaises .ret s.retLane s else [])) := by
    by_cases hcommits : s.retLane.active = true ∧ s.opState ≠ .pass ∧ s.retLane.voided = false
    · obtain ⟨hactive, hstate, hvoided⟩ := hcommits
      rw [if_pos ⟨hactive, hstate, hvoided⟩, returnCommitted_of (s := returnTaken s) hactive hstate hvoided]
      exact marks_returnCommit hk order s.retLane (s := returnTaken s) hlength
    · rw [if_neg hcommits]
      have hnone : returnCommitted order s.retLane (returnTaken s) = returnTaken s :=
        if_neg fun hno => hcommits ((commits_iff s.retLane (returnTaken s)).1 hno)
      rw [hnone]
      rfl
  refine raisedFrom_of_marks ?_
  rw [contextsOf_append, marksAfter_append, ← hcommit, ← hclock]
  exact marks_returnClosed hk (hfaults.trans hlength)

/-! ## A sound end that commits (R12, R43) -/

section
variable {s : State} (hactive : s.retLane.active = true) (hstate : s.opState ≠ .pass) (hvoided : s.retLane.voided = false)

include hactive hstate hvoided in
theorem returnEnded_of_commit (order : List Block) : returnEnded order s =
    returnClosed s (returnCommit order s.retLane (returnTaken s)) :=
  congrArg (returnClosed s) (returnCommitted_of (s := returnTaken s) hactive hstate hvoided)

include hactive hstate hvoided in
/-- Inputs and free points are those that the commit has written. -/
theorem points_returnEnded (order : List Block) {n : Nat} (hn : n < 32 ∨ 63 < n) :
    (returnEnded order s).points[n]? = (commitPoints s.points s.retLane.staging.values)[n]? := by
  have hkept := commitKept_returnCommit order s.retLane (returnTaken s)
  obtain ⟨hlength, hpoint⟩ := point_returnClosed s (returnCommit order s.retLane (returnTaken s))
  rw [returnEnded_of_commit hactive hstate hvoided]
  exact getElem?_eq_of_point (s := { returnTaken s with points := commitPoints s.points s.retLane.staging.values })
    (hlength.trans hkept.length) ((hpoint n hn).trans (hkept.point n hn))

include hactive hstate hvoided in
/-- Every block's outputs show its state. -/
theorem stands_returnEnded (order : List Block) (hlength : s.points.length = 256) {f : Block} (hf : f ≠ .stagedFaults) :
    Stands f (returnEnded order s) := by
  have hkept := commitKept_returnCommit order s.retLane (returnTaken s)
  have hpoints : (returnCommit order s.retLane (returnTaken s)).points.length = 256 :=
    hkept.length.trans ((commitPoints_length ..).trans hlength)
  have hstep := commit_step s.retLane.staging.values (returnTaken s)
  have hcommitted : (commit s.retLane.staging.values (returnTaken s)).points.length = 256 :=
    hstep.length.trans ((commitPoints_length ..).trans hlength)
  have hstands : Stands f (returnCommit order s.retLane (returnTaken s)) := by
    rw [returnCommit_eq]
    exact stands_runBlocks _ _ _ hcommitted f (.inl (mem_completeOrder order f))
  rw [returnEnded_of_commit hactive hstate hvoided]
  exact stands_returnClosed hf hpoints (hkept.kept State.banks) hstands

end

/-- What comes behind the commit, stage by stage (log entries 31, 32). -/
theorem returnClosed_eq (s c : State) {x w : State}
    (hx : x = s.retLane.staging.misplaced.foldl (fun x ordinal => raise fcMisplaced ordinal x) c)
    (hw : w = if (returnUnbound s x).condition fcReturnErrors then endCondition fcReturnErrors (returnUnbound s x)
      else returnUnbound s x) : returnClosed s c = settleSpotlight (s.retLane.kind == kindCycle) w := by
  rw [hw, hx, ← raiseMisplaced_eq, ← judge_absent _ 4]
  rfl

/-! ## The commit block by block (log entries 5, 28, 35) -/

theorem returnCommit_afterBlocks (order : List Block) (s : State) : returnCommit order s.retLane (returnTaken s) =
    afterBlocks (commitRaises .ret s.retLane s) (writtenSet s.points s.retLane.staging.values) (completeOrder order)
      (commit s.retLane.staging.values (returnTaken s)) 9 := by
  rw [returnCommit_eq, runBlocks_eq_after, length_completeOrder]
  rfl

theorem mem_writtenSet {points : List Point} {values : List (Nat × Int)} {n : Nat} :
    n ∈ writtenSet points values ↔ n ∈ values.map Prod.fst ∧ (points.getD n .reset).quality ≠ .forced := by
  rw [writtenSet, List.mem_filter, decide_eq_true_eq]

/-- A commit is its points and STALE_INPUT judged on them (log entry 35). -/
theorem commit_spec (values : List (Nat × Int)) (s u : State) (hu : u = { s with points := commitPoints s.points values })
    (hlength : s.faults.length = 64) : ByFaultsOnly u (commit values s) ∧
      ((commit values s).condition fcStaleInput = true ↔
        ∃ m, m < 32 ∧ ((commit values s).point m).quality = .stale ∧ stalenessLimit s.smt m ≠ 255) ∧
      ((commit values s).condition fcStaleInput = s.condition fcStaleInput → commit values s = u) := by
  subst hu
  obtain ⟨present, n, heq, hpresent, -⟩ := evaluateStale_eq { s with points := commitPoints s.points values }
  have hcommit : commit values s = judge fcStaleInput present n { s with points := commitPoints s.points values } := heq
  have hcondition : (commit values s).condition fcStaleInput = present := by
    rw [hcommit]
    exact condition_judge rfl (fun _ => by rw [hlength]; decide) _
  have hsmt : (commit values s).smt = s.smt := by
    have hbanks : (commit values s).banks = s.banks := (commit_step values s).kept State.banks
    rw [State.smt, State.smt, State.active, State.active, hbanks]
  have hstale : ∀ m, m < 32 → (({ s with points := commitPoints s.points values } : State).staleInput m = true ↔
      ((commit values s).point m).quality = .stale ∧ stalenessLimit s.smt m ≠ 255) := fun m hm => by
    rw [← staleInput_judge hm fcStaleInput present n, ← hcommit, staleInput_eq_true_iff, hsmt]
  refine ⟨?_, ?_, fun hsame => ?_⟩
  · rw [hcommit]
    exact byFaultsOnly_judge ..
  · rw [hcondition, hpresent]
    exact exists_congr fun m => and_congr_right (hstale m)
  · have hstands : ({ s with points := commitPoints s.points values } : State).condition fcStaleInput = present :=
      hsame.symm.trans hcondition
    exact hcommit.trans (judge_of_same hstands _)

end Sys2Proof.Machine

namespace Sys2Proof.Safety

open Sys2Proof.Machine

/-- Settles O41: a sound end is the commit, where one is made, and what log entries 31 and 32 have behind it; every block's
outputs are kept by the updates of the others. -/
theorem returnFrameEndCommitsAndUpdates : Obligations.ReturnFrameEndCommitsAndUpdates := by
  unfold Obligations.ReturnFrameEndCommitsAndUpdates
  intro order s hdue
  have hexec : exec (.returnFrameEnd order) s = .next (endAtP2 false order s) := by
    have hsettled : exec (.returnFrameEnd order) s = .next (endAtP2 false order (settle s)) := rfl
    rw [hsettled, settle_of_due_nil hdue]
  refine ⟨fun hmode => ?_, fun hmode hsound => ?_, fun hmode hsound => ?_, fun hmode hsound hfaults hpoints u hu => ?_⟩
  · rw [hexec, endAtP2_of_not_passing order hmode]
    rfl
  · refine ⟨_, hexec, ?_⟩
    rw [endAtP2_of_passing order hmode]
    refine retBadEnd_closeReturn (s := setMode2 .none s) order ?_
    rw [Bool.and_eq_false_iff]
    exact .inl hsound
  · refine ⟨returnEnded order s, exec_returnFrameEnd_closed hdue hmode hsound, returnEnded_kept State.retBad order s,
      condition_returnEnded order s, spotlight_settleSpotlight .., returnEnded_kept State.retLane order s,
      returnEnded_kept State.p3 order s, returnEnded_kept State.flight order s, returnEnded_kept State.banks order s,
      fun hfaults k hk => raisedFrom_returnEnded hk order hfaults, fun hno => ?_, fun hactive hstate hvoided hpoints => ?_,
      returnEnded_kept State.clock order s, returnEnded_kept State.supervision order s, returnEnded_kept State.opState order s,
      returnEnded_kept State.outLane order s, returnEnded_kept State.rx0 order s, returnEnded_kept State.p1 order s,
      returnEnded_kept State.hold order s, returnEnded_kept State.prevCycle order s, returnEnded_kept State.carrier order s,
      returnEnded_kept State.inputs order s, returnEnded_kept State.timebase order s, returnEnded_kept State.outBad order s,
      entryHits_returnEnded order s, returnEnded_kept State.pending order s, returnEnded_kept State.response order s,
      returnEnded_kept State.nextFlight order s, returnEnded_kept State.islandBytes order s⟩
    · rw [returnEnded, returnCommitted_of_not (s := returnTaken s) hno]
      exact byFaultsOnly_returnClosed s (returnTaken s)
    · have hstands : ∀ f, f ≠ .stagedFaults → Stands f (returnEnded order s) := fun f hf =>
        stands_returnEnded hactive hstate hvoided order hpoints hf
      obtain ⟨hride, hexposure⟩ := hstands .envelope (by decide)
      obtain ⟨hpump, hfan, -⟩ := hstands .arbiter (by decide)
      obtain ⟨hheading, htwist, hquality⟩ := hstands .tracker (by decide)
      obtain ⟨hderate, hseverity⟩ := hstands .faultOutputs (by decide)
      exact ⟨fun n hn => points_returnEnded hactive hstate hvoided order hn, hstands .thermal (by decide), hride, hexposure,
        hpump, hfan, fun hppr => hheading.trans (if_neg hppr), htwist, hquality, hderate, hseverity,
        hstands .decision (by decide), hstands .sequencer (by decide)⟩
  · subst hu
    refine ⟨returnCommitted order s.retLane (returnTaken s), _, _, _, returnEnded order s,
      exec_returnFrameEnd_closed hdue hmode hsound, fun hno => returnCommitted_of_not (s := returnTaken s) hno,
      fun hactive hstate hvoided => ?_, rfl, rfl, rfl, fun hnone => ?_, fun sp hsome => ?_⟩
    · obtain ⟨hframe, hstale, hsame⟩ := commit_spec s.retLane.staging.values (returnTaken s) _ rfl hfaults
      refine ⟨writtenSet s.points s.retLane.staging.values, completeOrder order,
        afterBlocks (commitRaises .ret s.retLane s) (writtenSet s.points s.retLane.staging.values) (completeOrder order)
          (commit s.retLane.staging.values (returnTaken s)), ?_, fun n => mem_writtenSet, length_completeOrder order,
        nodup_completeOrder order, completeOrder_of_nodup, hframe, hstale, hsame, fun i b hb => ?_⟩
      · rw [returnCommitted_of (s := returnTaken s) hactive hstate hvoided]
        exact returnCommit_afterBlocks order s
      · have hlast : decide (i + 1 = (completeOrder order).length) = decide (i = 8) := by
          rw [length_completeOrder]
          exact decide_eq_decide.2 (by omega)
        rw [afterBlocks_succ hb, hlast]
        cases b <;> rfl
    · exact (returnClosed_eq s _ rfl rfl).trans (settleSpotlight_of_none hnone)
    · have hsettled := settleSpotlight_of_some (carried := s.retLane.kind == kindCycle) hsome
      simp only [beq_iff_eq] at hsettled
      exact (returnClosed_eq s _ rfl rfl).trans hsettled

end Sys2Proof.Safety
end
